-- ==== Sys2Proof/Word.lean ====
section
/-! DEFINITION. The word types of the model and their plainest arithmetic. -/
namespace Sys2Proof

/-- One byte. -/
abbrev Byte := BitVec 8
/-- A 32-bit register or field. -/
abbrev Word32 := BitVec 32
/-- A 64-bit register or field. -/
abbrev Word64 := BitVec 64

/-- Ceiling of a quotient, as the manual writes ceil(a / b). -/
def ceilDiv (a b : Nat) : Nat := (a + b - 1) / b

/-- Addition that stops at `top` (a saturating counter, R58). -/
def satAdd (top a n : Nat) : Nat := min top (a + n)

/-- Largest value of a 32-bit saturating counter (R58). -/
def top32 : Nat := 0xFFFFFFFF

/-- A 32-bit counter increased by one, saturating (R58). -/
def inc32 (a : Nat) : Nat := satAdd top32 a 1

/-- Bit `i` of a number (R11). -/
def bit (n i : Nat) : Bool := n.testBit i

/-- A flag as a number. -/
def b2n (b : Bool) : Nat := if b then 1 else 0

/-- Field [hi:lo] of a number (R11). -/
def field (n hi lo : Nat) : Nat := (n >>> lo) % 2 ^ (hi + 1 - lo)

end Sys2Proof
end

