-- ==== Sys2Proof/Syntax.lean ====
section
/-! DEFINITION. The commands of the PHM860: one constructor for each row of spec/opcode_table.json, with what the
sender of the command supplies. A barge opcode takes the barge; a register access takes its offset, width and value;
an event takes what the world outside the module decides. -/
namespace Sys2Proof

/-- A barge as it stands in its ring's slots: the 64 header bytes (Table 2-8) and the payload slots, SLOTS × 64 bytes in
all, and the ring that carries it. -/
structure Barge where
  /-- Ring that carries the barge; 02 R66. -/
  ring : Nat := 0
  /-- Its bytes: header 0x00 to 0x3F, payload from 0x40 (the offsets of DETAIL, R92). -/
  bytes : List Byte := []
  deriving DecidableEq, Repr, Inhabited

/-- How the host answers a fetch (R68). -/
inductive FetchAnswer where
  | good | error
  deriving DecidableEq, Repr, Inhabited

/-- What is unmasked or enabled in MSI-X (R435). -/
inductive MsixTarget where
  | vector (n : Nat) | function | enable
  deriving DecidableEq, Repr, Inhabited

/-- New symbol errors of a device-memory codeword: codeword, mirror copy, and (symbol, error) pairs (R540). -/
structure Upset where
  /-- Codeword: floor(device address / 128); 18 R540. -/
  word : Nat := 0
  /-- The upset is in the mirror copy; 03 R99. -/
  mirror : Bool := false
  /-- Symbol positions and error values; 18 R539. -/
  syms : List (Nat × Nat) := []
  deriving DecidableEq, Repr, Inhabited

/-- New wrong bits of a basin row word: row, data mask, check mask (R542). -/
structure BasinUpset where
  /-- Row word; 18 R542. -/
  row : Nat := 0
  /-- Wrong data bits; 18 R542. -/
  data : Nat := 0
  /-- Wrong check bits; 18 R542. -/
  check : Nat := 0
  deriving DecidableEq, Repr, Inhabited

/-- An AUX reply (R265). -/
inductive AuxAnswer where
  | ack (bytes : List Byte) | defer | nack
  deriving DecidableEq, Repr, Inhabited

/-- How a training attempt ends (R265, R266). -/
inductive TrainResult where
  | up (rate lanes : Nat) | failed (code : Nat)
  deriving DecidableEq, Repr, Inhabited

/-- A long packet of a camera input (R276, R281). -/
structure CamPacket where
  /-- Virtual channel; 09 R276. -/
  vc : Nat := 0
  /-- Data type; 09 R276. -/
  dt : Nat := 0
  /-- Payload bytes; 09 R281. -/
  bytes : List Byte := []
  /-- The packet CRC matches; 09 R281. -/
  crcOk : Bool := true
  deriving DecidableEq, Repr, Inhabited

/-- What identification of an inserted drive finds (R449). -/
structure DriveFacts where
  /-- What tells the drive from another one: its serial number, as a number; 15 R455. -/
  ident : Nat := 0
  /-- The namespace meets R449; 15 R449. -/
  supported : Bool := true
  /-- Size in MiB; 15 R450. -/
  mib : Nat := 0
  /-- The contents of the namespace that are not 0, as (byte address, byte) pairs by rising address; 15 R449. -/
  bytes : List (Nat × Byte) := []
  /-- SMART data units written, in bytes; 15 R458. -/
  smartBytes : Nat := 0
  /-- SMART Percentage Used; 15 R458. -/
  percentUsed : Nat := 0
  deriving DecidableEq, Repr, Inhabited

/-- What the power manager measures at a tick, and the encoders' backlog (R482, R491). -/
structure SchedWork where
  /-- Module input power, mW; 16 R482. -/
  pIn : Nat := 0
  /-- Input voltage, mV; 16 R496. -/
  vin : Nat := 0
  /-- Input current, mA; 16 R496. -/
  iin : Nat := 0
  /-- Encoders with backlog, 2 bits; 16 R491. -/
  backlog : Nat := 0
  /-- Energy delivered into EG0 to EG7 since the last tick, µJ; 16 R493. -/
  energy : List Nat := []
  deriving DecidableEq, Repr, Inhabited

/-- The commands of the PHM860, one for each row of the opcode table. -/
inductive Instr where
  /-- NOP (R85): Barge with no effect that completes with ST_OK. -/
  | nop (b : Barge)
  /-- IDENTIFY (R529): Writes the identity and capability report. -/
  | identify (b : Barge)
  /-- RING_CREATE (R86): Creates barge ring 1 to 15 in ACTIVE with NEXT_SEQ set to INITIAL_SEQ. -/
  | ringCreate (b : Barge)
  /-- RING_DELETE (R87): Deletes a barge ring once nothing is in flight or published, else completes with ST_BUSY. -/
  | ringDelete (b : Barge)
  /-- HEARTBEAT_SET (R530): Sets the heartbeat timeout and restarts the heartbeat timer. -/
  | heartbeatSet (b : Barge)
  /-- SLEEP (R531): MODE_REQUEST operation that runs the KEEPALIVE entry sequence when the vehicle is stationary. -/
  | sleep (b : Barge)
  /-- DEPOT_CHALLENGE (R531): MODE_REQUEST operation that returns an open depot challenge, valid for 300 s. -/
  | depotChallenge (b : Barge)
  /-- DEPOT_ENTER (R514): MODE_REQUEST operation that enters DEPOT after the ticket, challenge and stationary checks pass. -/
  | depotEnter (b : Barge)
  /-- DEPOT_EXIT (R531): MODE_REQUEST operation that leaves DEPOT for SERVICE. -/
  | depotExit (b : Barge)
  /-- FENCE_CREATE (R88): Creates a timeline fence with an initial value. -/
  | fenceCreate (b : Barge)
  /-- FENCE_DESTROY (R89): Removes a fence and completes its waiting barges with ST_FENCE_DESTROYED. -/
  | fenceDestroy (b : Barge)
  /-- STATUS_REPORT (R532): Writes the module status report, taken at one control clock. -/
  | statusReport (b : Barge)
  /-- MEM_ALLOC (R120): Allocates a region of granules from the pool, optionally as a twin. -/
  | memAlloc (b : Barge)
  /-- MEM_FREE (R121): Returns a host region to the pool unless registered surfaces lie in it. -/
  | memFree (b : Barge)
  /-- SURFACE_REGISTER (R122): Checks a surface description and issues a surface handle. -/
  | surfaceRegister (b : Barge)
  /-- SURFACE_FREE (R123): Frees a surface handle that is registered, or lost with no attachment. -/
  | surfaceFree (b : Barge)
  /-- DMA_UPLOAD (R124): Copies bytes from host memory into device memory. -/
  | dmaUpload (b : Barge)
  /-- DMA_DOWNLOAD (R124): Copies bytes from device memory to host memory, with unreadable codewords written as all ones. -/
  | dmaDownload (b : Barge)
  /-- SURFACE_SEAL (R125): Computes the seal words of a surface and clears SEAL_BROKEN. -/
  | surfaceSeal (b : Barge)
  /-- SURFACE_UNSEAL (R125): SURFACE_SEAL with UNSEAL, which releases the seal words and clears SEALED. -/
  | surfaceUnseal (b : Barge)
  /-- SURFACE_QUERY (R126): Writes the surface state report, or the memory summary for handle 0. -/
  | surfaceQuery (b : Barge)
  /-- LAYER_ASSIGN (R154): Assigns a layer slot to a pipe with an admitted envelope. -/
  | layerAssign (b : Barge)
  /-- LAYER_RELEASE (R155): Puts a slot into RELEASE_PENDING until the pipe's next applied commit. -/
  | layerRelease (b : Barge)
  /-- LAYER_SET (R156): Checks the marked groups and writes them into the layer's shadow state. -/
  | layerSet (b : Barge)
  /-- POD_DEFINE (R157): Creates a pod, or replaces its membership and policy. -/
  | podDefine (b : Barge)
  /-- POD_DELETE (R158): Deletes a pod, leaving its members in no pod. -/
  | podDelete (b : Barge)
  /-- COMMIT (R131): Takes a pipe's pending layer changes and builds them into the shadow bank for the next lock. -/
  | commit (b : Barge)
  /-- SHADOW_BANK_COMPLETE (R132): Firmware finishes building the shadow descriptor banks of a commit and marks them complete, which commits the change. -/
  | shadowBankComplete (pipe : Nat)
  /-- DAMAGE_DECLARE (R160): Sets the declared rectangles in the damage map at the pipe's next lock. -/
  | damageDeclare (b : Barge)
  /-- LAYER_QUERY (R161): Writes the layer state report. -/
  | layerQuery (b : Barge)
  /-- PIPE_CONFIG (R267): Checks and admits a pipe configuration, then allocates its basin frame. -/
  | pipeConfig (b : Barge)
  /-- PIPE_REMOVE (R249): PIPE_CONFIG with REMOVE, which releases the basin frame and returns the pipe to UNCONFIGURED. -/
  | pipeRemove (b : Barge)
  /-- PIPE_ENABLE (R247): Starts the timing generator and trains the pipe's links. -/
  | pipeEnable (b : Barge)
  /-- PIPE_DISABLE (R248): Stops the pipe at the next frame start after black frames. -/
  | pipeDisable (b : Barge)
  /-- TIMING_CHANGE (R250): Classifies and admits a lock-class or link-class timing change. -/
  | timingChange (b : Barge)
  /-- TOW_SET (R270): Enables, changes or disables towing and its latency contract. -/
  | towSet (b : Barge)
  /-- LINK_STATUS (R271): Writes the link and tow state report of a pipe. -/
  | linkStatus (b : Barge)
  /-- EDID_READ (R272): Reads panel EDID or DPCD bytes over AUX. -/
  | edidRead (b : Barge)
  /-- WRITEBACK_SET (R273): Configures the write-back tap of a pipe, with admission. -/
  | writebackSet (b : Barge)
  /-- CAMERA_DECLARE (R295): Admits a camera stream and allocates its private ring. -/
  | cameraDeclare (b : Barge)
  /-- CAMERA_REMOVE (R295): CAMERA_DECLARE with REMOVE, which frees the ring and undeclares the stream. -/
  | cameraRemove (b : Barge)
  /-- CAMERA_START (R296): Turns on a stream's receiver and completes at the first complete frame. -/
  | cameraStart (b : Barge)
  /-- CAMERA_STOP (R297): Stops a stream at its next FS or after 1.5 frame periods. -/
  | cameraStop (b : Barge)
  /-- CAMERA_RING_SET (R298): Sets a stream's ring to a private ring or to host surfaces. -/
  | cameraRingSet (b : Barge)
  /-- CAMERA_STATUS (R299): Writes the stream state report. -/
  | cameraStatus (b : Barge)
  /-- LATENCY_CONTRACT_SET (R300): Sets, replaces or removes a camera-to-glass latency contract. -/
  | latencyContractSet (b : Barge)
  /-- BLT_COPY (R333): Queues a 2D copy job. -/
  | bltCopy (b : Barge)
  /-- BLT_FILL (R334): Queues a 2D fill job. -/
  | bltFill (b : Barge)
  /-- BLT_ROP3 (R335): Queues a 2D raster-operation job. -/
  | bltRop3 (b : Barge)
  /-- BLT_MONO_EXPAND (R337): Queues a 2D mono-expansion job. -/
  | bltMonoExpand (b : Barge)
  /-- BLT_ALPHA (R338): Queues a 2D alpha-blit job. -/
  | bltAlpha (b : Barge)
  /-- BLT_CONVERT (R339): Queues a 2D format-converting copy job. -/
  | bltConvert (b : Barge)
  /-- TWO_D_RESERVE (R348): Admits and replaces a 2D engine's bandwidth reservation. -/
  | twoDReserve (b : Barge)
  /-- TWO_D_RESERVE_REMOVE (R356): TWO_D_RESERVE with RATE_KBS 0, which releases the reservation once earlier jobs are done. -/
  | twoDReserveRemove (b : Barge)
  /-- BLT_BATCH (R357): Reads a job list in device memory, checks every entry and queues the batch as one job. -/
  | bltBatch (b : Barge)
  /-- CV_CONFIG (R410): Loads a general channel's check-value configuration in channel order. -/
  | cvConfig (b : Barge)
  /-- CV_DMA (R411): Runs a descriptor chain on a general channel. -/
  | cvDma (b : Barge)
  /-- CV_CONTEXT_SAVE (R412): Reports a channel's running value and registers. -/
  | cvContextSave (b : Barge)
  /-- CV_CONTEXT_LOAD (R413): Writes a general channel's running value and SEQ. -/
  | cvContextLoad (b : Barge)
  /-- FRAME_SIGN_SET (R414): Sets frame signing, freeze detection and signature delivery for a link. -/
  | frameSignSet (b : Barge)
  /-- CV_RESERVE (R415): Admits and replaces a general channel's DMA reservation. -/
  | cvReserve (b : Barge)
  /-- CV_RESERVE_REMOVE (R415): CV_RESERVE with RATE_KBS 0, which releases the reservation in channel order. -/
  | cvReserveRemove (b : Barge)
  /-- REC_STREAM_ADD (R467): Admits a recording stream and starts recording it. -/
  | recStreamAdd (b : Barge)
  /-- REC_STREAM_REMOVE (R468): Removes a recording stream and closes its segment. -/
  | recStreamRemove (b : Barge)
  /-- REC_BURST (R469): Starts or replaces a burst of streams against wear credit, optionally protecting a range. -/
  | recBurst (b : Barge)
  /-- REC_BURST_STOP (R469): REC_BURST with STOP, which ends the burst of the streams in MASK. -/
  | recBurstStop (b : Barge)
  /-- REC_QUERY (R470): Writes the recording and wear report. -/
  | recQuery (b : Barge)
  /-- STORE_WRITE (R471): Writes a content-store object and replaces its index entry. -/
  | storeWrite (b : Barge)
  /-- STORE_READ (R472): Reads an object, a segment or a manifest slot and classifies it. -/
  | storeRead (b : Barge)
  /-- PROGRAMME_LOAD (R473): Installs a standing programme, loading and sealing its assets. -/
  | programmeLoad (b : Barge)
  /-- PROGRAMME_REMOVE (R473): PROGRAMME_LOAD with REMOVE, which frees the assets and releases the programme's costs. -/
  | programmeRemove (b : Barge)
  /-- PREPARE_REMOVE (R460): DRIVE_SERVICE operation that writes the buffered segments, closes the drive cleanly and powers down the port. -/
  | prepareRemove (b : Barge)
  /-- FORMAT (R474): DRIVE_SERVICE operation that writes the superblocks and an empty index. -/
  | formatDrive (b : Barge)
  /-- UNPROTECT (R474): DRIVE_SERVICE operation that clears every protected range, in DEPOT only. -/
  | unprotect (b : Barge)
  /-- Q_CREATE (R381): Creates a common host pound queue. -/
  | qCreate (b : Barge)
  /-- Q_DELETE (R382): Frees a host queue's cells and makes the queue ABSENT. -/
  | qDelete (b : Barge)
  /-- Q_QUOTA_SET (R383): Sets a common queue's cell quota. -/
  | qQuotaSet (b : Barge)
  /-- Q_WEIR_SET (R384): Sets a queue's weir marks and NOTIFY, and clears the notice when CROSSINGS equals EXPECT. -/
  | qWeirSet (b : Barge)
  /-- Q_FLUSH (R385): Flushes a camera staging queue or a host queue. -/
  | qFlush (b : Barge)
  /-- Q_QUERY (R386): Writes the queue and pool register report. -/
  | qQuery (b : Barge)
  /-- EVENT_RING_CREATE (R440): Creates a record ring or a queue ring and writes the records already waiting. -/
  | eventRingCreate (b : Barge)
  /-- EVENT_RING_DELETE (R441): Deletes an event ring, optionally discarding its waiting records. -/
  | eventRingDelete (b : Barge)
  /-- EVENT_ROUTE (R442): Routes host sources to rings with a priority and a mode. -/
  | eventRoute (b : Barge)
  /-- MODERATION_SET (R443): Sets a vector's hold-off, count limit and WAKE. -/
  | moderationSet (b : Barge)
  /-- EVENT_ENABLE (R444): EVENT_MASK operation ENABLE on the sources in the bitmap. -/
  | eventEnable (b : Barge)
  /-- EVENT_DISABLE (R444): EVENT_MASK operation DISABLE on the sources in the bitmap. -/
  | eventDisable (b : Barge)
  /-- EVENT_MASK_SOURCES (R444): EVENT_MASK operation MASK on the sources in the bitmap. -/
  | eventMaskSources (b : Barge)
  /-- EVENT_UNMASK (R444): EVENT_MASK operation UNMASK on the sources in the bitmap. -/
  | eventUnmask (b : Barge)
  /-- POWER_QUERY (R496): Writes the power and heat report. -/
  | powerQuery (b : Barge)
  /-- BASEPLATE_DECLARE (R497): Sets T_d and re-admits the ledger. -/
  | baseplateDeclare (b : Barge)
  /-- SPRINT_POLICY (R498): Sets the sprint permissions and the highest band. -/
  | sprintPolicy (b : Barge)
  /-- SCHED_WEIGHTS (R499): Sets the weights of the scheduler classes. -/
  | schedWeights (b : Barge)
  /-- PATCH_LOAD (R533): Verifies a patch object and writes it to the patch slot that is not ACTIVE. -/
  | patchLoad (b : Barge)
  /-- PATCH_ACTIVATE (R525): Activates a verified patch live at a barge boundary. -/
  | patchActivate (b : Barge)
  /-- PATCH_DEACTIVATE (R534): PATCH_ACTIVATE with DEACTIVATE, which returns the hook table to the ROM. -/
  | patchDeactivate (b : Barge)
  /-- ATTEST (R535): Writes a signed attestation record, optionally with the DEVICE_CERT. -/
  | attest (b : Barge)
  /-- KEY_REVOKE (R536): Applies a key ticket that revokes or enrols a root slot, in DEPOT. -/
  | keyRevoke (b : Barge)
  /-- CONFIG_IMAGE_STORE (R537): Verifies a configuration image, stores it and marks its slot ACTIVE. -/
  | configImageStore (b : Barge)
  /-- ROLLBACK_ADVANCE (R538): Burns the anti-rollback level up to that of the ACTIVE object. -/
  | rollbackAdvance (b : Barge)
  /-- BIST_RUN (R571): Runs online or offline BIST on a target, optionally restoring it to service. -/
  | bistRun (b : Barge)
  /-- SELFTEST_POLICY (R572): Sets the rolling self-test periods and FO_MASK, and with ACK clears latched conditions. -/
  | selftestPolicy (b : Barge)
  /-- DUMP_READ (R573): Copies bytes of a dump source into device memory. -/
  | dumpRead (b : Barge)
  /-- DUMP_CLEAR (R574): Invalidates the device dump slots and the fault log, or the flash copy in DEPOT. -/
  | dumpClear (b : Barge)
  /-- FAULT_INJECT (R575): Injects a fault of the given kind in DEPOT. -/
  | faultInject (b : Barge)
  /-- SQ_TAIL_DB (R67): Host writes a submission doorbell that publishes barges up to the given slot. -/
  | sqTailDb (ring value : Nat)
  /-- CQ_HEAD_DB (R73): Host writes a completion doorbell that frees completion ring entries. -/
  | cqHeadDb (ring value : Nat)
  /-- BARGE_FETCH (R67): The module fetches whole published barges from SQ_HEAD towards the tail, by ring priority. -/
  | bargeFetch (answer : FetchAnswer)
  /-- BARGE_START (R70): A fetched barge starts once ring order, barrier, wait fence and completion room allow, and passes the header checks. -/
  | bargeStart (ring : Nat)
  /-- HEARTBEAT (R512): A host write to HEARTBEAT restarts the heartbeat timer and leaves QUIET. -/
  | heartbeat (value : Word32)
  /-- SNAP (R58): A host write of 1 to SNAP captures every counter of the counters block. -/
  | snap (value : Word32)
  /-- FENCE_SIGNAL (R83): A host write to FENCE_SIGNAL raises a fence value when the new value is higher. -/
  | fenceSignal (fence : Nat) (wide : Bool) (value : Word64)
  /-- ADMIN_ENABLE (R60): A host write that checks the ring 0 fields and makes ring 0 ACTIVE. -/
  | adminEnable (value : Word32)
  /-- ADMIN_RESET (R60): A host write that returns ring 0 to ABSENT when no barge of it is in flight. -/
  | adminReset (value : Word32)
  /-- BAR2_BASE (R61): A host write that moves the BAR2 window, or sets BAR2_BASE_BAD when out of range. -/
  | bar2Base (value : Word32)
  /-- BAR2_READ (R63): A host read through BAR2, resolved byte by byte. -/
  | bar2Read (offset length : Nat)
  /-- BAR2_WRITE (R63): A host write through BAR2, landing in both twin copies and dropping private bytes. -/
  | bar2Write (offset : Nat) (bytes : List (Option Byte))
  /-- LOW_WORD_READ (R54): A 32-bit read of the low word of a 64-bit register, which latches the high word. -/
  | lowWordRead (bar offset : Nat)
  /-- REGISTER_WRITE (R19): A host write to any register without behaviour of its own, under the access codes. -/
  | registerWrite (bar offset width : Nat) (value : Word64)
  /-- COMPLETE (R422): A host write to COMPLETE that clears ACTIVE of a source and may deliver it again. -/
  | complete (value : Word32)
  /-- EC_SNAP (R439): A host write that captures the snapshot counters of the concentrator block. -/
  | ecSnap (value : Word32)
  /-- HEAD_DB (R429): A host write to an event ring's HEAD_DB that frees entries. -/
  | headDb (ring : Nat) (value : Word32)
  /-- MSIX_UNMASK (R435): Clearing a function or vector mask, or enabling MSI-X, sends one message for a set PBA bit. -/
  | msixUnmask (target : MsixTarget)
  /-- CLAIM (R425): A control pair's read of CLAIM, which returns and claims the best internal source. -/
  | claim (pair : Nat)
  /-- PAIR_COMPLETE (R425): A control pair's write that completes an internal source. -/
  | pairComplete (pair : Nat) (value : Word32)
  /-- FUNCTION_LEVEL_RESET (R50): An FLR resets the host-link state: rings, event rings and MSI-X. -/
  | functionLevelReset
  /-- FUNDAMENTAL_RESET (R50): PERST# resets the host-link state as an FLR does. -/
  | fundamentalReset
  /-- D3HOT_ENTRY (R51): The function enters D3hot and stops all memory requests other than PME. -/
  | d3hotEntry
  /-- D0_RETURN (R437): On return to D0 the module writes held records and sends pending MSIs. -/
  | d0Return
  /-- D3COLD_ENTRY (R436): The function enters D3cold; wake is signalled by WAKE_OUT#. -/
  | d3coldEntry
  /-- PME_RESEND (R436): A PME message is resent every 100 ms while PME_Status stays 1. -/
  | pmeResend
  /-- LOCK (R136): The pipe's lock instant, at which the banks swap if complete, fences are sampled and damage is raised. -/
  | lock (pipe : Nat)
  /-- LINE_RELEASE (R225): At t_rel(y) the lane may begin composing line y. -/
  | lineRelease (pipe half y : Nat)
  /-- FETCH_RETURN (R166): Fetched source data returns to a lane and is checked, decoded and verified. -/
  | fetchReturn (pipe half y : Nat) (upsets : List Upset) (sealUpsets : List (Nat × Nat))
  /-- DEADLINE (R177): At t_dl(y) a raced layer whose needed line is not ready becomes late for the frame. -/
  | deadline (pipe half y : Nat)
  /-- LINE_WRITE (R224): A lane's line write reaches the basin and is applied when inside the window. -/
  | lineWrite (pipe half y : Nat)
  /-- WINDOW_OPEN (R224): At t_open(y) a line write waiting in the basin is applied. -/
  | windowOpen (pipe half y : Nat)
  /-- WINDOW_CLOSE (R226): At t_close(y) unlanded writes are discarded, the line may be held over and the scan-out fetch begins. -/
  | windowClose (pipe half y : Nat) (upsets : List BasinUpset)
  /-- BANK_REBUILD_COMPLETE (R217): The failed bank is rebuilt into the shadow; BANK_REMAPPED is set. -/
  | bankRebuildComplete
  /-- LAST_PIXEL_REPEAT (R229): A link that needs a pixel from an empty FIFO repeats the last pixel for the rest of the line. -/
  | lastPixelRepeat (pipe half y x : Nat)
  /-- FRAME_START (R240): At t_s(0) FRAMES increases and frame-boundary changes such as PIPE_DISABLE take effect. -/
  | frameStart (pipe : Nat)
  /-- VERTICAL_BLANKING (R239): At the start of vertical blanking the frame record is made and hold-over and underrun events are raised. -/
  | verticalBlanking (pipe : Nat)
  /-- TOW_DECISION (R258): At line V_ACTIVE the tow loop trims V_FP and updates the tow state. -/
  | towDecision (pipe : Nat)
  /-- BLACK_FRAMES_END (R252): After the required black frames the links go idle for disable or retraining. -/
  | blackFramesEnd (pipe : Nat)
  /-- LANDING_CHECK (R548): A released line not landed within 2 T_c + 10 µs detects a lane fault. -/
  | landingCheck (pipe half y : Nat)
  /-- LANE_FAULT_DETECTED (R548): A parity, residue or uncorrectable-word check in a lane detects a fault. -/
  | laneFaultDetected (lane cause : Nat)
  /-- LANE_FAULT_DECLARED (R235): A lane fault is declared, the faulted lane is fenced and the spare is loaded. -/
  | laneFaultDeclared (lane : Nat)
  /-- TAKEOVER_SPARE_START (R235): The loaded spare begins composing from the lowest unlanded line. -/
  | takeoverSpareStart
  /-- HANDOVER_LOADED (R234): The incoming lane is loaded from the bank mirror and the handover line is chosen. -/
  | handoverLoaded
  /-- HPD_LOW (R265): HPD low for 2 ms brings the link DOWN. -/
  | hpdLow (link : Nat)
  /-- HPD_HIGH (R265): HPD high for 100 ms starts training. -/
  | hpdHigh (link : Nat)
  /-- IRQ_HPD (R265): An IRQ_HPD pulse reads the link status and may retrain the link. -/
  | irqHpd (link : Nat)
  /-- HPD_STORM_END (R265): After 2 s of ignoring HPD its level is sampled. -/
  | hpdStormEnd (link : Nat) (level : Bool)
  /-- AUX_REPLY (R265): An AUX reply or DEFER completes or retries a transaction. -/
  | auxReply (link : Nat) (reply : AuxAnswer)
  /-- AUX_TIMEOUT (R265): No AUX reply in 400 µs retries or fails the transaction. -/
  | auxTimeout (link : Nat)
  /-- TRAINING_ATTEMPT_END (R265): A link training attempt ends, bringing the link up or failing it. -/
  | trainingAttemptEnd (link : Nat) (result : TrainResult)
  /-- TRAINING_RETRY (R265): A failed link is retried every 2 s. -/
  | trainingRetry (link : Nat)
  /-- LINK_LOST (R265): Symbol lock or A-PHY link-up is lost on a running link. -/
  | linkLost (link : Nat)
  /-- CAMERA_FS (R280): A frame start packet opens, stamps and slots a camera frame, or is refused as too early. -/
  | cameraFs (input vc number : Nat)
  /-- CAMERA_LINE_PACKET (R281): A long packet of the stream is checked and staged as line L. -/
  | cameraLinePacket (input : Nat) (packet : CamPacket)
  /-- CAMERA_LINE_LANDED (R281): A staged line's bytes reach device memory and progress P rises. -/
  | cameraLineLanded (input : Nat)
  /-- CAMERA_FE (R282): A frame end packet is recorded and truncates an incomplete frame. -/
  | cameraFe (input vc number : Nat)
  /-- CAMERA_EMBEDDED_DATA (R276): An embedded-data packet is kept raw up to 4,096 bytes per frame. -/
  | cameraEmbeddedData (input vc : Nat) (bytes : List Byte) (crcOk : Bool)
  /-- CAMERA_PACKET_DISCARD (R276): A packet of another data type, virtual channel or a bad header is discarded at its header. -/
  | cameraPacketDiscard (input : Nat) (cause : Nat)
  /-- CAMERA_LINK_ERROR (R283): A-PHY data lost after retransmissions or a D-PHY SoT error drops the frame. -/
  | cameraLinkError (input : Nat)
  /-- FRAME_TIMEOUT (R283): A frame not complete 1.5 frame periods after its FS is dropped. -/
  | frameTimeout (input : Nat)
  /-- FS_MISSING (R283): No FS at each half-period instant after the expected one counts a MISSING drop. -/
  | fsMissing (input : Nat)
  /-- CAMERA_START_TIMEOUT (R296): No complete frame within 2 s completes CAMERA_START with ST_DEVICE_ABSENT. -/
  | cameraStartTimeout (input : Nat)
  /-- CAMERA_STOP_TIMEOUT (R297): CAMERA_STOP takes effect 1.5 frame periods after it starts when no FS came. -/
  | cameraStopTimeout (input : Nat)
  /-- TWO_D_JOB_BEGIN (R327): An engine begins its next queued job when no conflicting job runs, at t_rel(0) for a watermark job. -/
  | twoDJobBegin (engine : Nat)
  /-- TWO_D_BURST (R347): An engine issues a burst when its credit covers the charge, or when no other client waits. -/
  | twoDBurst (engine : Nat) (others : Bool)
  /-- TWO_D_LINE_LANDED (R344): A destination line of a job lands, raising progress and watermark events. -/
  | twoDLineLanded (engine : Nat)
  /-- TWO_D_JOB_COMPLETE (R351): A job's last write lands and its barge completes. -/
  | twoDJobComplete (engine : Nat)
  /-- CV_DESCRIPTOR (R396): A channel takes a descriptor from its queue and processes its block. -/
  | cvDescriptor (channel : Nat)
  /-- SIGNATURE_RECORD (R403): A privileged channel builds and delivers the signature record of a frame record. -/
  | signatureRecord (link : Nat)
  /-- PUT (R367): A producer appends bytes to its open item, allocating cells. -/
  | put (queue client : Nat) (bytes : List Byte)
  /-- END (R367): A producer closes its open item. -/
  | endItem (queue client : Nat)
  /-- CANCEL (R367): A producer voids its own open item. -/
  | cancel (queue client : Nat)
  /-- ITEM_COMPLETE (R359): An item becomes visible to the consumer 4 control clocks after its END. -/
  | itemComplete (queue : Nat)
  /-- GET (R367): A consumer reads bytes of the current item. -/
  | get (queue client length : Nat)
  /-- NEXT (R367): A consumer finishes the current item and frees it unless a mark holds it. -/
  | nextItem (queue client : Nat)
  /-- DROP_REMAINDER (R373): A consumer abandons the rest of the current item. -/
  | dropRemainder (queue client : Nat)
  /-- MARK (R372): A consumer saves the read position as the mark. -/
  | markRead (queue client : Nat)
  /-- REWIND (R372): A consumer returns the read position to the mark. -/
  | rewind (queue client : Nat)
  /-- RELEASE (R372): A consumer clears the mark and frees what it held. -/
  | release (queue client : Nat)
  /-- QUARTER_DRAIN_TIMEOUT (R364): A pound quarter not emptied within 2 s skips its test for the round. -/
  | quarterDrainTimeout (quarter : Nat)
  /-- QUARTER_SUBSTITUTION (R552): An out-of-service pound quarter's live cells are copied to backing and redirected. -/
  | quarterSubstitution (quarter : Nat) (badCells : List Nat)
  /-- EDGE_ASSERTION (R420): An edge source asserts, placing a record in its FIFO and delivering it if eligible. -/
  | edgeAssertion (host : Bool) (source : Nat) (code : Nat) (data : List Byte)
  /-- LEVEL_CHANGE (R420): A level source's condition rises or falls, setting PENDING. -/
  | levelChange (host : Bool) (source : Nat) (level : Bool)
  /-- RECORD_MOVE (R428): The concentrator moves one waiting record per control clock into its ring queue. -/
  | recordMove
  /-- EVENT_ENTRY_WRITE (R431): The writer writes a queued item into an event ring with room and notifies its vector. -/
  | eventEntryWrite (ring : Nat)
  /-- HOLDOFF_TIMER_EXPIRY (R434): A vector's hold-off timer expires and sends a moderated-pending MSI or holds it. -/
  | holdoffTimerExpiry (vector : Nat)
  /-- FIRMWARE_TICK (R424): The 1 ms firmware tick asserts internal source 55. -/
  | firmwareTick
  /-- WATCHDOG (R561): The firmware tick not claimed for 50 ms enters CONTAIN. -/
  | watchdog
  /-- CONTAIN_ENTRY (R562): A fatal control-plane error latches pair state, freezes the rings and writes the dump. -/
  | containEntry (cause detail pair : Nat)
  /-- CONTAIN_EXIT (R81): The restarted control plane writes recovery records, rebuilds the ledger and resumes fetching. -/
  | containExit
  /-- DUMP_COPY_COMPLETE (R567): The flash copy of the dump is read back and marked VALID. -/
  | dumpCopyComplete (ok : Bool)
  /-- SEGMENT_CLOSE (R451): The open segment closes on its 10 s timer, on its size limit or on a stream change. -/
  | segmentClose
  /-- SEGMENT_WRITE (R452): A closed segment is given its header and written to the drive. -/
  | segmentWrite
  /-- MANIFEST_CLOSE (R454): The manifest closes every 30 s or at 64 entries, and is signed. -/
  | manifestClose
  /-- MANIFEST_WRITE (R454): After a covering Flush the manifest is written with FUA and the superblock updated. -/
  | manifestWrite
  /-- ENCODE_FRAME (R447): An encoder takes a completed source frame and encodes it, or records a gap. -/
  | encodeFrame (stream : Nat)
  /-- CREDIT_TICK (R459): Once a second CREDIT is charged and bursting streams may step down. -/
  | creditTick
  /-- LEDGER_COMPARE (R458): Every 60 s LEDGER_BYTES is compared with the SMART data units written. -/
  | ledgerCompare (smartBytes percentUsed : Nat)
  /-- DRIVE_INSERTED (R449): A debounced drive presence starts an attach with identification and superblock reads. -/
  | driveInserted (drive : DriveFacts)
  /-- DRIVE_RATE_TEST_END (R449): The rate test ends and the measured rate becomes the AR_DRIVE limit. -/
  | driveRateTestEnd (kbs : Nat)
  /-- DRIVE_REMOVED (R461): A drive that leaves without PREPARE_REMOVE is detected and recording is buffered. -/
  | driveRemoved
  /-- NVME_COMMAND_TIMEOUT (R448): An NVMe command that errors or times out is aborted and retried once, then the drive counts as removed. -/
  | nvmeCommandTimeout (id status : Nat)
  /-- CAN_FRAME_RECEIVED (R517): An accepted CAN frame updates the vehicle state or the stop state. -/
  | canFrameReceived (id : Nat) (data : List Byte)
  /-- VEHICLE_STATE_TIMEOUT (R517): No vehicle-state frame for 1 s makes the state invalid. -/
  | vehicleStateTimeout
  /-- CAN_TIMEOUT (R464): No stop-data frame for CAN_TIMEOUT_MS selects DEFAULT_SCENE. -/
  | canTimeout
  /-- STATUS_CAN_TX (R517): Every 100 ms the module sends the STATUS_CAN_ID frame. -/
  | statusCanTx
  /-- VIN_VALID (R502): VIN at 4.5 V or more for 1 ms leaves OFF and starts BOOT. -/
  | vinValid (mv : Nat)
  /-- VIN_LOW (R478): VIN below 4.5 V enters HOLD with cause ELECTRICAL and draws on the hold-up store. -/
  | vinLow (mv : Nat)
  /-- VIN_HIGH (R477): VIN above 36 V enters HOLD. -/
  | vinHigh (mv : Nat)
  /-- VIN_RESTORED (R478): VIN at 4.8 V or more for 100 ms ends the electrical hold. -/
  | vinRestored (mv durationUs storeMj : Nat)
  /-- POWER_FAILURE (R479): A dip beyond the ride-through spends the store and the module enters OFF. -/
  | powerFailure
  /-- THERMAL_SAMPLE (R483): Every 1 ms the estimator samples the sensors, marks faulty ones and may enter thermal HOLD. -/
  | thermalSample (base filtered : Int) (junctions : List Int)
  /-- THERMAL_HOLD_END (R485): Temperatures within limits for 10 s end the thermal hold. -/
  | thermalHoldEnd
  /-- SPRINT_BEGIN (R487): Permitted work waiting 10 ms starts a sprint, raising VCORE and the lane clock. -/
  | sprintBegin
  /-- SPRINT_END (R489): A sprint ends on its first cause and the lane clock returns to 1.0 GHz. -/
  | sprintEnd (cause : Nat)
  /-- SCHEDULER_TICK (R491): Every 100 µs the scheduler grants power head to deferrable classes. -/
  | schedulerTick (work : SchedWork)
  /-- SCRUB_PASS_START (R541): Every 4 h the patrol scrubber starts a pass over device memory. -/
  | scrubPassStart
  /-- HEARTBEAT_TIMEOUT (R512): The heartbeat timer reaching 0 makes QUIET the base mode. -/
  | heartbeatTimeout
  /-- SLEEP_TIMER (R502): In QUIET, IGNITION off and STATIONARY for SLEEP_AFTER_S enters KEEPALIVE. -/
  | sleepTimer
  /-- WAKE_SOURCE (R516): A CAN wake frame, WAKE_IN or a VIN rise in KEEPALIVE starts BOOT. -/
  | wakeSource (cause : Nat)
  /-- BOOT_RESTART (R506): A fatal error or VIN loss during BOOT restarts it, with recovery after the third restart. -/
  | bootRestart
  /-- SERVICE_READY (R504): Full-rate training done, SERVICE entries start, READY is set and MODE becomes SERVICE. -/
  | serviceReady
  /-- GDDR6_CRC_FAIL (R544): A GDDR6 burst fails its link CRC and is retried. -/
  | gddr6CrcFail (device : Nat) (retryOk : Bool)
  /-- REMIRROR_COMPLETE (R546): Re-mirroring of twin granules that lost a copy completes. -/
  | remirrorComplete
  /-- LOCKSTEP_MISMATCH (R549): A lockstep mismatch halts a control pair and the other pair takes over. -/
  | lockstepMismatch (pair : Nat)
  /-- PHASE_FAULT (R550): A faulty regulator phase is disabled within 10 µs. -/
  | phaseFault (rail phase : Nat)
  /-- SELFTEST_STEP (R555): A rolling self-test step starts on its target when class SELFTEST runs. -/
  | selftestStep (kind : Nat)
  /-- SELFTEST_STEP_END (R558): A self-test step ends and a failing target is taken out of service. -/
  | selftestStepEnd (kind : Nat) (pass : Bool)
  /-- FAULT_OUT_CONDITION_END (R569): HOLD_OVER_CRITICAL ends 1 s after the last held-over line and FAULT_OUT# may release. -/
  | faultOutConditionEnd
  /-- TOWPATH_IDENTIFY (R568): Towpath command 0x01 returns the IDENTIFY report body. -/
  | towpathIdentify (tag : Byte)
  /-- TOWPATH_STATUS (R568): Towpath command 0x02 returns the STATUS_REPORT body. -/
  | towpathStatus (tag : Byte)
  /-- TOWPATH_SUMMARY (R568): Towpath command 0x03 returns BAR0 bytes 0x0100 to 0x012F. -/
  | towpathSummary (tag : Byte)
  /-- TOWPATH_READ (R568): Towpath command 0x04 returns bytes of a dump slot, the flash copy, the fault log or the quarantine record. -/
  | towpathRead (tag : Byte) (bytes : List Byte)
  /-- CAMERA_PHY_LINK_UP (R299): The PHY link of a camera input is established (A-PHY link-up, or error-free SoT on every declared D-PHY lane), and PHY_UP becomes 1. -/
  | cameraPhyLinkUp (input : Nat)
  /-- CAMERA_PHY_LINK_LOST (R299): A camera input's A-PHY link drops, or no error-free D-PHY SoT has arrived for 2 frame periods, and PHY_UP becomes 0. -/
  | cameraPhyLinkLost (input : Nat)
  /-- LIGHT_ENTRIES (R504): After boot-rate GDDR6 training and image verification complete, BOOT step 6 executes the LIGHT entries of the configuration image. -/
  | lightEntries
  /-- WAKE_OUT_RELEASE (R436): WAKE_OUT# is released 1 ms after PERST# is deasserted. -/
  | wakeOutRelease
  /-- CHALLENGE_EXPIRED (R531): An open depot challenge reaches its EXPIRES time and is no longer open. -/
  | challengeExpired
  /-- TOWPATH_BAD_FRAME (R568): A towpath frame with a wrong CRC or an unknown CMD is answered with CMD 0xFF or BAD_COMMAND. -/
  | towpathBadFrame (crcOk : Bool) (cmd tag : Byte)
  /-- TP_CTS_CHANGE (R582): The TP_CTS# input changes, and the module stops or resumes sending towpath bytes. -/
  | tpCtsChange (maySend : Bool)
  /-- CAN_BUS_ERROR (R517): An error on the CAN bus changes TEC or REC, possibly leading to error-passive or bus-off. -/
  | canBusError (txErrors rxErrors : Nat)
  /-- CAN_BUS_OFF_RECOVERY (R517): The controller completes the standard bus-off recovery without firmware and rejoins the bus. -/
  | canBusOffRecovery
  /-- NVME_COMMAND_COMPLETE (R448): The drive posts a completion for an NVMe command, advancing segment, manifest, superblock, store and shutdown work. -/
  | nvmeCommandComplete (id status : Nat) (data : List Byte)
  /-- DMA_TRANSFER_COMPLETE (R124): The last byte of a DMA_UPLOAD lands with its twin copy, or the last write of a DMA_DOWNLOAD is issued, and the barge completes. -/
  | dmaTransferComplete (ring : Nat) (seq : Nat)
  /-- FLASH_PROGRAM_COMPLETE (R522): Programming and read-back of a flash slot object completes, and its state record is rewritten and the barge completes. -/
  | flashProgramComplete (ok : Bool)
  /-- SEAL_COMPUTE_COMPLETE (R125): The seal words of a surface have all been computed, and the seal is taken or refused and SURFACE_SEAL completes. -/
  | sealComputeComplete (ring : Nat) (seq : Nat)
  /-- SIGNING_COMPLETE (R454): The security engine finishes RSA-3072 and SLH-DSA signing of a manifest, attestation record or boot attestation record. -/
  | signingComplete
  /-- BIST_COMPLETE (R571): A BIST run requested by BIST_RUN, or for an injected object at depot exit, ends with its signature, and the target is restored or failed. -/
  | bistComplete (kind index : Nat) (pass : Bool)
  /-- SUPERBLOCK_UPDATE_TIMER (R450): 10 s have passed since the last superblock update, so the alternate superblock is written with FUA. -/
  | superblockUpdateTimer
  /-- VIN_HIGH_END (R477): VIN falls back to 36 V or below, ending the high-voltage hold cause and raising EV_SUPPLY RESTORED. -/
  | vinHighEnd (mv : Nat)
  /-- HOLD_UP_STORE_CHARGED (R478): The hold-up store reaches full charge, ending the 3 A inrush phase and setting STORE_CHARGED. -/
  | holdUpStoreCharged (mj : Nat)
  /-- APHY_RETRANSMIT_REQUEST (R265): A display-facing A-PHY partner requests retransmission of a packet, which is resent at most 4 times and then dropped and counted. -/
  | aphyRetransmitRequest (link : Nat)
  /-- GDDR6_SUPPLY_FAULT (R544): A supply fault of a GDDR6 device's domain occurs, leading to the device being declared lost. -/
  | gddr6SupplyFault (device : Nat)
  /-- DOMAIN_IDLE_TIMEOUT (R480): A power domain's idle condition expires (2D engine idle 1 ms, security engine or flash interface idle 10 ms), and the domain is switched OFF. -/
  | domainIdleTimeout (domain : Nat)
  deriving DecidableEq, Repr

end Sys2Proof
end

