-- ==== Sys2Proof/Decode.lean ====
section
/-! DEFINITION. Commands as words. No row of the opcode table gives bits: a command reaches the module as a barge, a
register access, a bus operation or an event, never as an instruction word. -/
namespace Sys2Proof

/-- The command that a word spells by the table's bits: none, since no row of the table gives bits. -/
def decodeTableWord (_nbits _w : Nat) : Option Instr := none

end Sys2Proof
end

