-- ==== Sys2Proof/Machine/Real.lean ====
section
/-! DEFINITION. Arithmetic of IEEE 754 binary64 on exact rationals, with correctly rounded pow, exp and log (R194, R307). -/
namespace Sys2Proof.Machine

open Sys2Proof

/-- 1 in fixed point. -/
def fxOne : Int := 2 ^ 256

/-- Sum of z^(2i+1) / (2i+1) in fixed point, `n` terms from term `i`, with p = z^(2i+1) and q = z². -/
def atanhSeries (q : Int) : Nat → Nat → Int → Int
  | 0, _, _ => 0
  | n + 1, i, p => p / (2 * i + 1) + atanhSeries q n (i + 1) (p * q / fxOne)

/-- 2 atanh(num / den) in fixed point. -/
def ln2Atanh (num den : Int) : Int :=
  let z := num * fxOne / den
  2 * atanhSeries (z * z / fxOne) 90 0 z

/-- ln 2 in fixed point. -/
def fxLn2 : Int := ln2Atanh 1 3

/-- Floor of the base-2 logarithm of a positive rational. -/
def ratLog2 (q : Rat) : Int :=
  let n := q.num.natAbs
  let e : Int := (Nat.log2 n : Int) - (Nat.log2 q.den : Int)
  -- 2^e ≤ q exactly when n ≥ den · 2^e
  if 0 ≤ e then (if q.den * 2 ^ e.toNat ≤ n then e else e - 1)
  else if q.den ≤ n * 2 ^ (-e).toNat then e else e - 1

/-- Power of 2 with an integer exponent. -/
def ratPow2 (e : Int) : Rat := if 0 ≤ e then ((2 ^ e.toNat : Nat) : Rat) else 1 / ((2 ^ (-e).toNat : Nat) : Rat)

/-- Natural logarithm of a positive rational in fixed point. -/
def fxLn (q : Rat) : Int :=
  let e := ratLog2 q
  let m := q / ratPow2 e
  e * fxLn2 + ln2Atanh (m.num - (m.den : Int)) (m.num + (m.den : Int))

/-- Sum of r^i / i! in fixed point, `n` terms, with t = r^i / i!. -/
def expSeries (r : Int) : Nat → Nat → Int → Int
  | 0, _, _ => 0
  | n + 1, i, t => t + expSeries r n (i + 1) (t * r / fxOne / ((i : Int) + 1))

/-- Exponential of a fixed-point number, as a rational. -/
def fxExp (y : Int) : Rat :=
  let k := y / fxLn2
  ((expSeries (y - k * fxLn2) 70 0 fxOne : Int) : Rat) / ((fxOne : Int) : Rat) * ratPow2 k

/-- Nearest integer of a rational, ties to even. -/
def ratRoundEven (q : Rat) : Int :=
  let f := q.floor
  let r := q - (f : Rat)
  if r < 1 / 2 then f else if 1 / 2 < r then f + 1 else if f % 2 = 0 then f else f + 1

/-- Nearest integer of a rational, ties away from zero (R194). -/
def ratRoundAway (q : Rat) : Int := if q < 0 then -((-q + 1 / 2).floor) else (q + 1 / 2).floor

/-- A rational rounded to binary64: 53 significant bits, ties to even. -/
def f64 (q : Rat) : Rat :=
  if q = 0 then 0
  else
    let a := if q < 0 then -q else q
    let e := ratLog2 a
    let r := (ratRoundEven (a * ratPow2 (52 - e)) : Rat) * ratPow2 (e - 52)
    if q < 0 then -r else r

/-- Correctly rounded pow of a positive base (R194). -/
def f64Pow (x y : Rat) : Rat :=
  if x = 0 then 0 else f64 (fxExp (fxLn x * y.num / (y.den : Int)))

/-- Correctly rounded exp (R194). -/
def f64Exp (x : Rat) : Rat := f64 (fxExp (x.num * fxOne / (x.den : Int)))

/-- Product, sum, difference and quotient in binary64. -/
def f64Mul (x y : Rat) : Rat := f64 (x * y)
/-- Sum in binary64. -/
def f64Add (x y : Rat) : Rat := f64 (x + y)
/-- Difference in binary64. -/
def f64Sub (x y : Rat) : Rat := f64 (x - y)
/-- Quotient in binary64. -/
def f64Div (x y : Rat) : Rat := f64 (x / y)

end Sys2Proof.Machine
end

