-- ==== Sys2Proof/Config.lean ====
section
/-! DEFINITION. What an implementation fixes, and the free values: constants without a body, so that nothing can be
proved about what they are. Each is applied to the operands it depends on, or to the counter State.free. -/
namespace Sys2Proof

/-- Opaque result of RSA-3072 verification of a message under a root key's hash (R519): key, message, signature. -/
opaque Config.rsaValid : List Byte → List Byte → List Byte → Bool
/-- Opaque result of SLH-DSA verification (R519): key, message, signature. -/
opaque Config.slhValid : List Byte → List Byte → List Byte → Bool
/-- Bytes of an RSA-3072 signature that the security engine makes (R527): counter, index of the byte. -/
opaque Config.rsaByte : Nat → Nat → Byte
/-- Bytes of an SLH-DSA signature that the security engine makes (R527). -/
opaque Config.slhByte : Nat → Nat → Byte
/-- Bytes of a hardware random number (R531). -/
opaque Config.randomByte : Nat → Nat → Byte
/-- Bytes of the codestream an encoder makes of a frame (R446): counter, index. -/
opaque Config.codestreamByte : Nat → Nat → Byte
/-- Bytes of a codestream of a frame (R446): how many of them. -/
opaque Config.codestreamLength : Nat → Nat
/-- Bytes of ROM_HASH, the SHA-384 of the mask ROM (R504). -/
opaque Config.romHash : Nat → Byte
/-- BIST signature of a target (R559). -/
opaque Config.bistSignature : Nat → Word64
/-- Bytes of firmware memory that a fatal dump copies (R565): counter, index. -/
opaque Config.dumpByte : Nat → Nat → Byte
/-- Colour of a basin word that cannot be read in the second phase of a bank fault (R553): counter, basin address. -/
opaque Config.basinColour : Nat → Nat → Word32
/-- A value the manual leaves open where nothing above applies. -/
opaque Config.freeNat : Nat → Nat

/-- Major and minor of OHMAIN_VERSION (R55): 1.0 in the first ROM release. -/
opaque Config.ohmainVersion : Nat
/-- ROM_RELEASE (R55): major and minor of the mask ROM, as the lid marking says. -/
opaque Config.romRelease : Nat

/-- SERIAL that the body of a depot ticket holds (R514): the ticket's layout is not stated. -/
opaque Config.ticketSerial : List Byte → List Byte
/-- Challenge that the body of a depot ticket holds (R514): the ticket's layout is not stated. -/
opaque Config.ticketChallenge : List Byte → List Byte

end Sys2Proof
end

