-- ==== Sys2Proof/Machine/Bytes.lean ====
section
/-! DEFINITION. Byte strings, the fields of a barge, sparse memories in canonical form, check values, and lists put in order. -/

/-- An element put before the first one that it may stand before. -/
def List.insertInto {α : Type} (le : α → α → Bool) (x : α) : List α → List α
  | [] => [x]
  | y :: l => if le x y then x :: y :: l else y :: List.insertInto le x l

/-- A list in the order of a relation; equals keep their order. -/
def List.inOrder {α : Type} (l : List α) (le : α → α → Bool) : List α := l.foldr (List.insertInto le) []

namespace Sys2Proof.Machine

open Sys2Proof

/-- The `n` bytes of a number, lowest first (R13). -/
def leBytes : Nat → Nat → List Byte
  | 0, _ => []
  | n + 1, v => BitVec.ofNat 8 v :: leBytes n (v / 256)

/-- The number of a little-endian byte string (R13). -/
def leNat : List Byte → Nat
  | [] => 0
  | b :: bs => b.toNat + 256 * leNat bs

/-- `n` bytes of a byte string from `off`; a byte beyond its end reads as 0. -/
def slice (l : List Byte) (off n : Nat) : List Byte :=
  let r := (l.drop off).take n
  r ++ List.replicate (n - r.length) 0

/-- A byte string cut or filled with zero bytes to `n` bytes. -/
def padTo (n : Nat) (l : List Byte) : List Byte := slice l 0 n

/-- Two's-complement value of the low `w` bits (R12). -/
def signed (w v : Nat) : Int :=
  if v % 2 ^ w < 2 ^ (w - 1) then ((v % 2 ^ w : Nat) : Int) else ((v % 2 ^ w : Nat) : Int) - ((2 ^ w : Nat) : Int)

/-- The low `w` bits of an integer in two's complement (R12). -/
def unsigned (w : Nat) (v : Int) : Nat := (v % ((2 ^ w : Nat) : Int)).toNat

/-! ### Sparse memories -/

/-- What a memory holds at an address; an unlisted address reads as `d`. -/
def sparseRead {α : Type} (d : α) : List (Nat × α) → Nat → α
  | [], _ => d
  | (b, v) :: m, a => if a = b then v else sparseRead d m a

/-- The memory with `v` at an address, in canonical form: rising addresses, no cell that holds the unlisted value. -/
def sparseWrite {α : Type} [DecidableEq α] (d : α) : List (Nat × α) → Nat → α → List (Nat × α)
  | [], a, v => if v = d then [] else [(a, v)]
  | (b, w) :: m, a, v =>
    if b < a then (b, w) :: sparseWrite d m a v
    else if b = a then (if v = d then m else (a, v) :: m)
    else if v = d then (b, w) :: m else (a, v) :: (b, w) :: m

/-- The canonical form from an address on: addresses rise from `lo`, no cell holds the unlisted value. -/
def sparseWfFrom {α : Type} [DecidableEq α] (d : α) : Nat → List (Nat × α) → Bool
  | _, [] => true
  | lo, (b, v) :: m => decide (lo ≤ b) && (!decide (v = d)) && sparseWfFrom d (b + 1) m

/-- The canonical form of a sparse memory. -/
def sparseWf {α : Type} [DecidableEq α] (d : α) (m : List (Nat × α)) : Bool := sparseWfFrom d 0 m

/-- Byte of a memory of bytes; an unlisted byte reads as 0 (log 3). -/
def Memory.read (m : List Host.Cell) (a : Nat) : Byte := sparseRead 0 m a

/-- Memory with one byte written. -/
def Memory.write (m : List Host.Cell) (a : Nat) (v : Byte) : List Host.Cell := sparseWrite 0 m a v

/-- The canonical form of a memory of bytes. -/
def Memory.wf (m : List Host.Cell) : Bool := sparseWf (0 : Byte) m

/-- `n` bytes of a memory from an address. -/
def Memory.readBytes (m : List Host.Cell) (a : Nat) : Nat → List Byte
  | 0 => []
  | n + 1 => Memory.read m a :: Memory.readBytes m (a + 1) n

/-- Memory with a run of bytes written from an address. -/
def Memory.writeBytes (m : List Host.Cell) (a : Nat) : List Byte → List Host.Cell
  | [] => m
  | b :: bs => Memory.writeBytes (Memory.write m a b) (a + 1) bs

/-! ### Check values -/

/-- The low `n` bits of a number in reverse order. -/
def reflect : Nat → Nat → Nat
  | 0, _ => 0
  | n + 1, v => (v % 2) * 2 ^ n + reflect n (v / 2)

/-- One step of a check-value register of width `w` on one message bit (R390). -/
def crcBit (w poly reg : Nat) (m : Bool) : Nat :=
  let fb := xor (reg.testBit (w - 1)) m
  let sh := (reg * 2) % 2 ^ w
  if fb then sh ^^^ poly else sh

/-- The eight bits of a byte, in the order in which the register takes them: lowest first when REFIN is 1 (R390). -/
def crcByteBits (refin : Bool) (b : Byte) : List Bool :=
  let l := (List.range 8).map (fun i => b.toNat.testBit i)
  if refin then l else l.reverse

/-- The register after a run of bytes (R390). -/
def crcRun (w poly : Nat) (refin : Bool) (reg : Nat) (bytes : List Byte) : Nat :=
  bytes.foldl (fun r b => (crcByteBits refin b).foldl (crcBit w poly) r) reg

/-- The check value of a register (R390): reflected when REFOUT is 1, inverted when INVERT is 1. -/
def crcOut (w : Nat) (refout invert : Bool) (reg : Nat) : Nat :=
  let r := if refout then reflect w reg else reg
  if invert then r ^^^ (2 ^ w - 1) else r

/-- CRC-32C of a byte string (R75). -/
def crc32c (bytes : List Byte) : Nat :=
  crcOut 32 true true (crcRun 32 0x1EDC6F41 true 0xFFFFFFFF bytes)

/-- Rotation of a 32-bit word to the right (SHA-256). -/
def rotr32 (x n : Nat) : Nat := ((x >>> n) ||| (x <<< (32 - n))) % 2 ^ 32

/-- The first `n` primes, for the constants of SHA-256. -/
def shaPrimes : List Nat :=
  [2, 3, 5, 7, 11, 13, 17, 19, 23, 29, 31, 37, 41, 43, 47, 53, 59, 61, 67, 71, 73, 79, 83, 89, 97, 101, 103, 107, 109, 113, 127, 131] ++
  [137, 139, 149, 151, 157, 163, 167, 173, 179, 181, 191, 193, 197, 199, 211, 223, 227, 229, 233, 239, 241, 251, 257, 263, 269, 271,
   277, 281, 283, 293, 307, 311]

/-- Largest number whose power `k` does not exceed `v`, built from bit `i` down. -/
def rootBits (k v : Nat) : Nat → Nat → Nat
  | 0, acc => acc
  | i + 1, acc => let t := acc + 2 ^ i; rootBits k v i (if t ^ k ≤ v then t else acc)

/-- First 32 bits of the fractional part of a prime's cube root: a round constant of SHA-256. -/
def shaK (p : Nat) : Nat := rootBits 3 (p * 2 ^ 96) 36 0 % 2 ^ 32

/-- First 32 bits of the fractional part of a prime's square root: an initial word of SHA-256. -/
def shaH (p : Nat) : Nat := rootBits 2 (p * 2 ^ 64) 37 0 % 2 ^ 32

/-- A message padded as SHA-256 requires. -/
def shaPad (m : List Byte) : List Byte :=
  let n := m.length
  m ++ [0x80] ++ List.replicate ((119 - n % 64) % 64) 0 ++ (leBytes 8 (8 * n)).reverse

/-- The message schedule of one block: words 16 to 63 from the words so far, newest first. -/
def shaExpand : Nat → List Nat → List Nat
  | 0, w => w
  | n + 1, w =>
    let x := w.getD 14 0
    let y := w.getD 1 0
    let s0 := rotr32 x 7 ^^^ rotr32 x 18 ^^^ (x >>> 3)
    let s1 := rotr32 y 17 ^^^ rotr32 y 19 ^^^ (y >>> 10)
    shaExpand n (((w.getD 15 0 + s0 + w.getD 6 0 + s1) % 2 ^ 32) :: w)

/-- One round of SHA-256 on the working variables a to h. -/
def shaRound (st : List Nat) (kw : Nat) : List Nat :=
  match st with
  | [a, b, c, d, e, f, g, h] =>
    let s1 := rotr32 e 6 ^^^ rotr32 e 11 ^^^ rotr32 e 25
    let ch := (e &&& f) ^^^ ((e ^^^ (2 ^ 32 - 1)) &&& g)
    let t1 := h + s1 + ch + kw
    let s0 := rotr32 a 2 ^^^ rotr32 a 13 ^^^ rotr32 a 22
    let mj := (a &&& b) ^^^ (a &&& c) ^^^ (b &&& c)
    [(t1 + s0 + mj) % 2 ^ 32, a, b, c, (d + t1) % 2 ^ 32, e, f, g]
  | other => other

/-- The hash words after one block. -/
def shaBlock (ks : List Nat) (hs : List Nat) (block : List Byte) : List Nat :=
  let w16 := (List.range 16).map (fun i => leNat (slice block (4 * i) 4).reverse)
  let w := (shaExpand 48 w16.reverse).reverse
  let st := (List.zipWith (fun k x => (k + x) % 2 ^ 32) ks w).foldl shaRound hs
  List.zipWith (fun x y => (x + y) % 2 ^ 32) hs st

/-- The blocks of a padded message, `n` of them. -/
def shaBlocks (ks : List Nat) : Nat → List Nat → List Byte → List Nat
  | 0, hs, _ => hs
  | n + 1, hs, m => shaBlocks ks n (shaBlock ks hs (m.take 64)) (m.drop 64)

/-- SHA-256 of a byte string (R519, R454). -/
def sha256 (m : List Byte) : List Byte :=
  let p := shaPad m
  let hs := shaBlocks (shaPrimes.map shaK) (p.length / 64) ((shaPrimes.take 8).map shaH) p
  (hs.map (fun h => (leBytes 4 h).reverse)).flatten

/-- Rotation of a 64-bit word to the right (SHA-384). -/
def rotr64 (x n : Nat) : Nat := ((x >>> n) ||| (x <<< (64 - n))) % 2 ^ 64

/-- The first 80 primes, for the constants of SHA-384. -/
def sha5Primes : List Nat :=
  shaPrimes ++ [313, 317, 331, 337, 347, 349, 353, 359, 367, 373, 379, 383, 389, 397, 401, 409]

/-- A message padded as SHA-384 requires. -/
def sha5Pad (m : List Byte) : List Byte :=
  let n := m.length
  m ++ [0x80] ++ List.replicate ((239 - n % 128) % 128) 0 ++ (leBytes 16 (8 * n)).reverse

/-- The message schedule of one block: words 16 to 79 from the words so far, newest first. -/
def sha5Expand : Nat → List Nat → List Nat
  | 0, w => w
  | n + 1, w =>
    let x := w.getD 14 0
    let y := w.getD 1 0
    let s0 := rotr64 x 1 ^^^ rotr64 x 8 ^^^ (x >>> 7)
    let s1 := rotr64 y 19 ^^^ rotr64 y 61 ^^^ (y >>> 6)
    sha5Expand n (((w.getD 15 0 + s0 + w.getD 6 0 + s1) % 2 ^ 64) :: w)

/-- One round of SHA-384 on the working variables a to h. -/
def sha5Round (st : List Nat) (kw : Nat) : List Nat :=
  match st with
  | [a, b, c, d, e, f, g, h] =>
    let s1 := rotr64 e 14 ^^^ rotr64 e 18 ^^^ rotr64 e 41
    let ch := (e &&& f) ^^^ ((e ^^^ (2 ^ 64 - 1)) &&& g)
    let t1 := h + s1 + ch + kw
    let s0 := rotr64 a 28 ^^^ rotr64 a 34 ^^^ rotr64 a 39
    let mj := (a &&& b) ^^^ (a &&& c) ^^^ (b &&& c)
    [(t1 + s0 + mj) % 2 ^ 64, a, b, c, (d + t1) % 2 ^ 64, e, f, g]
  | other => other

/-- The hash words after one block of SHA-384. -/
def sha5Block (ks : List Nat) (hs : List Nat) (block : List Byte) : List Nat :=
  let w16 := (List.range 16).map (fun i => leNat (slice block (8 * i) 8).reverse)
  let w := (sha5Expand 64 w16.reverse).reverse
  let st := (List.zipWith (fun k x => (k + x) % 2 ^ 64) ks w).foldl sha5Round hs
  List.zipWith (fun x y => (x + y) % 2 ^ 64) hs st

/-- The blocks of a padded message of SHA-384, `n` of them. -/
def sha5Blocks (ks : List Nat) : Nat → List Nat → List Byte → List Nat
  | 0, hs, _ => hs
  | n + 1, hs, m => sha5Blocks ks n (sha5Block ks hs (m.take 128)) (m.drop 128)

/-- SHA-384 of a byte string (R518): the round constants are the first 64 bits of the fractional parts of the cube roots of the
first 80 primes, the initial words those of the square roots of the 9th to 16th. -/
def sha384 (m : List Byte) : List Byte :=
  let p := sha5Pad m
  let ks := sha5Primes.map fun q => rootBits 3 (q * 2 ^ 192) 68 0 % 2 ^ 64
  let h0 := ((sha5Primes.drop 8).take 8).map fun q => rootBits 2 (q * 2 ^ 128) 69 0 % 2 ^ 64
  ((sha5Blocks ks (p.length / 128) h0 p).take 6).flatMap fun h => (leBytes 8 h).reverse

end Sys2Proof.Machine

namespace Sys2Proof

/-- Little-endian field of `n` bytes at offset `off` of a barge, offsets as DETAIL counts them (R92). -/
def Barge.field (b : Barge) (off n : Nat) : Nat := Machine.leNat (Machine.slice b.bytes off n)
/-- OPCODE; Table 2-8. -/
def Barge.opcode (b : Barge) : Nat := b.field 0x00 2
/-- SLOTS; Table 2-8. -/
def Barge.slots (b : Barge) : Nat := b.field 0x02 1
/-- FLAGS; Table 2-8. -/
def Barge.flags (b : Barge) : Nat := b.field 0x03 1
/-- PAYLOAD_LEN; Table 2-8. -/
def Barge.payloadLen (b : Barge) : Nat := b.field 0x04 2
/-- RING of the header; Table 2-8. -/
def Barge.ringField (b : Barge) : Nat := b.field 0x06 1
/-- TOKEN; Table 2-8. -/
def Barge.token (b : Barge) : Nat := b.field 0x08 8
/-- SEQ; Table 2-8. -/
def Barge.seq (b : Barge) : Nat := b.field 0x10 8
/-- WAIT_FENCE; Table 2-8. -/
def Barge.waitFence (b : Barge) : Nat := b.field 0x18 2
/-- SIGNAL_FENCE; Table 2-8. -/
def Barge.signalFence (b : Barge) : Nat := b.field 0x1A 2
/-- HDR_CHECK; Table 2-8. -/
def Barge.hdrCheck (b : Barge) : Nat := b.field 0x1C 4
/-- WAIT_VALUE; Table 2-8. -/
def Barge.waitValue (b : Barge) : Nat := b.field 0x20 8
/-- SIGNAL_VALUE; Table 2-8. -/
def Barge.signalValue (b : Barge) : Nat := b.field 0x28 8
/-- REPORT_ADDR; Table 2-8. -/
def Barge.reportAddr (b : Barge) : Nat := b.field 0x30 8
/-- FLAGS [0] BARRIER. -/
def Barge.barrier (b : Barge) : Bool := bit b.flags 0
/-- FLAGS [2] WAIT_EN. -/
def Barge.waitEn (b : Barge) : Bool := bit b.flags 2
/-- FLAGS [3] SIGNAL_EN. -/
def Barge.signalEn (b : Barge) : Bool := bit b.flags 3
/-- FLAGS [4] SIGNAL_ON_ERROR. -/
def Barge.signalOnError (b : Barge) : Bool := bit b.flags 4
/-- FLAGS [5] RESUBMIT. -/
def Barge.resubmit (b : Barge) : Bool := bit b.flags 5
/-- FLAGS [6] CHECKED. -/
def Barge.checked (b : Barge) : Bool := bit b.flags 6
/-- Payload field of `n` bytes at payload offset `off`. -/
def Barge.pay (b : Barge) (off n : Nat) : Nat := b.field (0x40 + off) n
/-- Payload bytes. -/
def Barge.payload (b : Barge) : List Byte := Machine.slice b.bytes 0x40 b.payloadLen

end Sys2Proof
end

