-- ==== Sys2Proof/Machine/State.lean ====
section
/-! DEFINITION. The state of the PHM860 as plain data, the reasons a step can stop, and the state after reset.
Every field's docstring gives its name and width, the file and rule of spec/ that names it and its reset value. -/
namespace Sys2Proof.Machine

open Sys2Proof

/-- Why a step faults. No command of this block is stopped by a fault of the manual: the one constructor marks
a state the manual excludes. -/
inductive Fault where
  /-- Raised by no meaning of the present model; kept so that the interface type has a name for a stuck state. Safe. -/
  | stuck
  deriving DecidableEq, Repr

/-- Why a command is refused. -/
inductive Refusal where
  /-- The command has no meaning yet; raised by a refused arm of the dispatcher only. Safe. -/
  | notModelled (mnemonic : String)
  deriving DecidableEq, Repr

/-! ## Host link: rings, fences, counters (file 02) -/

/-- RING_STATE of Table 2-6. -/
inductive RingState where
  | absent | active | waiting | error | frozen
  deriving DecidableEq, Repr, Inhabited

/-- What a barge completes with. -/
structure Reply where
  /-- STATUS, 16 bits; 02 R92. -/
  status : Nat := 0
  /-- DETAIL, 64 bits; 02 R92. -/
  detail : Nat := 0
  /-- CFLAGS without PHASE, 8 bits; 02 R78. -/
  cflags : Nat := 0
  /-- Report body, none if the outcome has no report; 02 R91. -/
  report : Option (List Byte) := none
  /-- The barge was executed: it enters the result table (R79) and signals its fence under R76; 02 R77. -/
  executed : Bool := true
  deriving DecidableEq, Repr, Inhabited

/-- One journalled barge: fetched and not completed (R79). -/
structure InFlight where
  /-- The barge as fetched; 02 R79. -/
  barge : Barge := {}
  /-- It has started (R70); 02 R70. -/
  started : Bool := false
  /-- Its effect is committed (R79); 02 R79. -/
  committed : Bool := false
  /-- It completed during CONTAIN, with this result; 02 R81. -/
  result : Option Reply := none
  /-- Report body that an admission has made for it (R322); 10 R322. -/
  report : Option (List Byte) := none
  /-- It goes on after a CONTAIN: its record has CFLAGS RECOVERED; 02 R81. -/
  recovered : Bool := false
  deriving DecidableEq, Repr, Inhabited

/-- One entry of a ring's result table (R79). -/
structure ResultEntry where
  /-- SEQ, 64 bits; 02 R79. -/
  seq : Nat := 0
  /-- STATUS, 16 bits; 02 R79. -/
  status : Nat := 0
  /-- CFLAGS, 8 bits; 02 R79. -/
  cflags : Nat := 0
  /-- DETAIL, 64 bits; 02 R79. -/
  detail : Nat := 0
  deriving DecidableEq, Repr, Inhabited

/-- A completion record whose writing waits for D0 (R51). -/
structure HeldRecord where
  /-- The barge; 02 R51. -/
  barge : Barge := {}
  /-- Its outcome; 02 R51. -/
  reply : Reply := {}
  deriving DecidableEq, Repr, Inhabited

/-- Queue status of one barge ring (Table 2-6), with its journal and result table. -/
structure Ring where
  /-- SQ_BASE, 64 bits; 02 R60; reset 0. -/
  sqBase : Word64 := 0
  /-- CQ_BASE, 64 bits; 02 R60; reset 0. -/
  cqBase : Word64 := 0
  /-- CQ_LOG2, 5 bits; 02 R60; reset 0. -/
  cqLog2 : Nat := 0
  /-- SQ_LOG2, 5 bits; 02 R60; reset 0. -/
  sqLog2 : Nat := 0
  /-- VECTOR, 6 bits; 02 R60; reset 0. -/
  vector : Nat := 0
  /-- WEIGHT, 5 bits; 02 R60; reset 1. -/
  weight : Nat := 1
  /-- RING_ERR, 8 bits; 02 R60; reset 0. -/
  err : Nat := 0
  /-- RING_STATE, 3 bits; 02 R60; reset ABSENT. -/
  state : RingState := .absent
  /-- State to which the ring returns after CONTAIN; 02 R81; reset ABSENT. -/
  prevState : RingState := .absent
  /-- SQ_HEAD, 16 bits; 02 R60; reset 0. -/
  sqHead : Nat := 0
  /-- SQ_TAIL, 16 bits; 02 R60; reset 0. -/
  sqTail : Nat := 0
  /-- CQ_TAIL, 16 bits; 02 R60; reset 0. -/
  cqTail : Nat := 0
  /-- CQ_HEAD, 16 bits; 02 R60; reset 0. -/
  cqHead : Nat := 0
  /-- The completion ring is on an odd pass (PHASE of the next record), 1 bit; 02 R73; reset 1 (the first pass is odd). -/
  phase : Bool := true
  /-- NEXT_SEQ, 64 bits; 02 R60; reset 0. -/
  nextSeq : Word64 := 0
  /-- ADMIN_ENABLE, 1 bit, ring 0 only; 02 R60; reset 0. -/
  adminEnable : Bool := false
  /-- Barges fetched in the present round of the weighted round robin, 5 bits; 02 R69; reset 0. -/
  roundUsed : Nat := 0
  /-- Journal: barges fetched and not completed, in ring order; 02 R79; reset empty. -/
  inflight : List InFlight := []
  /-- Result table, newest first, at most 1,024 entries; 02 R79; reset empty. -/
  results : List ResultEntry := []
  /-- Completion records that wait for D0, oldest first; 02 R51; reset empty. -/
  heldRecs : List HeldRecord := []
  deriving DecidableEq, Repr, Inhabited

/-- Counters of one pipe (Table 2-5). -/
structure PipeCounters where
  /-- FRAMES, 64 bits; 02 R58; reset 0. -/
  frames : Nat := 0
  /-- HOLD_LINES, 32 bits; 02 R58; reset 0. -/
  holdLines : Nat := 0
  /-- UNDERRUN, 32 bits; 02 R58; reset 0. -/
  underrun : Nat := 0
  /-- MISSED_LOCKS, 32 bits; 02 R58; reset 0. -/
  missedLocks : Nat := 0
  /-- DEFERRED_PODS, 32 bits; 02 R58; reset 0. -/
  deferredPods : Nat := 0
  /-- TOW_TRIMS, 32 bits; 02 R58; reset 0. -/
  towTrims : Nat := 0
  deriving DecidableEq, Repr, Inhabited

/-- Counters of one camera input (Table 2-5). -/
structure CamCounters where
  /-- CAM_FRAMES, 32 bits; 02 R58; reset 0. -/
  frames : Nat := 0
  /-- CAM_DROPPED, 32 bits; 02 R58; reset 0. -/
  dropped : Nat := 0
  /-- CAM_MALFORMED, 32 bits; 02 R58; reset 0. -/
  malformed : Nat := 0
  deriving DecidableEq, Repr, Inhabited

/-- The counters block (Table 2-5). -/
structure Counters where
  /-- Per-pipe counters, 8 pipes; 02 R58; reset 0. -/
  pipe : List PipeCounters := List.replicate 8 {}
  /-- Per-input counters, 10 inputs; 02 R58; reset 0. -/
  cam : List CamCounters := List.replicate 10 {}
  /-- GDDR6_CORRECTED, 64 bits; 02 R58; reset 0. -/
  gddr6Corrected : Nat := 0
  /-- GDDR6_UNCORRECTABLE, 32 bits; 02 R58; reset 0. -/
  gddr6Uncorrectable : Nat := 0
  /-- BASIN_CORRECTED, 64 bits; 02 R58; reset 0. -/
  basinCorrected : Nat := 0
  /-- BARGES_FETCHED, 64 bits; 02 R58; reset 0. -/
  bargesFetched : Nat := 0
  /-- FENCE_STALE, 32 bits; 02 R58; reset 0. -/
  fenceStale : Nat := 0
  /-- FENCE_BAD, 32 bits; 02 R58; reset 0. -/
  fenceBad : Nat := 0
  /-- BAD_ACCESSES, 32 bits; 02 R58; reset 0. -/
  badAccesses : Nat := 0
  /-- HOST_RESETS, 32 bits; 02 R58; reset 0. -/
  hostResets : Nat := 0
  deriving DecidableEq, Repr, Inhabited

/-- Power state of the PCIe function (R49, R51). -/
inductive DState where
  | d0 | d3hot | d3cold
  deriving DecidableEq, Repr, Inhabited

/-- Something the module sends out of itself; the state keeps what it has sent, newest first. -/
inductive Output where
  /-- An MSI-X memory write of a vector (R434, R435). -/
  | msi (vector addr data : Nat)
  /-- A PME message (R436). -/
  | pme
  /-- A CAN frame sent (R517). -/
  | can (id : Nat) (data : List Byte)
  /-- A towpath frame sent (R568). -/
  | towpath (bytes : List Byte)
  /-- An NVMe command sent to the drive: opcode, first LBA, bytes, FUA (R448). -/
  | nvme (opcode lba length : Nat) (fua : Bool)
  /-- An AUX transaction sent on a link: link, address, length (R265, R272). -/
  | aux (link addr length : Nat)
  deriving DecidableEq, Repr, Inhabited

/-- The host link: function state, rings, fences, registers of BAR0 and BAR4 (file 02). -/
structure HostLink where
  /-- The sixteen barge rings; 02 R60; reset ABSENT. -/
  rings : List Ring := List.replicate 16 {}
  /-- Timeline fences 0 to 255, absent or a 64-bit value; 02 R82; reset absent (FENCE_VALUE 0). -/
  fences : List (Option Word64) := List.replicate 256 none
  /-- Live counters of Table 2-5; 02 R58; reset 0. -/
  ctr : Counters := {}
  /-- Snapshot of the counters; 02 R58; reset 0. -/
  snap : Counters := {}
  /-- SNAP_TIME, 64 bits; 02 R58; reset 0. -/
  snapTime : Nat := 0
  /-- SCRATCH, 32 bits; 02 R56; reset 0. -/
  scratch : Word32 := 0
  /-- HEARTBEAT, 32 bits (last value written); 02 R56; reset 0. -/
  heartbeat : Word32 := 0
  /-- BAR2_BASE, 12 bits; 02 R56; reset 0. -/
  bar2Base : Nat := 0
  /-- BAR2_BASE_BAD, 1 bit; 02 R56; reset 0. -/
  bar2BaseBad : Bool := false
  /-- BAR2_PRIVATE, 1 bit; 02 R56; reset 0. -/
  bar2Private : Bool := false
  /-- BAR2_UNREADABLE, 1 bit; 02 R56; reset 0. -/
  bar2Unreadable : Bool := false
  /-- High words latched by low-word reads: offset and value; 02 R54; reset empty. -/
  latches : List (Nat × Word32) := []
  /-- The value returned by the last host read (the read completion of the link); 02 R53; reset 0. -/
  readData : Word64 := 0
  /-- Bytes returned by the last BAR2 read; 02 R63; reset empty. -/
  bar2Data : List Byte := []
  /-- MSI-X table, 64 entries of 128 bits: address, data, mask bit; 02 R65; reset 0, masked (PCI Express: DESIGN CHOICE-free, PRESUMED of the standard, log 7). -/
  msixAddr : List Word64 := List.replicate 64 0
  /-- MSI-X message data, 64 × 32 bits; 02 R65; reset 0. -/
  msixData : List Word32 := List.replicate 64 0
  /-- MSI-X vector control mask bits, 64 × 1 bit; 02 R65; reset 1 (PRESUMED, PCI Express; log 7). -/
  msixMask : List Bool := List.replicate 64 true
  /-- Pending Bit Array, 64 bits; 02 R65; reset 0. -/
  pba : List Bool := List.replicate 64 false
  /-- MSI-X Enable of the capability; 02 R50; reset 0. -/
  msixEnable : Bool := false
  /-- MSI-X Function Mask of the capability; 02 R50; reset 0. -/
  msixFnMask : Bool := false
  /-- Power state of the function; 02 R51; reset D0 (DESIGN CHOICE, log 8). -/
  dstate : DState := .d0
  /-- PME_En of the power-management capability; 14 R436; reset 0 (PRESUMED, PCI Express; log 7). -/
  pmeEn : Bool := false
  /-- PME_Status; 14 R436; reset 0 (PRESUMED, PCI Express; log 7). -/
  pmeStatus : Bool := false
  /-- PERST# is asserted at the pin; 02 R50; reset false. -/
  perst : Bool := false
  /-- Module time at which PERST# was last deasserted; 14 R436; reset 0. -/
  perstTime : Nat := 0
  deriving DecidableEq, Repr, Inhabited

/-! ## Device memory and surfaces (file 03) -/

/-- Who owns a region of device memory. -/
inductive RegionKind where
  /-- Allocated by MEM_ALLOC; 03 R120. -/
  | host
  /-- Ring of a camera input (R287). -/
  | camera (input : Nat)
  /-- Write-back ring of a pipe (R273). -/
  | writeback (pipe : Nat)
  /-- Recording rings: segment store of a stream (R29, R451). -/
  | recording (stream : Nat)
  /-- Assets of the standing programme (R463). -/
  | programme
  deriving DecidableEq, Repr, Inhabited

/-- A region of device memory, a run of consecutive granules (R97). -/
structure Region where
  /-- First granule; 03 R97. -/
  base : Nat := 0
  /-- Number of granules; 03 R97. -/
  count : Nat := 0
  /-- Owner; 03 R98. -/
  kind : RegionKind := .host
  /-- Mirror granule of each granule, empty unless twin; 03 R99. -/
  mirror : List Nat := []
  /-- Longest free run of the pool when the region was placed, for AR_MEMORY's summary; 10 R322. -/
  run : Nat := 0
  deriving DecidableEq, Repr, Inhabited

/-- Device memory: contents, the validity of each copy of each codeword, and the region table. A codeword is named by
floor(address / 128). -/
structure DevMem where
  /-- Contents, 8,053,063,680 bytes, as (address, byte) pairs; an unlisted byte reads as 0; 03 R97; reset nothing listed (DESIGN CHOICE 0, log 3). -/
  cells : List Host.Cell := []
  /-- Regions other than the fixed area, by rising first granule; 03 R97; reset empty. -/
  regions : List Region := []
  /-- Symbol errors stored in primary copies: codeword, then (symbol of c(x), error) pairs; 18 R540; reset empty. -/
  errs : List (Nat × List (Nat × Nat)) := []
  /-- Symbol errors stored in mirror copies, named by the primary codeword; 18 R540; reset empty. -/
  errsMirror : List (Nat × List (Nat × Nat)) := []
  /-- Codewords whose POISON bit is set (Table 3-1), rising; 03 R94; reset empty. -/
  poison : List Nat := []
  /-- Pages whose PAGE_TAG disagrees with their index (channel, page); 03 R95; reset empty. -/
  badTags : List (Nat × Nat) := []
  /-- GDDR6 device d is lost, 4 bits; 03 R101; reset 0. -/
  lost : List Bool := List.replicate 4 false
  /-- Consecutive failed bursts and retries of each device, 4; 18 R544; reset 0. -/
  crcFails : List Nat := List.replicate 4 0
  /-- Twin granules whose primary copy was lost, with the granule that now holds it; 18 R546; reset empty. -/
  moved : List (Nat × Nat) := []
  /-- Granules of the fixed area of which a copy was lost, with the pool granule that holds the new copy; 18 R546; reset empty. -/
  fixedCopies : List (Nat × Nat) := []
  /-- Twin granules that wait for re-mirroring, rising; 18 R546; reset empty. -/
  remirror : List Nat := []
  deriving DecidableEq, Repr, Inhabited

/-- Surface states (Table 3-6). -/
inductive SurfState where
  | registered | attached | retiring | lost
  deriving DecidableEq, Repr, Inhabited

/-- Part of a surface's area on one pipe that later banks have yet to write (R112). -/
structure RetireArea where
  /-- Pipe; 03 R112. -/
  pipe : Nat := 0
  /-- Tile indexes still to be written; 03 R112. -/
  tiles : List Nat := []
  /-- First FRAMES value whose writes count; 03 R112. -/
  frame : Nat := 0
  deriving DecidableEq, Repr, Inhabited

/-- One entry of the surface table. -/
structure Surface where
  /-- INDEX, 14 bits; 03 R110. -/
  index : Nat := 0
  /-- Generation, 32 bits; 03 R110; the first is 1. -/
  gen : Nat := 1
  /-- The index holds a registered surface; 03 R110. -/
  live : Bool := false
  /-- State of Table 3-6; 03 R111. -/
  state : SurfState := .registered
  /-- BASE; 03 R122. -/
  base : Nat := 0
  /-- WIDTH; 03 R122. -/
  width : Nat := 0
  /-- HEIGHT; 03 R122. -/
  height : Nat := 0
  /-- FORMAT; 03 R102. -/
  format : Nat := 0
  /-- COMPRESSED; 03 R105. -/
  compressed : Bool := false
  /-- PITCH0; 03 R122. -/
  pitch0 : Nat := 0
  /-- PITCH1; 03 R122. -/
  pitch1 : Nat := 0
  /-- OFFSET1; 03 R122. -/
  offset1 : Nat := 0
  /-- SEALED; 03 R115. -/
  sealed : Bool := false
  /-- SEAL_BROKEN; 03 R117. -/
  sealBroken : Bool := false
  /-- Seal words, one per source tile; 03 R115. -/
  sealWords : List Word32 := []
  /-- Seal words found uncorrectable in the seal store (tile indexes); 03 R118. -/
  sealStoreBad : List Nat := []
  /-- Source tiles that failed their seal since it was taken; 03 R117. -/
  failedTiles : List Nat := []
  /-- Malformed tiles whose event was raised since the content was replaced; 03 R108. -/
  decodeTiles : List Nat := []
  /-- The surface has been attached other than by jobs and transfers since it was last REGISTERED; 03 R112. -/
  everLayer : Bool := false
  /-- Its retire event fell due during CONTAIN and is raised on exit; 03 R113. -/
  retireDue : Bool := false
  /-- Areas not yet written under a later bank; 03 R112. -/
  areas : List RetireArea := []
  /-- Module time of the last retirement, 0 if none; 03 R126. -/
  retireTime : Nat := 0
  /-- Line watermark of a raced surface (progress P); 11 R344. -/
  watermark : Nat := 0
  deriving DecidableEq, Repr, Inhabited

/-- A SURFACE_SEAL whose words are being computed (R125). -/
structure SealJob where
  /-- The barge; 03 R125. -/
  barge : Barge := {}
  /-- Surface index; 03 R125. -/
  index : Nat := 0
  deriving DecidableEq, Repr, Inhabited

/-- A host DMA transfer in flight (R124). -/
structure DmaJob where
  /-- The barge; 03 R124. -/
  barge : Barge := {}
  /-- Upload (true) or download; 03 R124. -/
  upload : Bool := true
  deriving DecidableEq, Repr, Inhabited

/-! ## Layers, pods and commits (file 04) -/

/-- Envelope of a layer (Table 4-5). -/
structure Envelope where
  /-- KINDS, 3 bits; 04 R154. -/
  kinds : Nat := 0
  /-- MAX_BPP; 04 R154. -/
  maxBpp : Nat := 0
  /-- MAX_SRC_W; 04 R154. -/
  maxSrcW : Nat := 0
  /-- MAX_SRC_H; 04 R154. -/
  maxSrcH : Nat := 0
  /-- MAX_DST_W; 04 R154. -/
  maxDstW : Nat := 0
  /-- MAX_DST_H; 04 R154. -/
  maxDstH : Nat := 0
  /-- MAX_RV, 8.8; 04 R154. -/
  maxRv : Nat := 0
  /-- TAPS_V; 04 R154. -/
  tapsV : Nat := 0
  /-- DECIMATE; 04 R154. -/
  decimate : Nat := 1
  /-- EFLAGS [0] compressed surfaces allowed; 04 R154. -/
  compressed : Bool := false
  deriving DecidableEq, Repr, Inhabited

/-- A layer's settings: the groups of Table 4-6. The values before any LAYER_SET are DESIGN CHOICE, log 9. -/
structure LayerCfg where
  /-- SOURCE_KIND: 0 surface, 1 camera, 2 raced; 04 R156. -/
  kind : Nat := 0
  /-- INPUT; 04 R156. -/
  input : Nat := 0
  /-- A source has been set; 04 R156. -/
  hasSource : Bool := false
  /-- HANDLE, 0 for none or camera; 04 R156. -/
  handle : Nat := 0
  /-- SRC_X; 04 R156. -/
  srcX : Nat := 0
  /-- SRC_Y; 04 R156. -/
  srcY : Nat := 0
  /-- SRC_W; 04 R156. -/
  srcW : Nat := 0
  /-- SRC_H; 04 R156. -/
  srcH : Nat := 0
  /-- DST_X, signed; 04 R156. -/
  dstX : Int := 0
  /-- DST_Y, signed; 04 R156. -/
  dstY : Int := 0
  /-- DST_W; 04 R156. -/
  dstW : Nat := 0
  /-- DST_H; 04 R156. -/
  dstH : Nat := 0
  /-- ZPOS; 04 R129. -/
  zpos : Nat := 0
  /-- ENABLE; 04 R156. -/
  enable : Bool := false
  /-- BLEND; 04 R156. -/
  blend : Nat := 0
  /-- LAYER_ALPHA; 04 R156. -/
  alpha : Nat := 255
  /-- COLOUR_ENC; 06 R191. -/
  enc : Nat := 0
  /-- RANGE; 06 R191. -/
  range : Nat := 0
  /-- TRANSFER; 06 R191. -/
  transfer : Nat := 0
  /-- TONE_MODE; 06 R191. -/
  toneMode : Nat := 0
  /-- TONE_CURVE; 06 R199. -/
  toneCurve : Nat := 0
  /-- TAPS_H; 05 R180. -/
  tapsH : Nat := 2
  /-- TAPS_V; 05 R180. -/
  tapsV : Nat := 2
  /-- DECIMATE; 05 R181. -/
  decimate : Nat := 1
  /-- FILTER; 05 R180. -/
  filter : Nat := 1
  deriving DecidableEq, Repr, Inhabited

/-- Tone state of a layer: statistics and the adaptive curve (R201 to R205). -/
structure Tone where
  /-- Tone table in use, 113 entries of 16 bits; 06 R197. -/
  table : List Nat := []
  /-- Seed table S; 06 R199. -/
  seed : List Nat := []
  /-- Counted frames since the seed point, j; 06 R203. -/
  j : Nat := 0
  /-- Histograms of the last 8 counted frames, newest first; 06 R202. -/
  window : List (List Nat) := []
  /-- Histogram of the frame being composed, 56 bins of 24 bits; 06 R201. -/
  hist : List Nat := List.replicate 56 0
  /-- Samples taken in the frame being composed; 06 R201. -/
  samples : Nat := 0
  /-- The frame being composed is not to be counted (late, or a takeover); 06 R201, 07 R235. -/
  spoiled : Bool := false
  /-- Table computed from the statistics, to be applied at the next lock (R205); 06 R205. -/
  next : Option (List Nat) := none
  deriving DecidableEq, Repr, Inhabited

/-- A change of one layer that a commit took: the groups written and their values (R131). -/
structure Change where
  /-- Layer slot; 04 R131. -/
  slot : Nat := 0
  /-- Groups, as CHANGE of Table 4-6; 04 R131. -/
  mask : Nat := 0
  /-- Values of the groups; 04 R131. -/
  cfg : LayerCfg := {}
  /-- Acquire fence and value; 04 R142. -/
  fence : Option (Nat × Word64) := none
  deriving DecidableEq, Repr, Inhabited

/-- A group of conditional entries (R143), or a single change without a fence. -/
structure Group where
  /-- Pod, 255 for a layer in no pod; 04 R146. -/
  pod : Nat := 255
  /-- The pod is ATOMIC; 04 R141. -/
  atomic : Bool := false
  /-- Changes of the group; 04 R143. -/
  changes : List Change := []
  /-- Ring of the COMMIT that took it; 04 R146. -/
  ring : Nat := 0
  /-- SEQ of the COMMIT that took it; 04 R146. -/
  seq : Nat := 0
  deriving DecidableEq, Repr, Inhabited

/-- A COMMIT that has started (R131 to R139). -/
structure Commit where
  /-- The barge; 04 R159. -/
  barge : Barge := {}
  /-- LANDED; 04 R159. -/
  landed : Bool := false
  /-- Groups taken; 04 R131. -/
  groups : List Group := []
  /-- Slots whose release it took; 04 R131. -/
  releases : List Nat := []
  /-- The shadow banks are marked complete; 04 R132. -/
  complete : Bool := false
  /-- Module time at which they were marked; 04 R138. -/
  completeTime : Nat := 0
  /-- It missed its target lock; 04 R138. -/
  missed : Bool := false
  /-- Module time of the target lock that it missed; 04 R138. -/
  targetTime : Nat := 0
  deriving DecidableEq, Repr, Inhabited

/-- A COMMIT with LANDED that was applied and waits for its tiles (R139). -/
structure LandedWait where
  /-- The barge; 04 R139. -/
  barge : Barge := {}
  /-- Tiles damaged by the commit and not yet written or held; 04 R139. -/
  tiles : List Nat := []
  /-- DETAIL; 04 R139. -/
  detail : Nat := 0
  /-- CFLAGS; 04 R139. -/
  cflags : Nat := 0
  deriving DecidableEq, Repr, Inhabited

/-- States of a layer slot (Table 4-1). -/
inductive SlotState where
  | unassigned | assigned | releasePending
  deriving DecidableEq, Repr, Inhabited

/-- One layer slot (R127 to R130). -/
structure Layer where
  /-- State of Table 4-1; 04 R127; reset UNASSIGNED. -/
  state : SlotState := .unassigned
  /-- Pipe it belongs to; 04 R127; reset 0. -/
  pipe : Nat := 0
  /-- Envelope; 04 R128; reset all 0. -/
  env : Envelope := {}
  /-- Active state; 04 R130; reset disabled, no source (DESIGN CHOICE, log 9). -/
  active : LayerCfg := {}
  /-- Shadow state; 04 R130; reset as the active state. -/
  shadow : LayerCfg := {}
  /-- Groups written and not taken by a COMMIT, 10 bits; 04 R131; reset 0. -/
  pending : Nat := 0
  /-- Acquire fence of the pending change; 04 R142; reset none. -/
  acquire : Option (Nat × Word64) := none
  /-- A COMMIT has taken the release; 04 R131, R155; reset 0. -/
  releaseWaits : Bool := false
  /-- APPLIED_TIME; 04 R161; reset 0. -/
  appliedTime : Nat := 0
  /-- DEFERRALS, saturating; 04 R161; reset 0. -/
  deferrals : Nat := 0
  /-- Tone state; 06 R201; reset empty. -/
  tone : Tone := {}
  /-- A camera layer is hidden, as of the last lock; 09 R286; reset false. -/
  hidden : Bool := false
  /-- Ring slot bound for the frame, of a camera layer; 09 R290; reset none. -/
  boundSlot : Option Nat := none
  /-- Camera frame sequence number bound; 09 R290; reset 0. -/
  boundSeq : Nat := 0
  deriving DecidableEq, Repr, Inhabited

/-- A pod (R141). -/
structure Pod where
  /-- The pod exists; 04 R141; reset absent. -/
  live : Bool := false
  /-- Its pipe; 04 R141; reset 0. -/
  pipe : Nat := 0
  /-- POLICY is ATOMIC; 04 R157; reset false. -/
  atomic : Bool := false
  /-- Members; 04 R157; reset none. -/
  members : List Nat := []
  deriving DecidableEq, Repr, Inhabited

/-! ## Lanes, basin and pipes (files 05 to 08) -/

/-- One 64-pixel tile segment of a line write: the words, or held (tags only). -/
structure Seg where
  /-- Tile column; 07 R224. -/
  col : Nat := 0
  /-- The basin tile is held: only tags are written; 03 R117. -/
  held : Bool := false
  /-- Surface for which it is held, none for a late layer; 03 R117, R126. -/
  heldBy : Option Nat := none
  /-- Composed colour words, tag 0; 06 R212. -/
  words : List Word32 := []
  deriving DecidableEq, Repr, Inhabited

/-- Life of one line of one half of a pipe in the frame being composed. -/
structure LineRec where
  /-- Line y; 07 R223. -/
  y : Nat := 0
  /-- FRAMES value of the frame being composed; 07 R221. -/
  frame : Nat := 0
  /-- Tile columns that the row latch marks; 07 R226. -/
  marked : List Nat := []
  /-- The lane has composed the line, or has nothing to compose on it; 07 R225. -/
  done : Bool := false
  /-- The composed segments, as the line write carries them; 07 R224. -/
  segs : List Seg := []
  /-- The line write has been issued by the lane and is not yet at the basin; 07 R224. -/
  issued : Bool := false
  /-- The line write waits in the basin for the window; 07 R224. -/
  waiting : Bool := false
  /-- t_open has passed; 07 R224. -/
  opened : Bool := false
  /-- The line write has landed (landed record); 07 R226. -/
  landed : Bool := false
  /-- The lane passed the line over: it would have begun after the deadline; 07 R225. -/
  skipped : Bool := false
  /-- The window closed without the line write: it is held over; 07 R226. -/
  heldOver : Bool := false
  /-- The write, when it lands, is by the incoming lane of a handover; 07 R234. -/
  incoming : Bool := false
  /-- t_close has passed; 07 R224. -/
  closed : Bool := false
  deriving DecidableEq, Repr, Inhabited

/-- Composition of one half of a pipe by its lane. -/
structure Half where
  /-- Next line the lane takes; 07 R225; reset 0. -/
  nextLine : Nat := 0
  /-- The lane has begun that line; 07 R225; reset false. -/
  begun : Bool := false
  /-- Row latch of the tile row being composed: marked tile columns; 07 R226; reset empty. -/
  latch : List Nat := []
  /-- Tile columns of that row marked again since its first line; 05 R164; reset empty. -/
  again : List Nat := []
  /-- The row has a line that was not composed or not landed; 07 R225; reset false. -/
  rowMissed : Bool := false
  /-- Lines whose window has not closed; 07 R226; reset empty. -/
  lines : List LineRec := []
  /-- Late raced layers of the frame and the line from which they are late; 05 R177; reset empty. -/
  late : List (Nat × Nat) := []
  /-- Basin tiles held for the rest of the frame (R177); 05 R177; reset empty. -/
  heldTiles : List Nat := []
  /-- Tile columns of the row held because a source cannot be shown, with the surface; 03 R117, R119; reset empty. -/
  failed : List (Nat × Nat) := []
  /-- Line writes landed, by frame; 07 R239; reset empty. -/
  written : List (Nat × Nat) := []
  /-- Lines held over in the frame being scanned; 07 R226; reset empty. -/
  heldLines : List Nat := []
  /-- First line with last-pixel repeat in the frame; 07 R229; reset 0. -/
  repFirst : Nat := 0
  /-- Lines with last-pixel repeat in the frame; 07 R229; reset 0. -/
  repCount : Nat := 0
  /-- CRC register of FRAME_CRC over the pixels driven; 07 R239; reset 0xFFFFFFFF. -/
  crc : Word32 := 0xFFFFFFFF
  /-- Last pixel driven, 30 bits, 0 if none since the pipe was enabled; 07 R229; reset 0. -/
  lastPixel : Word32 := 0
  /-- Lines that the scan-out has fetched from the basin and that FRAME_CRC does not yet cover: line and pixels, oldest first; 07 R228; reset empty. -/
  fifo : List (Nat × List Word32) := []
  /-- Source tiles read whole in the frame: surface index and tile; 05 R167; reset empty. -/
  tilesRead : List (Nat × Nat) := []
  /-- Frame in which the probe was written, none before; 07 R237; reset none. -/
  probeWritten : Option Nat := none
  /-- PROBE_VALID of the last check; 07 R239; reset false. -/
  probeValid : Bool := false
  /-- PROBE_OK of the last check; 07 R239; reset false. -/
  probeOk : Bool := false
  /-- Consecutive frames with a probe mismatch; 07 R238; reset 0. -/
  probeFails : Nat := 0
  /-- The CAM_FRAME of the frame being composed; 07 R239; reset 0. -/
  camFrame : Nat := 0
  deriving DecidableEq, Repr, Inhabited

/-- Pipe configuration (Table 8-2). -/
structure PipeCfg where
  /-- LINK_KIND; 08 R242. -/
  linkKind : Nat := 0
  /-- LINKS; 08 R242. -/
  links : Nat := 0
  /-- CFLAGS: DSC; 08 R242. -/
  dsc : Bool := false
  /-- CFLAGS: DITHER; 08 R242. -/
  dither : Bool := false
  /-- CFLAGS: ALPM; 08 R242. -/
  alpm : Bool := false
  /-- LINK0; 08 R242. -/
  link0 : Nat := 255
  /-- LINK1; 08 R242. -/
  link1 : Nat := 255
  /-- LANE_COUNT; 08 R242. -/
  laneCount : Nat := 0
  /-- LINK_RATE; 08 R242. -/
  linkRate : Nat := 0
  /-- PIXCLK in Hz; 08 R242. -/
  pixclk : Nat := 0
  /-- H_ACTIVE; 08 R242. -/
  hActive : Nat := 0
  /-- H_FP; 08 R242. -/
  hFp : Nat := 0
  /-- H_SYNC; 08 R242. -/
  hSync : Nat := 0
  /-- H_BP; 08 R242. -/
  hBp : Nat := 0
  /-- V_ACTIVE; 08 R242. -/
  vActive : Nat := 0
  /-- V_FP; 08 R242. -/
  vFp : Nat := 0
  /-- V_SYNC; 08 R242. -/
  vSync : Nat := 0
  /-- V_BP; 08 R242. -/
  vBp : Nat := 0
  /-- VT_MIN; 08 R242. -/
  vtMin : Nat := 0
  /-- VT_MAX; 08 R242. -/
  vtMax : Nat := 0
  /-- LEAD; 08 R242. -/
  lead : Nat := 0
  /-- BPC; 08 R242. -/
  bpc : Nat := 0
  /-- DSC_BPP; 08 R242. -/
  dscBpp : Nat := 0
  /-- DSC_SLICES; 08 R242. -/
  dscSlices : Nat := 0
  /-- BLACK_MIN; 08 R242. -/
  blackMin : Nat := 0
  /-- SYNC_POL; 08 R242. -/
  syncPol : Nat := 0
  /-- OSTAGE_ADDR; 08 R242. -/
  ostage : Nat := 0
  deriving DecidableEq, Repr, Inhabited

/-- The output-stage RAM of a pipe (Table 6-5). -/
structure OutStage where
  /-- W_SDR; 06 R208. -/
  wSdr : Nat := 80
  /-- PIPE_PEAK; 06 R208. -/
  peak : Nat := 80
  /-- PRIMARIES; 06 R208. -/
  primaries : Nat := 0
  /-- PANEL_TF; 06 R208. -/
  panelTf : Nat := 0
  /-- LUT3D_EN; 06 R208. -/
  lut3dEn : Bool := false
  /-- BG_R, BG_G, BG_B; 06 R208. -/
  bg : List Nat := [0, 0, 0]
  /-- PANEL_LUT, 3 × 449 entries, empty unless CUSTOM; 06 R208. -/
  panelLut : List Nat := []
  /-- LUT3D, 3 × 4,913 values in the order of Table 6-5, empty unless LUT3D_EN; 06 R208. -/
  lut3d : List Nat := []
  deriving DecidableEq, Repr, Inhabited

/-- Pipe states (Table 8-1). -/
inductive PipeState where
  | unconfigured | configured | running | retraining
  deriving DecidableEq, Repr, Inhabited

/-- Tow states (Table 8-11). -/
inductive TowState where
  | off | free | acquiring | locked
  deriving DecidableEq, Repr, Inhabited

/-- The tow unit of a pipe (R256 to R260). -/
structure Tow where
  /-- TOW_STATE; 08 R258; reset OFF. -/
  state : TowState := .off
  /-- Tow layer slot; 08 R270; reset 0. -/
  slot : Nat := 0
  /-- CLASS; 08 R270; reset NONE. -/
  cls : Nat := 0
  /-- GUARD_US; 08 R270; reset 0. -/
  guardUs : Nat := 0
  /-- BOUND_US; 08 R270; reset 0. -/
  boundUs : Nat := 0
  /-- Stamps of frame starts since FREE began, newest first (the last 9): module time and ring slot sequence number; 08 R258; reset empty. -/
  stamps : List (Nat × Nat) := []
  /-- Frames of the pipe counted since the first stamp after FREE began; 08 R258; reset 0. -/
  freeFrames : Nat := 0
  /-- e of the last decision, ns; 08 R271; reset 0. -/
  err : Int := 0
  /-- Consecutive decisions that count towards the next change of state; 08 R258; reset 0. -/
  streak : Nat := 0
  /-- Predicted start s of the last decision; 08 R258; reset 0. -/
  predicted : Int := 0
  /-- TOW_PHASE, ns; 08 R257; reset 0. -/
  phase : Nat := 0
  /-- phi_min, ns rounded up; 08 R257; reset 0. -/
  phiMin : Nat := 0
  /-- Trim of V_FP in force, −4 to 4; 08 R258; reset 0. -/
  dv : Int := 0
  /-- Frames that bound a new camera frame and are not yet driven: frame, SEQ and T_SOF; 09 R293; reset empty. -/
  pend : List (Nat × Nat × Nat) := []
  /-- The last 8 latency measurements, ns, newest first; 09 R293; reset empty. -/
  meas : List Nat := []
  deriving DecidableEq, Repr, Inhabited

/-- A TOW_SET accepted and waiting for the lock (R270). -/
structure TowPending where
  /-- The barge; 08 R270. -/
  barge : Barge := {}
  /-- Enable; 08 R270. -/
  enable : Bool := false
  /-- SLOT; 08 R270. -/
  slot : Nat := 0
  /-- CLASS; 08 R270. -/
  cls : Nat := 0
  /-- GUARD_US; 08 R270. -/
  guardUs : Nat := 0
  /-- BOUND_US; 08 R270. -/
  boundUs : Nat := 0
  deriving DecidableEq, Repr, Inhabited

/-- A frame record (Table 7-6). -/
structure FrameRecord where
  /-- FRAME; 07 R239. -/
  frame : Nat := 0
  /-- TIME; 07 R239. -/
  time : Nat := 0
  /-- FRAME_CRC; 07 R239. -/
  crc : Nat := 0
  /-- LINES_WRITTEN; 07 R239. -/
  written : Nat := 0
  /-- LINES_HELD; 07 R239. -/
  held : Nat := 0
  /-- LINES_REPEATED; 07 R239. -/
  repeated : Nat := 0
  /-- LINK; 07 R239. -/
  link : Nat := 0
  /-- RFLAGS; 07 R239. -/
  rflags : Nat := 0
  /-- CAM_FRAME; 07 R239. -/
  camFrame : Nat := 0
  /-- PIXEL_CRC of the slot bound for CAM_FRAME, none for a host ring or an incomplete frame; 13 R406. -/
  pc : Option Nat := none
  deriving DecidableEq, Repr, Inhabited

/-- Write-back tap of a pipe (R213, R273). -/
structure Writeback where
  /-- WB_EN; 08 R273; reset 0. -/
  enable : Bool := false
  /-- FORMAT; 08 R273; reset 0. -/
  format : Nat := 0
  /-- RATE_DIV; 08 R273; reset 0. -/
  rateDiv : Nat := 0
  /-- DEST; 08 R273; reset 0. -/
  dest : Nat := 0
  /-- Host surfaces in rotation; 08 R273; reset empty. -/
  handles : List Nat := []
  /-- Next surface or ring slot; 08 R273; reset 0. -/
  next : Nat := 0
  /-- Frames the ring holds (DEST 0); 08 R273; reset 0. -/
  slots : Nat := 0
  /-- Frames captured since the tap was enabled: FRAMES value, ring slot, module time, newest first; 08 R273; reset empty. -/
  frames : List (Nat × Nat × Nat) := []
  /-- Frame records of the pipe's links in the last frames, newest first, at most 128; 07 R239, 15 R452; reset empty. -/
  records : List FrameRecord := []
  deriving DecidableEq, Repr, Inhabited

/-- A latency contract (R293, R300). -/
structure Contract where
  /-- Pipe; 09 R300. -/
  pipe : Nat := 0
  /-- Slot; 09 R300. -/
  slot : Nat := 0
  /-- CLASS; 09 R300. -/
  cls : Nat := 0
  /-- BOUND_US; 09 R300. -/
  boundUs : Nat := 0
  /-- Frames that bound a new camera frame and are not yet driven: frame, SEQ and T_SOF; 09 R293. -/
  pend : List (Nat × Nat × Nat) := []
  /-- The last 8 measurements, ns, newest first; 09 R293. -/
  meas : List Nat := []
  deriving DecidableEq, Repr, Inhabited

/-- A setting that waits for a pipe's lock. -/
inductive AtLock where
  /-- COMMIT with no pending change (R134). -/
  | emptyCommit (b : Barge)
  /-- DAMAGE_DECLARE (R160). -/
  | damage (b : Barge)
  /-- TIMING_CHANGE identical to the configuration (R250). -/
  | sameTiming (b : Barge)
  /-- TOW_SET (R270). -/
  | tow (t : TowPending)
  /-- WRITEBACK_SET (R273). -/
  | writeback (b : Barge) (w : Writeback)
  /-- LATENCY_CONTRACT_SET; CLASS 0 removes the contract (R300). -/
  | contract (b : Barge) (c : Contract)
  deriving DecidableEq, Repr, Inhabited

/-- A TIMING_CHANGE that has started (R250 to R252). -/
structure Retime where
  /-- The barge; 08 R269. -/
  barge : Barge := {}
  /-- New configuration; 08 R250. -/
  cfg : PipeCfg := {}
  /-- New output stage; 06 R208. -/
  ostage : OutStage := {}
  /-- Link class (Table 8-7), else lock class; 08 R250. -/
  linkClass : Bool := false
  /-- Step of Table 8-7 reached, 1 to 5; 08 R252. -/
  step : Nat := 1
  /-- Module time at which it started; 08 R251. -/
  startTime : Nat := 0
  /-- It was committed before a CONTAIN: its record is RECOVERED; 08 R252. -/
  recovered : Bool := false
  deriving DecidableEq, Repr, Inhabited

/-- Purpose of the black frames a pipe is driving. -/
inductive BlackFor where
  | disable | retrain
  deriving DecidableEq, Repr, Inhabited

/-- One pipe: timing, commits, damage, lanes' work, towing, write-back. -/
structure Pipe where
  /-- PIPE_STATE; 08 R241; reset UNCONFIGURED. -/
  state : PipeState := .unconfigured
  /-- Configuration; 08 R242; reset all 0. -/
  cfg : PipeCfg := {}
  /-- Output-stage RAM; 06 R208; reset W_SDR and PIPE_PEAK 80, black, no tables (DESIGN CHOICE, log 9). -/
  ostage : OutStage := {}
  /-- Logical lanes of the halves; 01 R30; reset none. -/
  lanes : List Nat := []
  /-- Unit map range: basin units in frame order; 07 R218; reset empty. -/
  units : List Nat := []
  /-- PIXCLK at the last training; 08 R250; reset 0. -/
  trainedClk : Nat := 0
  /-- Damage map, one bit per tile in raster order; 01 R24; reset empty. -/
  damage : List Bool := []
  /-- FRAMES value of the frame being composed; 07 R221; reset 0. -/
  compFrame : Nat := 0
  /-- A frame is being composed (a lock has occurred since the pipe started); 04 R136; reset false. -/
  composing : Bool := false
  /-- The halves; 05 R163; reset two idle halves. -/
  halves : List Half := [{}, {}]
  /-- The commit in the shadow bank; 04 R133; reset none. -/
  shadow : Option Commit := none
  /-- COMMITs that wait for the shadow bank; 04 R133; reset empty. -/
  waiting : List Commit := []
  /-- Carried groups in the active bank; 04 R146; reset empty. -/
  carried : List Group := []
  /-- Applied COMMITs with LANDED; 04 R139; reset empty. -/
  landings : List LandedWait := []
  /-- Settings that wait for the lock; 04 R134; reset empty. -/
  atLock : List AtLock := []
  /-- TIMING_CHANGE in progress; 08 R252; reset none. -/
  retime : Option Retime := none
  /-- New LEAD that governs the lock after next (R251): locks to go and value; 08 R251; reset none. -/
  leadNext : Option (Nat × Nat) := none
  /-- New V_FP and PIXCLK that take effect at the next t_s(0); 08 R251; reset none. -/
  timingNext : Option PipeCfg := none
  /-- PIPE_DISABLE barges that wait; 08 R248; reset empty. -/
  disables : List Barge := []
  /-- PIPE_ENABLE barges that wait; 08 R247; reset empty. -/
  enables : List Barge := []
  /-- Black frames still to be driven and why; 08 R248; reset none. -/
  black : Option (Nat × BlackFor) := none
  /-- The basin has been valid since first light; 07 R233; reset false. -/
  lit : Bool := false
  /-- Every line of every link landed in the frame that ended; 07 R233; reset false. -/
  wholeFrame : Bool := false
  /-- Frames since enable in which every line of every link landed; FRAMES of the first driven on all links; 08 R247; reset none. -/
  firstFrame : Option Nat := none
  /-- Module time of t_s(0) of the frame being scanned; 07 R239; reset 0. -/
  frameTime : Nat := 0
  /-- Module time of the last lock; 04 R138; reset 0. -/
  lockTime : Nat := 0
  /-- Tow unit; 08 R256; reset OFF. -/
  tow : Tow := {}
  /-- Write-back tap; 08 R273; reset disabled. -/
  wb : Writeback := {}
  /-- Basin tiles that were last written as held for a failed surface: tile and surface index; 03 R117, R126; reset empty. -/
  holds : List (Nat × Nat) := []
  /-- The frame being composed is captured; 06 R213; reset false. -/
  capturing : Bool := false
  deriving DecidableEq, Repr, Inhabited

/-- The basin (file 07). -/
structure Basin where
  /-- Contents, 33,554,432 words of 32 bits, as (basin address, word) pairs by rising address; an unlisted word reads as 0; 07 R215; reset nothing listed (DESIGN CHOICE 0, log 3). -/
  cells : List (Nat × Word32) := []
  /-- Wrong stored bits: row word, mask of its 256 data bits, mask of its 96 check bits (lane i, check k at 6i + k); 18 R542; reset empty. -/
  errs : List (Nat × Nat × Nat) := []
  /-- Wrong stored bits of the shadow bank, by row; 18 R542; reset empty. -/
  shadowErrs : List (Nat × Nat × Nat) := []
  /-- Physical bank of each logical bank, 16 × 5 bits; 07 R214, R217; reset 0 to 15 (DESIGN CHOICE, log 17). -/
  map : List Nat := List.range 16
  /-- Physical bank of the shadow, none when there is no shadow; 07 R214, R590; reset 16 (DESIGN CHOICE, log 17). -/
  shadow : Option Nat := some 16
  /-- Failed logical bank that is served by reconstruction while it is rebuilt; 07 R217; reset none. -/
  failed : Option Nat := none
  /-- Banks for which a BASIN_WORD record was written in the frame of a pipe: pipe and bank; 18 R543; reset empty. -/
  recorded : List (Nat × Nat) := []
  deriving DecidableEq, Repr, Inhabited

/-- Output link states (Table 8-11). -/
inductive LinkState where
  | down | training | up | black | idle
  deriving DecidableEq, Repr, Inhabited

/-- An AUX transaction in progress (R265, R272). -/
structure AuxJob where
  /-- EDID_READ that it serves, none for a link-status read; 08 R272. -/
  barge : Option Barge := none
  /-- SPACE: 0 EDID, 1 DPCD; 08 R272. -/
  space : Nat := 0
  /-- Address of the next byte; 08 R272. -/
  addr : Nat := 0
  /-- Bytes still to read; 08 R272. -/
  left : Nat := 0
  /-- Bytes read; 08 R272. -/
  data : List Byte := []
  /-- Timeouts of the present transaction; 08 R265. -/
  timeouts : Nat := 0
  /-- DEFER replies of the present transaction; 08 R265. -/
  defers : Nat := 0
  deriving DecidableEq, Repr, Inhabited

/-- One output link, D0 to D3 and A0 to A7 (files 07 and 08). -/
structure Link where
  /-- LINK_STATE; 08 R271; reset DOWN. -/
  state : LinkState := .down
  /-- FAIL_CODE; 08 R266; reset 0. -/
  failCode : Nat := 0
  /-- RATE as trained; 08 R271; reset 0. -/
  rate : Nat := 0
  /-- LANES as trained; 08 R271; reset 0. -/
  lanes : Nat := 0
  /-- RETRAINS, 16 bits, saturating; 08 R271; reset 0. -/
  retrains : Nat := 0
  /-- TRAIN_FAILS, 32 bits, saturating; 08 R271; reset 0. -/
  trainFails : Nat := 0
  /-- LINK_EVENTS, 32 bits, saturating; 08 R271; reset 0. -/
  events : Nat := 0
  /-- HPD, or A-PHY link-up, is high; 08 R265; reset low. -/
  hpd : Bool := false
  /-- Module times of HPD edges within the last 1 s, newest first; 08 R265; reset empty. -/
  edges : List Nat := []
  /-- HPD is ignored after a storm; 08 R265; reset false. -/
  storm : Bool := false
  /-- Failed attempts of the present training series; 08 R265; reset 0. -/
  seriesFails : Nat := 0
  /-- The series' event has been raised; 08 R265; reset false. -/
  seriesTold : Bool := false
  /-- Training waits for an HPD rising edge (CAPS_MISMATCH); 08 R265; reset false. -/
  waitHpd : Bool := false
  /-- Module times of losses of lock within 10 s, newest first; 08 R265; reset empty. -/
  losses : List Nat := []
  /-- Module time at which the link last came up; 08 R265; reset 0. -/
  upTime : Nat := 0
  /-- A retraining at the next vertical blanking is due; 08 R265; reset false. -/
  retrainDue : Bool := false
  /-- The training under way follows a loss of lock that left the link's sink in place; 08 R265; reset false. -/
  irqRetrain : Bool := false
  /-- AUX transactions, first in front; 08 R265; reset empty. -/
  aux : List AuxJob := []
  /-- Retransmissions of the present A-PHY packet; 08 R263; reset 0. -/
  resends : Nat := 0
  /-- The standby scan-out read path is in use; 18 R551; reset false. -/
  standby : Bool := false
  /-- A switch to the standby path waits for the next frame start; 18 R551; reset false. -/
  switchDue : Bool := false
  /-- Paths declared faulty, 2 bits; 18 R551; reset 0. -/
  pathFaults : Nat := 0
  deriving DecidableEq, Repr, Inhabited

/-! ## Cameras (file 09) -/

/-- Stream states (Table 9-2). -/
inductive StreamState where
  | undeclared | declared | waiting | running | lost
  deriving DecidableEq, Repr, Inhabited

/-- State of a ring slot (Table 9-5). -/
inductive SlotFill where
  | free | filling | complete | dropped
  deriving DecidableEq, Repr, Inhabited

/-- One slot of a camera ring: its record (Table 9-5) as the ingest hardware holds it. -/
structure CamSlot where
  /-- SEQ, 32 bits; 09 R280. -/
  seq : Nat := 0
  /-- STATE; 09 R287. -/
  fill : SlotFill := .free
  /-- CAUSE; 09 R283. -/
  cause : Nat := 0
  /-- LINES (P), 16 bits; 09 R281. -/
  lines : Nat := 0
  /-- T_SOF; 09 R280. -/
  tSof : Nat := 0
  /-- T_DONE; 09 R287. -/
  tDone : Nat := 0
  /-- CSI_FRAME; 09 R276. -/
  csiFrame : Nat := 0
  /-- EMB_BYTES; 09 R276. -/
  embBytes : Nat := 0
  /-- PIXEL_CRC; 09 R287. -/
  pixelCrc : Nat := 0
  /-- The recording encoder holds the slot; 15 R447. -/
  encHeld : Bool := false
  deriving DecidableEq, Repr, Inhabited

/-- Declaration of a stream (Table 9-7). -/
structure CamDecl where
  /-- VC; 09 R295. -/
  vc : Nat := 0
  /-- DATA_TYPE; 09 R295. -/
  dt : Nat := 0
  /-- TWIN; 09 R295. -/
  twin : Bool := false
  /-- WIDTH; 09 R295. -/
  width : Nat := 0
  /-- HEIGHT; 09 R295. -/
  height : Nat := 0
  /-- FRAME_PERIOD_NS; 09 R295. -/
  framePeriod : Nat := 0
  /-- LINE_PERIOD_NS; 09 R295. -/
  linePeriod : Nat := 0
  /-- COLOUR_ENC; 09 R295. -/
  enc : Nat := 0
  /-- RANGE; 09 R295. -/
  range : Nat := 0
  /-- TRANSFER; 09 R295. -/
  transfer : Nat := 0
  /-- LOSS_FRAMES (0 taken as 6); 09 R295. -/
  lossFrames : Nat := 6
  /-- LOSS_ACTION is HIDE; 09 R295. -/
  hide : Bool := false
  /-- PHY_LANES; 09 R295. -/
  phyLanes : Nat := 0
  /-- GEAR; 09 R295. -/
  gear : Nat := 0
  /-- LANE_RATE; 09 R295. -/
  laneRate : Nat := 0
  /-- MAX_CLL; 09 R279. -/
  maxCll : Nat := 0
  /-- MAX_FALL; 09 R295. -/
  maxFall : Nat := 0
  deriving DecidableEq, Repr, Inhabited

/-- One camera input and its stream. -/
structure Camera where
  /-- STATE of Table 9-2; 09 R278; reset UNDECLARED. -/
  state : StreamState := .undeclared
  /-- Declaration; 09 R277; reset none (all 0). -/
  decl : CamDecl := {}
  /-- The PHY link is up; 09 R299; reset false. -/
  phyUp : Bool := false
  /-- Region of the ring: first granule, 0 with a host ring; 09 R287; reset 0. -/
  ringBase : Nat := 0
  /-- Host surfaces of a host ring; 09 R291; reset empty. -/
  handles : List Nat := []
  /-- Ring slots; 09 R287; reset empty. -/
  slots : List CamSlot := []
  /-- SLOTS asked for by CAMERA_RING_SET, 0 for the default; 09 R298; reset 0. -/
  slotsAsked : Nat := 0
  /-- The stream feeds recording; 09 R288; reset false. -/
  recorded : Bool := false
  /-- Next SEQ, 32 bits; 09 R280; reset 1. -/
  nextSeq : Nat := 1
  /-- Slot being filled; 09 R280; reset none. -/
  open_ : Option Nat := none
  /-- Long packets of the stream's type since the FS that opened the frame; 09 R281; reset 0. -/
  packets : Nat := 0
  /-- Lines staged in the input's queue and not landed, oldest first; 09 R281; reset empty. -/
  staged : List Nat := []
  /-- Slot of the newest complete frame; 09 R289; reset none. -/
  newest : Option Nat := none
  /-- A frame has been complete since CAMERA_START; 09 R286; reset false. -/
  anyComplete : Bool := false
  /-- Consecutive drops; 09 R285; reset 0. -/
  consec : Nat := 0
  /-- Drops by cause since the last complete frame, codes 1 to 11; 09 R285; reset 0. -/
  runDrops : List Nat := List.replicate 11 0
  /-- DROPS, 11 counts of 32 bits; 09 R299; reset 0. -/
  drops : List Nat := List.replicate 11 0
  /-- MALFORMED, 6 counts of 32 bits; 09 R299; reset 0. -/
  malformed : List Nat := List.replicate 6 0
  /-- Drops since the last EV_CAMERA_DROP; 09 R285; reset 0. -/
  dropsTold : Nat := 0
  /-- Module time of the last EV_CAMERA_DROP, none before the first; 09 R285; reset none. -/
  dropTime : Option Nat := none
  /-- LOSSES, 32 bits; 09 R299; reset 0. -/
  losses : Nat := 0
  /-- Module times of the last 9 FS that opened a frame, newest first; 09 R299; reset empty. -/
  fsTimes : List Nat := []
  /-- MISSING instants counted since the last FS that opened a frame; 09 R283; reset 0. -/
  missing : Nat := 0
  /-- LAT_MAX, ns; 09 R299; reset 0. -/
  latMax : Nat := 0
  /-- CAMERA_START barges that wait; 09 R296; reset empty. -/
  starts : List Barge := []
  /-- CAMERA_STOP barges that wait; 09 R297; reset empty. -/
  stops : List Barge := []
  /-- Ring memory is lost and waits for replacement; 09 R292; reset false. -/
  ringLost : Bool := false
  /-- The placing of a replacement ring failed and the shortfall was reported; 09 R292; reset false. -/
  ringShort : Bool := false
  deriving DecidableEq, Repr, Inhabited

/-! ## The lock-keeper (file 10) -/

/-- What the lock-keeper holds beside the costs of committed objects. The ledger itself is computed from the objects
(R304); this part is what they do not show. -/
structure Ledger where
  /-- T_d, °C; 10 R320; reset 125. -/
  tD : Int := 125
  /-- Drive write rate measured, kB/s, none with no drive; 10 R318; reset none. -/
  driveRate : Option Nat := none
  /-- AR codes in shortfall, with object, demand and limit; 10 R324; reset empty. -/
  shortfalls : List (Nat × Nat × Nat × Nat) := []
  /-- A GDDR6 device has been lost: the limits of R314 hold; 10 R323; reset false. -/
  deviceLost : Bool := false
  /-- Costs of an object whose release waits for a lock: pipe tows and taps still counted; 10 R301; reset empty. -/
  lingering : List Nat := []
  deriving DecidableEq, Repr, Inhabited

/-! ## 2D engines (file 11) -/

/-- One operation of a 2D job: an opcode and its payload (Table 11-4). -/
structure TwoDOp where
  /-- OPCODE 0x0601 to 0x0606; 11 R350. -/
  opcode : Nat := 0x0601
  /-- Payload bytes; 11 R350. -/
  payload : List Byte := []
  deriving DecidableEq, Repr, Inhabited

/-- A part of a 2D operation: what one destination line, one pair of lines of a 4:2:0 surface or one row of tiles moves. -/
structure TwoDPart where
  /-- Destination lines that it counts; 11 R344. -/
  lines : Nat := 1
  /-- Runs of bytes that it writes, with the results as computed when the operation began; 11 R340. -/
  runs : List (Nat × List Byte) := []
  /-- Charges in bytes of its bursts that have not been issued, in order; 11 R346. -/
  bursts : List Nat := []
  deriving DecidableEq, Repr, Inhabited

/-- A 2D job (R327). -/
structure TwoDJob where
  /-- The barge; 11 R327. -/
  barge : Barge := {}
  /-- The operations, one unless BLT_BATCH; 11 R357. -/
  ops : List TwoDOp := []
  /-- BLT_BATCH; 11 R357. -/
  batch : Bool := false
  /-- BURST in force when the job began; 11 R356. -/
  burst : Nat := 256
  /-- Operation in progress; 11 R357. -/
  cur : Nat := 0
  /-- Parts of the operation in progress that have not landed, in order; 11 R340. -/
  parts : List TwoDPart := []
  /-- Destination lines of it that have landed; 11 R344. -/
  landed : Nat := 0
  /-- It runs bottom-up; 11 R340. -/
  bottomUp : Bool := false
  /-- Codewords that could not be read or written; 11 R342. -/
  bad : List Nat := []
  /-- Module time at which it began; 11 R349. -/
  beginTime : Nat := 0
  deriving DecidableEq, Repr, Inhabited

/-- One 2D engine (R326). -/
structure Engine where
  /-- Queued jobs, first in front; at most 64; 11 R327; reset empty. -/
  queue : List TwoDJob := []
  /-- The job that has begun; 11 R327; reset none. -/
  cur : Option TwoDJob := none
  /-- RATE_KBS, 0 for none; 11 R348; reset 0. -/
  rate : Nat := 0
  /-- BURST in bytes; 11 R346; reset 256. -/
  burst : Nat := 256
  /-- Credit in millionths of a byte, up to 16,384 bytes; 11 R347; reset 0. -/
  credit : Nat := 0
  /-- Module time up to which credit has been accrued; 11 R347; reset 0. -/
  creditTime : Nat := 0
  /-- TWO_D_RESERVE barges with RATE_KBS 0 and the number of jobs before them; 11 R356; reset empty. -/
  removals : List (Barge × Nat) := []
  /-- Module time since which the engine has been idle; 16 R480; reset 0. -/
  idleSince : Nat := 0
  deriving DecidableEq, Repr, Inhabited

/-! ## The pound (file 12) -/

/-- One item of a queue. -/
structure Item where
  /-- Bytes of the item; 12 R359. -/
  bytes : List Byte := []
  /-- Cells the item holds, in order; 12 R358. -/
  cells : List Nat := []
  /-- END given and 4 control clocks passed; 12 R359. -/
  complete : Bool := false
  /-- END given; 12 R359. -/
  ended : Bool := false
  /-- Module time at which it became complete; 14 R432. -/
  time : Nat := 0
  deriving DecidableEq, Repr, Inhabited

/-- STATE of a queue (Table 12-4). -/
inductive QState where
  | absent | created | bound
  deriving DecidableEq, Repr, Inhabited

/-- One queue: the registers of Table 12-4 and its items. -/
structure Queue where
  /-- CONSUMER, 8 bits; 12 R379; reset 0. -/
  consumer : Nat := 0
  /-- PRODUCER, 8 bits; 12 R379; reset 0. -/
  producer : Nat := 0
  /-- NOTIFY, 2 bits; 12 R379; reset 0. -/
  notify : Nat := 0
  /-- RESERVED_CLASS, 1 bit; 12 R379; reset 0. -/
  reserved : Bool := false
  /-- VOIDING, 1 bit; 12 R379; reset 0. -/
  voiding : Bool := false
  /-- HI_EN, 1 bit; 12 R379; reset 0. -/
  hiEn : Bool := false
  /-- LO_EN, 1 bit; 12 R379; reset 0. -/
  loEn : Bool := false
  /-- STATE, 2 bits; 12 R379; reset ABSENT. -/
  state : QState := .absent
  /-- QUOTA, 16 bits; 12 R379; reset 0. -/
  quota : Nat := 0
  /-- MAX_ITEM, 9 bits; 12 R379; reset 0. -/
  maxItem : Nat := 0
  /-- WEIR_HI, 16 bits; 12 R379; reset 0. -/
  weirHi : Nat := 0
  /-- WEIR_LO, 16 bits; 12 R379; reset 0. -/
  weirLo : Nat := 0
  /-- NOTICE, 1 bit; 12 R376; reset 0. -/
  notice : Bool := false
  /-- DIR_UP, 1 bit; 12 R376; reset 0. -/
  dirUp : Bool := false
  /-- DIR_DOWN, 1 bit; 12 R376; reset 0. -/
  dirDown : Bool := false
  /-- CROSSINGS, 8 bits; 12 R376; reset 0. -/
  crossings : Nat := 0
  /-- EXT_HI, 16 bits; 12 R376; reset 0. -/
  extHi : Nat := 0
  /-- EXT_LO, 16 bits; 12 R376; reset 0. -/
  extLo : Nat := 0
  /-- FLUSH_PENDING, 1 bit; 12 R371; reset 0. -/
  flushPending : Bool := false
  /-- Items held behind the read position by the mark (HELD_ITEMS), oldest first; 12 R372; reset empty. -/
  held : List Item := []
  /-- Items from the read position on, oldest first, the open one last; 12 R359; reset empty. -/
  items : List Item := []
  /-- READ_OFFSET, 16 bits; 12 R379; reset 0. -/
  readOff : Nat := 0
  /-- MARK_OFFSET when a mark is set; 12 R372; reset none. -/
  markOff : Option Nat := none
  /-- ITEMS_IN, 32 bits; 12 R369; reset 0. -/
  itemsIn : Nat := 0
  /-- ITEMS_OUT, 32 bits; 12 R369; reset 0. -/
  itemsOut : Nat := 0
  /-- VOIDED, 32 bits; 12 R369; reset 0. -/
  voided : Nat := 0
  /-- QUOTA_REFUSALS, 32 bits; 12 R361; reset 0. -/
  quotaRefusals : Nat := 0
  /-- POISONED, 32 bits; 12 R374; reset 0. -/
  poisoned : Nat := 0
  deriving DecidableEq, Repr, Inhabited

/-- A pound operation's answer to its client (Table 12-2). -/
inductive PoundCode where
  | ok | full | discarded | tooLong | noItem | endOfItem | empty | poisoned | flushed | okMarkCleared | noMark
  deriving DecidableEq, Repr, Inhabited

/-- The pound: queues, quarters and cells. -/
structure Pound where
  /-- The 256 queues; 12 R379; reset ABSENT. -/
  queues : List Queue := List.replicate 256 {}
  /-- Cells in use, rising; 12 R358; reset empty. -/
  used : List Nat := []
  /-- Cells whose words cannot be corrected; 12 R374; reset empty. -/
  badCells : List Nat := []
  /-- POWERED, 4 bits; 12 R380; reset 0b0001. -/
  powered : List Bool := [true, false, false, false]
  /-- DRAINING, 4 bits; 12 R380; reset 0. -/
  draining : List Bool := List.replicate 4 false
  /-- UNDER_TEST, 4 bits; 12 R380; reset 0. -/
  underTest : List Bool := List.replicate 4 false
  /-- FAULTED, 4 bits; 12 R380; reset 0. -/
  faulted : List Bool := List.replicate 4 false
  /-- Result code of the last client operation; 12 R367; reset OK. -/
  code : PoundCode := .ok
  /-- Bytes returned by the last GET; 12 R367; reset empty. -/
  got : List Byte := []
  deriving DecidableEq, Repr, Inhabited

/-! ## Check-value units (file 13) -/

/-- A barge that waits in channel order (R388). -/
structure CvWait where
  /-- The barge; 13 R388. -/
  barge : Barge := {}
  deriving DecidableEq, Repr, Inhabited

/-- A CV_DMA chain in progress (R396). -/
structure CvChain where
  /-- The barge; 13 R411. -/
  barge : Barge := {}
  /-- Next descriptor that the channel takes; 13 R396. -/
  next : Nat := 0
  /-- Descriptors that firmware has put into the channel's queue; 13 R396. -/
  put : Nat := 0
  /-- Descriptor that failed a check, none so far; 13 R396. -/
  error : Option Nat := none
  /-- FINISH operations done; 13 R399. -/
  finishes : Nat := 0
  /-- Mismatches; 13 R401. -/
  mismatches : Nat := 0
  /-- First mismatch: index, class, computed, expected, tag; 13 R411. -/
  first : Option (Nat × Nat × Nat × Nat × Nat) := none
  /-- Data bytes processed by the chain; 13 R411. -/
  bytes : Nat := 0
  /-- The chain's first descriptor has been taken (committed); 13 R398. -/
  begun : Bool := false
  deriving DecidableEq, Repr, Inhabited

/-- One check-value channel (Table 13-6). -/
structure Channel where
  /-- FOLD, 2 bits; 13 R408; reset 0. -/
  fold : Nat := 0
  /-- INVERT; 13 R408; reset 1 (Table 13-1). -/
  invert : Bool := true
  /-- REFOUT; 13 R408; reset 1. -/
  refout : Bool := true
  /-- REFIN; 13 R408; reset 1. -/
  refin : Bool := true
  /-- PRIVILEGED; 13 R408; reset 0 for C0 to C11, 1 for C12 to C15. -/
  privileged : Bool := false
  /-- WIDTH, 7 bits; 13 R408; reset 32 (Table 13-1), 64 for C12 to C15. -/
  width : Nat := 32
  /-- POLY, 64 bits; 13 R408; reset 0x1EDC6F41, CRC-64S for C12 to C15. -/
  poly : Nat := 0x1EDC6F41
  /-- INIT, 64 bits; 13 R408; reset all ones of WIDTH. -/
  init : Nat := 0xFFFFFFFF
  /-- RUNNING, 64 bits; 13 R408; reset INIT. -/
  running : Nat := 0xFFFFFFFF
  /-- SEQ, 64 bits; 13 R408; reset 0. -/
  seq : Nat := 0
  /-- BYTES, 64 bits; 13 R408; reset 0. -/
  bytes : Nat := 0
  /-- RATE_KBS, 32 bits; 13 R408; reset 0. -/
  rate : Nat := 0
  /-- MISMATCHES, 32 bits; 13 R408; reset 0. -/
  mismatches : Nat := 0
  /-- DESCRIPTORS, 32 bits; 13 R408; reset 0. -/
  descriptors : Nat := 0
  /-- SUSPECTS, 32 bits; 13 R408; reset 0. -/
  suspects : Nat := 0
  /-- Barges in channel order, the one in progress first; 13 R388; reset empty. -/
  order : List CvWait := []
  /-- The chain in progress; 13 R396; reset none. -/
  chain : Option CvChain := none
  /-- Credit in millionths of a byte, up to 16,384 bytes; 13 R397; reset 0. -/
  credit : Nat := 0
  /-- Module time up to which credit has been accrued; 13 R397; reset 0. -/
  creditTime : Nat := 0
  /-- Out of service; 13 R389; reset false. -/
  failed : Bool := false
  deriving DecidableEq, Repr, Inhabited

/-- A FRAME_SIGN_SET that waits for a frame record (R414). -/
structure SignPending where
  /-- The barge; 13 R414. -/
  barge : Barge := {}
  /-- Module time at which it started; 13 R414. -/
  start : Nat := 0
  deriving DecidableEq, Repr, Inhabited

/-- Signing block of one link (Table 13-7). -/
structure SignBlock where
  /-- SIGN_EN; 13 R409; reset 0. -/
  en : Bool := false
  /-- FROZEN; 13 R409; reset 0. -/
  frozen : Bool := false
  /-- STALE; 13 R409; reset 0. -/
  stale : Bool := false
  /-- FREEZE_ACTION; 13 R409; reset 0. -/
  freezeAction : Bool := false
  /-- FREEZE_FRAMES, 8 bits; 13 R409; reset 4. -/
  freezeFrames : Nat := 4
  /-- SAME_OUT, 8 bits; 13 R409; reset 0. -/
  sameOut : Nat := 0
  /-- SAME_CAM, 8 bits; 13 R409; reset 0. -/
  sameCam : Nat := 0
  /-- ALIVE, 32 bits; 13 R409; reset 0. -/
  alive : Nat := 0
  /-- SERIES, 16 bits; 13 R409; reset 0. -/
  series : Nat := 0
  /-- SIG_QUEUE, 8 bits; 13 R409; reset 0. -/
  sigQueue : Nat := 0
  /-- SIG_DROPPED, 32 bits; 13 R409; reset 0. -/
  dropped : Nat := 0
  /-- LAST_SIG, 64 bits; 13 R409; reset 0. -/
  lastSig : Nat := 0
  /-- LOG_ADDR, 64 bits; 13 R409; reset 0. -/
  logAddr : Nat := 0
  /-- LOG_ENTRIES, 32 bits; 13 R409; reset 0. -/
  logEntries : Nat := 0
  /-- LOG_NEXT, 32 bits; 13 R409; reset 0. -/
  logNext : Nat := 0
  /-- LAST_PC, 32 bits, none as no value yet (reads 0); 13 R409; reset 0. -/
  lastPc : Option Nat := none
  /-- IDENTICAL, 32 bits; 13 R409; reset 0. -/
  identical : Nat := 0
  /-- FROZEN_EVENTS, 32 bits; 13 R409; reset 0. -/
  frozenEvents : Nat := 0
  /-- STALE_EVENTS, 32 bits; 13 R409; reset 0. -/
  staleEvents : Nat := 0
  /-- The next record starts a series; 13 R404; reset true (transition out of OFF). -/
  epochDue : Bool := true
  /-- Previous record of the series; 13 R406; reset none. -/
  prev : Option FrameRecord := none
  /-- Frame records handed over and not yet signed; 13 R403; reset empty. -/
  inbox : List FrameRecord := []
  /-- FRAME_SIGN_SET barges that wait; 13 R414; reset empty. -/
  sets : List SignPending := []
  /-- The last signature record, 64 bytes; 13 R403; reset empty. -/
  lastRecord : List Byte := []
  deriving DecidableEq, Repr, Inhabited

/-! ## Event concentrators (file 14) -/

/-- An event record before it is written: code, source, time and DATA (Table 14-2). -/
structure EvRec where
  /-- EV_CODE; 14 R417. -/
  code : Nat := 0
  /-- SOURCE; 14 R417. -/
  source : Nat := 0
  /-- TIME; 14 R417. -/
  time : Nat := 0
  /-- DATA, 20 bytes; 14 R417. -/
  data : List Byte := []
  /-- COMPLETE_DUE; 14 R417. -/
  due : Bool := false
  deriving DecidableEq, Repr, Inhabited

/-- One source of a concentrator (Table 14-11). -/
structure Source where
  /-- ENABLED; 14 R419; reset 0. -/
  enabled : Bool := false
  /-- MASKED; 14 R419; reset 0. -/
  masked : Bool := false
  /-- MODE is CLAIMED; 14 R419; reset LEVEL_KIND. -/
  claimed : Bool := false
  /-- LEVEL_NOW; 14 R439; reset 0. -/
  level : Bool := false
  /-- Module time at which the level last rose; 14 R418; reset 0. -/
  levelTime : Nat := 0
  /-- PENDING; 14 R419; reset 0. -/
  pending : Bool := false
  /-- ACTIVE; 14 R419; reset 0. -/
  active : Bool := false
  /-- The level was high at the claim; 14 R422; reset 0. -/
  claimHigh : Bool := false
  /-- PRIORITY, 4 bits; 14 R419; reset 0. -/
  priority : Nat := 0
  /-- RING, 8 bits; 14 R439; reset 0xFF (none). -/
  ring : Nat := 0xFF
  /-- Source FIFO, at most 4 records, oldest first; 14 R419; reset empty. -/
  fifo : List EvRec := []
  /-- Records passed under R421 and waiting to move into the ring's queue, oldest first; 14 R428; reset empty. -/
  passed : List EvRec := []
  /-- IDLE_CLAIMS, 32 bits; 14 R422; reset 0. -/
  idleClaims : Nat := 0
  /-- RECORDS_LOST, 32 bits; 14 R430; reset 0. -/
  lost : Nat := 0
  /-- Events lost since the last EV_RECORDS_LOST; 14 R430; reset 0. -/
  lostTold : Nat := 0
  deriving DecidableEq, Repr, Inhabited

/-- One control pair at the internal concentrator (Table 14-6). -/
structure PairRegs where
  /-- Sources claimed and not completed: source and priority, latest first; 14 R425; reset none (RUNNING 0x1F). -/
  claims : List (Nat × Nat) := []
  /-- Value of the last read of CLAIM; 14 R425; reset 0x100. -/
  lastClaim : Nat := 0x100
  deriving DecidableEq, Repr, Inhabited

/-- One event ring (Table 14-10). -/
structure EvRing where
  /-- BASE, 64 bits; 14 R439; reset 0. -/
  base : Nat := 0
  /-- QUEUE, 8 bits; 14 R439; reset 0. -/
  queue : Nat := 0
  /-- ENTRY_LOG2, 4 bits; 14 R439; reset 0. -/
  entryLog2 : Nat := 0
  /-- SIZE_LOG2, 5 bits; 14 R439; reset 0. -/
  sizeLog2 : Nat := 0
  /-- VECTOR, 6 bits; 14 R439; reset 0. -/
  vector : Nat := 0
  /-- STATE: 0 ABSENT, 1 ACTIVE, 2 ERROR; 14 R439; reset 0. -/
  state : Nat := 0
  /-- Error code recorded; 14 R433; reset 0. -/
  err : Nat := 0
  /-- HEAD, 16 bits; 14 R439; reset 0. -/
  head : Nat := 0
  /-- TAIL, 16 bits; 14 R439; reset 0. -/
  tail : Nat := 0
  /-- PHASE of the next entry; 14 R427; reset 1. -/
  phase : Bool := true
  /-- WRITTEN, 32 bits; 14 R439; reset 0. -/
  written : Nat := 0
  /-- Waiting entries counted as held notifications, to be marked HELD; 14 R436, R437; reset 0. -/
  heldLeft : Nat := 0
  deriving DecidableEq, Repr, Inhabited

/-- One interrupt vector (Table 14-9). -/
structure Vector_ where
  /-- DELAY_US, 16 bits; 14 R439; reset 0. -/
  delayUs : Nat := 0
  /-- COUNT_MAX, 8 bits; 14 R439; reset 0. -/
  countMax : Nat := 0
  /-- WAKE; 14 R439; reset 0. -/
  wake : Bool := false
  /-- HELD; 14 R436; reset 0. -/
  held : Bool := false
  /-- Held notifications; 14 R436; reset 0. -/
  heldNotes : Nat := 0
  /-- Module time at which the hold-off timer expires, none when idle; 14 R434; reset idle. -/
  timer : Option Nat := none
  /-- PENDING (moderated-pending); 14 R434; reset 0. -/
  pending : Bool := false
  /-- Notifications since the last message (count); 14 R434; reset 0. -/
  count : Nat := 0
  /-- MSI_SENT, 32 bits; 14 R439; reset 0. -/
  msiSent : Nat := 0
  /-- NOTIFIED, 32 bits; 14 R439; reset 0. -/
  notified : Nat := 0
  deriving DecidableEq, Repr, Inhabited

/-- Snapshot counters of the concentrator block (R439). -/
structure EcSnap where
  /-- BAD_COMPLETES; 14 R439; reset 0. -/
  badCompletes : Nat := 0
  /-- LOST_TOTAL; 14 R439; reset 0. -/
  lostTotal : Nat := 0
  /-- PME_SENT; 14 R439; reset 0. -/
  pmeSent : Nat := 0
  /-- MSI_SENT of each vector; 14 R439; reset 0. -/
  msiSent : List Nat := List.replicate 64 0
  /-- NOTIFIED of each vector; 14 R439; reset 0. -/
  notified : List Nat := List.replicate 64 0
  /-- WRITTEN of each ring; 14 R439; reset 0. -/
  written : List Nat := List.replicate 32 0
  /-- IDLE_CLAIMS of each source; 14 R439; reset 0. -/
  idleClaims : List Nat := List.replicate 256 0
  /-- RECORDS_LOST of each source; 14 R439; reset 0. -/
  lost : List Nat := List.replicate 256 0
  deriving DecidableEq, Repr, Inhabited

/-- The two concentrators, the event rings and the vectors. -/
structure Events where
  /-- Host sources 0 to 255; 14 R416; reset disabled, MODE by kind. -/
  host : List Source := []
  /-- Internal sources 0 to 255; 14 R424; reset disabled, CLAIMED; firmware enables them at BOOT (DESIGN CHOICE, log 10). -/
  internal : List Source := []
  /-- Control pairs A and B; 14 R425; reset no claim. -/
  pairs : List PairRegs := [{}, {}]
  /-- Pair signalled at the last tie; 14 R425; reset B, so that A is first (DESIGN CHOICE, log 10). -/
  tiePair : Nat := 1
  /-- Event rings E0 to E31 (E15 never created); 14 R427; reset ABSENT. -/
  rings : List EvRing := List.replicate 32 {}
  /-- Vectors 0 to 63; 14 R434; reset idle. -/
  vectors : List Vector_ := List.replicate 64 {}
  /-- BAD_COMPLETES, 32 bits; 14 R422; reset 0. -/
  badCompletes : Nat := 0
  /-- PME_SENT, 32 bits; 14 R436; reset 0. -/
  pmeSent : Nat := 0
  /-- WAKE_OUT; 14 R436; reset 0. -/
  wakeOut : Bool := false
  /-- Captured counters; 14 R439; reset 0. -/
  snap : EcSnap := {}
  /-- EC_SNAP_TIME, 64 bits; 14 R439; reset 0. -/
  snapTime : Nat := 0
  deriving DecidableEq, Repr, Inhabited

/-! ## Recording and the content store (file 15) -/

/-- A recording stream (R445). -/
structure RecStream where
  /-- The stream exists; 15 R467; reset false. -/
  live : Bool := false
  /-- KIND: 0 camera, 1 write-back; 15 R467. -/
  kind : Nat := 0
  /-- SOURCE; 15 R467. -/
  source : Nat := 0
  /-- BR, b/s; 15 R467. -/
  br : Nat := 0
  /-- BR_SUST, b/s; 15 R467. -/
  brSust : Nat := 0
  /-- Encoder; 10 R317. -/
  encoder : Nat := 0
  /-- Encoder from the next segment boundary; 10 R317. -/
  encoderNext : Nat := 0
  /-- Module time at which the burst ends, none if not bursting; 15 R469. -/
  burstEnd : Option Nat := none
  /-- The burst has stepped down (CREDIT reached 0); 15 R459. -/
  stepped : Bool := false
  /-- FRAMES; 15 R470. -/
  frames : Nat := 0
  /-- GAPS; 15 R470. -/
  gaps : Nat := 0
  /-- Frames complete and not encoded, oldest first: frame number, module time, slot; 15 R447. -/
  backlog : List (Nat × Nat × Nat) := []
  /-- Run of frames lost and not yet written as a GAP entry: cause, first frame, frames; 15 R447. -/
  gap : Option (Nat × Nat × Nat) := none
  /-- REC_STREAM_ADD that waits for the first source frame; 15 R467. -/
  add : Option Barge := none
  deriving DecidableEq, Repr, Inhabited

/-- An entry of a segment: its 64-byte header and padded payload (Table 15-4). -/
structure SegEntry where
  /-- KIND; 15 R452. -/
  kind : Nat := 0
  /-- Bytes: header and payload; 15 R452. -/
  bytes : List Byte := []
  /-- TIME; 15 R452. -/
  time : Nat := 0
  /-- STREAM; 15 R452. -/
  stream : Nat := 0
  /-- Frames missing, for a GAP; 15 R452. -/
  missing : Nat := 0
  deriving DecidableEq, Repr, Inhabited

/-- A segment in the segment buffer (R451). -/
structure Segment where
  /-- Entries in order; 15 R451. -/
  entries : List SegEntry := []
  /-- STREAMS part of its header (512 bytes); 15 R452. -/
  streams : List Byte := []
  /-- Module time of the first entry; 15 R451. -/
  openTime : Nat := 0
  /-- Closed; 15 R451. -/
  closed : Bool := false
  deriving DecidableEq, Repr, Inhabited

/-- A segment on the drive that has not been overwritten. -/
structure DriveSeg where
  /-- SEGMENT_INDEX; 15 R452. -/
  index : Nat := 0
  /-- First MiB in the namespace; 15 R452. -/
  firstMib : Nat := 0
  /-- LENGTH in bytes; 15 R452. -/
  length : Nat := 0
  /-- T_START; 15 R452. -/
  tStart : Nat := 0
  /-- T_END; 15 R452. -/
  tEnd : Nat := 0
  /-- SHA-256 of its header as written; 15 R454. -/
  hdrHash : List Byte := []
  deriving DecidableEq, Repr, Inhabited

/-- A manifest being made (R454). -/
structure Manifest where
  /-- Segments listed; 15 R454. -/
  segs : List DriveSeg := []
  /-- Any listed segment holds a GAP entry; 15 R454. -/
  gaps : Bool := false
  /-- T_OPEN; 15 R454. -/
  tOpen : Nat := 0
  /-- T_CLOSE; 15 R454. -/
  tClose : Nat := 0
  /-- Bytes 0 to S − 1, then with signatures when signed; 15 R454. -/
  bytes : List Byte := []
  /-- Signed; 15 R454. -/
  signed : Bool := false
  /-- A covering Flush has completed; 15 R454. -/
  flushed : Bool := false
  deriving DecidableEq, Repr, Inhabited

/-- What an NVMe command in flight is for. -/
inductive NvmeFor where
  | segment | flush | manifest | superblock | bootSlot | storeData (b : Barge) | storeIndex (b : Barge)
  | storeRead (b : Barge) | programmeRead (b : Barge) | format (b : Barge) | unprotect (b : Barge)
  deriving DecidableEq, Repr, Inhabited

/-- An NVMe command in flight (R448). -/
structure NvmeCmd where
  /-- Command identifier; 15 R448. -/
  id : Nat := 0
  /-- Purpose; 15 R448. -/
  why : NvmeFor := .flush
  /-- NVMe opcode; 15 R448. -/
  opcode : Nat := 0
  /-- Byte address in the namespace; 15 R448. -/
  addr : Nat := 0
  /-- Bytes to write; 15 R448. -/
  data : List Byte := []
  /-- Bytes that it moves; 15 R448. -/
  length : Nat := 0
  /-- FUA; 15 R448. -/
  fua : Bool := false
  /-- Module time at which it was issued; 15 R448. -/
  time : Nat := 0
  /-- It has been aborted and retried once; 15 R448. -/
  retried : Bool := false
  deriving DecidableEq, Repr, Inhabited

/-- Superblock fields in force (Table 15-2). -/
structure Super where
  /-- GEN; 15 R450. -/
  gen : Nat := 0
  /-- SERIAL, 10 bytes; 15 R450. -/
  serial : List Byte := []
  /-- BOOTS; 15 R450. -/
  boots : Nat := 0
  /-- NS_MIB; 15 R450. -/
  nsMib : Nat := 0
  /-- CONTENT_MIB; 15 R450. -/
  contentMib : Nat := 0
  /-- WRITE_PTR; 15 R450. -/
  writePtr : Nat := 0
  /-- OLDEST_PTR; 15 R450. -/
  oldestPtr : Nat := 0
  /-- NEXT_SEGMENT; 15 R450. -/
  nextSegment : Nat := 0
  /-- NEXT_MANIFEST; 15 R450. -/
  nextManifest : Nat := 0
  /-- LAST_MANIFEST_HASH; 15 R450. -/
  lastHash : List Byte := []
  /-- ENDURANCE_TB; 15 R450. -/
  enduranceTb : Nat := 0
  /-- SERVICE_HOURS; 15 R450. -/
  serviceHours : Nat := 0
  /-- LEDGER_BYTES; 15 R458. -/
  ledgerBytes : Nat := 0
  /-- CREDIT; 15 R459. -/
  credit : Nat := 0
  /-- PROTECT ranges, oldest first; 15 R453. -/
  protect : List (Nat × Nat) := []
  /-- CLEAN; 15 R450. -/
  clean : Bool := false
  deriving DecidableEq, Repr, Inhabited

/-- States of a drive (R449). -/
inductive DriveState where
  | own | unformatted | foreign | unsupported | none
  deriving DecidableEq, Repr, Inhabited

/-- The standing programme installed (R463). -/
structure Programme where
  /-- OBJECT_ID; 15 R473. -/
  objectId : Nat := 0
  /-- Bytes of the object up to the stop table; 15 R463. -/
  bytes : List Byte := []
  /-- Base address of REGION; 15 R473. -/
  region : Nat := 0
  /-- Handles of the assets; 15 R473. -/
  handles : List Nat := []
  deriving DecidableEq, Repr, Inhabited

/-- Recording, the drive and the standing programme. -/
structure Recording where
  /-- Streams 0 to 15; 15 R445; reset none. -/
  streams : List RecStream := List.replicate 16 {}
  /-- Segment buffer, oldest first, the open one last; 15 R451; reset empty. -/
  segments : List Segment := []
  /-- SHA-256 chain value for the next segment; 15 R455; reset empty (no boot record yet). -/
  prevSeg : List Byte := []
  /-- SHA-256 chain value for the next manifest; 15 R455; reset empty. -/
  prevMan : List Byte := []
  /-- The next segment is the first after a boot; 15 R455; reset true. -/
  firstSeg : Bool := true
  /-- The next manifest is the first after a boot; 15 R455; reset true. -/
  firstMan : Bool := true
  /-- Drive that took the last segment, none before the first; 15 R455; reset none. -/
  segDrive : Option Nat := none
  /-- Drive that took the last manifest, none before the first; 15 R455; reset none. -/
  manDrive : Option Nat := none
  /-- Serial number of the drive at the port; 15 R455; reset 0. -/
  driveIdent : Nat := 0
  /-- Size of the namespace of the drive at the port, MiB; 15 R448; reset 0. -/
  driveMib : Nat := 0
  /-- The drive at the port meets R448; 15 R448; reset false. -/
  driveGood : Bool := false
  /-- The boot slot has been written since BOOT; 15 R455; reset false. -/
  bootSlotDone : Bool := false
  /-- Segments written since the last manifest closed, with the gap mark; 15 R454; reset empty. -/
  unlisted : List (DriveSeg × Bool) := []
  /-- T_OPEN of the manifest to come; 15 R454; reset 0. -/
  manOpen : Nat := 0
  /-- Manifests closed and not written, oldest first; 15 R454; reset empty. -/
  manifests : List Manifest := []
  /-- State of the drive; 15 R449; reset none. -/
  drive : DriveState := .none
  /-- A drive is present at the port; 15 R449; reset false. -/
  present : Bool := false
  /-- The rate test is running; 15 R449; reset false. -/
  testing : Bool := false
  /-- Closed by PREPARE_REMOVE, or treated as removed (R448): not attached again before it is inserted or the next BOOT; 15 R460; reset false. -/
  prepared : Bool := false
  /-- Contents of the drive's namespace, (byte address, byte) pairs, unlisted reads as 0; 15 R448; reset empty. -/
  disk : List Host.Cell := []
  /-- Superblock in force; 15 R450; reset none. -/
  super : Super := {}
  /-- Module time of the last superblock update; 15 R450; reset 0. -/
  superTime : Nat := 0
  /-- Segments on the drive, oldest first; 15 R452; reset empty. -/
  onDrive : List DriveSeg := []
  /-- SMART data units written, bytes; 15 R458; reset 0. -/
  smartBytes : Nat := 0
  /-- SMART Percentage Used; 15 R458; reset 0. -/
  percentUsed : Nat := 0
  /-- Ledger and SMART bytes at the last comparison; 15 R458; reset 0. -/
  compared : Nat × Nat := (0, 0)
  /-- Bytes written in the last second; 15 R459; reset 0. -/
  lastSecond : Nat := 0
  /-- NVMe commands in flight, oldest first; 15 R448; reset empty. -/
  cmds : List NvmeCmd := []
  /-- Next command identifier; 15 R448; reset 0. -/
  nextCmd : Nat := 0
  /-- PREPARE_REMOVE barge that waits; 15 R460; reset none. -/
  removing : Option Barge := none
  /-- Bursts that protect and have not ended: first segment protected, module time of the end, and stream mask; 15 R469; reset empty. -/
  bursts : List (Nat × Nat × Nat) := []
  /-- Installed programme; 15 R463; reset none. -/
  programme : Option Programme := none
  /-- Scene shown on each programme pipe in QUIET; 15 R465; reset none. -/
  sceneShown : List (Nat × Nat) := []
  /-- Active state of the named slots and visibility of the others at QUIET entry; 15 R465; reset none. -/
  saved : List (Nat × LayerCfg) := []
  /-- Module time of QUIET entry or exit, for the first lock 100 µs later; 15 R465; reset none. -/
  sceneFrom : Option Nat := none
  /-- Module time of the last change of the current scene; 15 R465; reset 0. -/
  sceneTime : Nat := 0
  /-- Stop number of the last stop frame; 15 R464; reset 0. -/
  stop : Nat := 0
  /-- Doors open in the last stop frame; 15 R464; reset false. -/
  doors : Bool := false
  /-- Stop data is valid; 15 R464; reset false. -/
  stopValid : Bool := false
  /-- Module time of the last stop frame; 15 R464; reset 0. -/
  stopTime : Nat := 0
  deriving DecidableEq, Repr, Inhabited

/-! ## Power, heat and the scheduler (file 16) -/

/-- One span of sprint (R488). -/
structure SprintSpan where
  /-- Module time, ms; 16 R488. -/
  from_ : Nat := 0
  /-- Module time, ms, end excluded; 16 R488. -/
  upto : Nat := 0
  deriving DecidableEq, Repr, Inhabited

/-- The power manager. -/
structure Power where
  /-- VIN_MV, 16 bits; 16 R496; reset 0 (no supply yet). -/
  vin : Nat := 0
  /-- IIN_MA, 16 bits; 16 R496; reset 0. -/
  iin : Nat := 0
  /-- P_IN_MW, 32 bits; 16 R496; reset 0. -/
  pIn : Nat := 0
  /-- T_b, 1/16 °C; 16 R483; reset T_d = 125 °C. -/
  tb : Int := 2000
  /-- T_j, 1/16 °C; 16 R483; reset 0 (DESIGN CHOICE, log 11). -/
  tj : Int := 0
  /-- Valid baseplate samples in a row; 16 R484; reset 0. -/
  valid : Nat := 0
  /-- The baseplate sensor is faulty; 16 R483; reset false. -/
  baseFault : Bool := false
  /-- Faulty junction sensors, 18; 16 R483; reset none. -/
  sensorFault : List Bool := List.replicate 18 false
  /-- HOLD has cause ELECTRICAL because VIN is low; 16 R478; reset false. -/
  holdLow : Bool := false
  /-- HOLD has cause ELECTRICAL because VIN is high; 16 R477; reset false. -/
  holdHigh : Bool := false
  /-- HOLD has cause THERMAL; 16 R485; reset false. -/
  holdThermal : Bool := false
  /-- Module times since which T_b has exceeded T_d + 3, and 125 °C; 16 R485; reset none. -/
  overTd : Option Nat := none
  /-- Module time since which T_b has exceeded 125 °C; 16 R485; reset none. -/
  over125 : Option Nat := none
  /-- Module time since which all three end conditions have held; 16 R485; reset none. -/
  coolSince : Option Nat := none
  /-- EV_THERMAL ABOVE_TD has been raised for this excursion; 16 R495; reset false. -/
  aboveTold : Bool := false
  /-- STORE_MJ, 16 bits; 16 R496; reset 0. -/
  storeMj : Nat := 0
  /-- STORE_CHARGED; 16 R496; reset 0. -/
  storeCharged : Bool := false
  /-- The 3 A inrush phase of the store after VIN valid; 19 R580; reset false. -/
  inrush : Bool := false
  /-- Lowest VIN of the low excursion in progress, mV; 16 R495; reset 0. -/
  lowest : Nat := 0
  /-- Highest VIN of the high excursion in progress, mV; 16 R495; reset 0. -/
  highest : Nat := 0
  /-- Module time at which the high excursion started; 16 R495; reset 0. -/
  highSince : Nat := 0
  /-- SPRINTING; 16 R496; reset 0. -/
  sprinting : Bool := false
  /-- Module time at which the sprint began; 16 R487; reset 0. -/
  sprintStart : Nat := 0
  /-- Spans of sprint in the last 600 s, newest first; 16 R488; reset empty. -/
  spans : List SprintSpan := []
  /-- SPRINT_END_CAUSE; 16 R496; reset 0. -/
  endCause : Nat := 0
  /-- PERMIT, 4 bits; 16 R498; reset 0x0F. -/
  permit : Nat := 0x0F
  /-- MAX_BAND; 16 R498; reset 2. -/
  maxBand : Nat := 2
  /-- Sprint is forbidden until the next transition out of OFF (second phase of one rail); 18 R553; reset false. -/
  sprintBarred : Bool := false
  /-- SPRINTS, 32 bits; 16 R496; reset 0. -/
  sprints : Nat := 0
  /-- SPRINT_DENIALS, 32 bits; 16 R496; reset 0. -/
  denials : Nat := 0
  /-- RIDE_THROUGHS, 32 bits; 16 R496; reset 0. -/
  rideThroughs : Nat := 0
  /-- HOLD_ENTRIES, 32 bits; 16 R496; reset 0. -/
  holdEntries : Nat := 0
  /-- Weights of classes 0 to 3; 16 R499; reset 32, 128, 192, 16. -/
  weights : List Nat := [32, 128, 192, 16]
  /-- Credits of classes 0 to 3; 16 R491; reset 0. -/
  credits : List Nat := [0, 0, 0, 0]
  /-- Classes run at the last tick, bit c; 16 R491; reset 0. -/
  running : Nat := 0
  /-- HELD: classes held at the last tick, bit c; 16 R496; reset 0. -/
  held : Nat := 0
  /-- Module time since which a permitted use has had waiting work, none if it has not; 16 R487; reset none. -/
  waitSince : Option Nat := none
  /-- The sprint has ended since the last scheduler tick; 16 R491; reset false. -/
  justEnded : Bool := false
  /-- EG0 to EG7, 64 bits each, µJ; 16 R493; reset 0. -/
  energy : List Nat := List.replicate 8 0
  /-- Domains that are OFF because nothing has used them for their idle time, among PD57, PD58, PD70 and PD73; 16 R480; reset PD57 and PD58. -/
  idleOff : List Nat := [57, 58]
  /-- Module time since which VIN has been 6.3 V or more, none if it is not; 16 R487; reset none. -/
  vinSince : Option Nat := none
  /-- Module time at which the scrub pass started, none if none runs; 18 R541; reset none. -/
  scrubStart : Option Nat := none
  /-- Scheduler ticks for which the scrub pass has run: how far it has read; 18 R541; reset 0. -/
  scrubTicks : Nat := 0
  /-- Phases out of service, rail × 8 + phase; 18 R550; reset none. -/
  phases : List Nat := []
  deriving DecidableEq, Repr, Inhabited

/-! ## Modes, boot, trust and CAN (file 17) -/

/-- The base mode, or the mode in which no base mode holds (Table 17-1). -/
inductive BaseMode where
  | off | keepalive | boot | service | quiet | depot
  deriving DecidableEq, Repr, Inhabited

/-- Modes, heartbeat, boot and the vehicle state. -/
structure ModeCtl where
  /-- Base mode; 17 R501; reset OFF as State.reset stands before VIN (BAR0 then reads MODE 2, its reset value). -/
  base : BaseMode := .off
  /-- The control plane is in CONTAIN; 17 R501; reset false. -/
  contain : Bool := false
  /-- MODE as last shown, 4 bits; 02 R56; reset 2. -/
  shown : Nat := 2
  /-- PREV_MODE, 4 bits; 02 R56; reset 2. -/
  prev : Nat := 2
  /-- READY; 02 R56; reset 0. -/
  ready : Bool := false
  /-- CONTAIN_EPOCH, 32 bits; 02 R56; reset 0. -/
  epoch : Nat := 0
  /-- HB_TIMEOUT_MS, 32 bits; 17 R530; reset 2,000 (the image's default, R509). -/
  hbTimeout : Nat := 2000
  /-- Module time of the last restart of the heartbeat timer; 17 R512; reset 0. -/
  hbStart : Nat := 0
  /-- The heartbeat timer runs (from READY); 17 R507; reset false. -/
  hbRuns : Bool := false
  /-- T_MODE; 17 R532; reset 0. -/
  tMode : Nat := 0
  /-- QUIET_ENTRIES, 32 bits; 17 R532; reset 0. -/
  quietEntries : Nat := 0
  /-- DEPOT_ENTRIES, 32 bits; 17 R532; reset 0. -/
  depotEntries : Nat := 0
  /-- Open depot challenge and its EXPIRES; 17 R531; reset none. -/
  challenge : Option (List Byte × Nat) := none
  /-- BOOT_RETRIES, 8 bits; 17 R506; reset 0. -/
  bootRetries : Nat := 0
  /-- RECOVERY boot; 17 R506; reset false. -/
  recovery : Bool := false
  /-- WAKE_CAUSE; 17 R508; reset 0. -/
  wakeCause : Nat := 0
  /-- BOOT_FLAGS, 16 bits; 17 R508; reset 0. -/
  bootFlags : Nat := 0
  /-- LIGHT entries have been executed; 17 R504; reset false. -/
  lightDone : Bool := false
  /-- Module time of VIN valid or wake; 17 R529; reset 0. -/
  bootTime : Nat := 0
  /-- LIGHT pipes: those that LIGHT entries have started; 17 R504; reset none. -/
  lightPipes : List Nat := []
  /-- T_FIRST_LIGHT_MS, none before first light (reads 0); 17 R529; reset none. -/
  firstLightMs : Option Nat := none
  /-- T_READY_MS; 17 R529; reset 0. -/
  readyMs : Nat := 0
  /-- CONFIG_FAILS, and the first failure: phase, index, STATUS; 17 R529; reset 0. -/
  configFails : Nat := 0
  /-- First failing entry: phase, index, STATUS, DETAIL; 17 R511; reset none. -/
  firstFail : Option (Nat × Nat × Nat × Nat) := none
  /-- Phases of the image whose first failing entry has raised its event; 17 R511; reset none. -/
  failTold : List Nat := []
  /-- Image entries still to be executed, in order: phase (1 LIGHT, 2 SERVICE), index and body offset; 17 R510; reset none. -/
  imageLeft : List (Nat × Nat × Nat) := []
  /-- Image barge in progress, with its phase and index; 17 R510; reset none. -/
  imageBarge : Option (Barge × Nat × Nat) := none
  /-- KEEPALIVE entry sequence in progress, with the SLEEP barge if one asked for it; 17 R515; reset none. -/
  sleeping : Option (Option Barge) := none
  /-- Step 2 of the sequence has begun: pipes and cameras are stopping; 17 R515; reset false. -/
  stopping : Bool := false
  /-- Wake cause that arrived during the sequence; 17 R503; reset none. -/
  wakePending : Option Nat := none
  /-- Module times of CONTAIN entries within 600 s, newest first; 18 R562; reset empty. -/
  containTimes : List Nat := []
  /-- CAUSE of the CONTAIN in progress or last, CAUSE_DETAIL and pair; 18 R561; reset 0. -/
  containCause : Nat × Nat × Nat := (0, 0, 0)
  deriving DecidableEq, Repr, Inhabited

/-- CAN FD controller and vehicle state (R517). -/
structure Can where
  /-- Module time of the last vehicle-state frame, T_VEHICLE; 17 R532; reset 0. -/
  tVehicle : Nat := 0
  /-- The vehicle state is valid; 17 R517; reset false. -/
  valid : Bool := false
  /-- STATIONARY bit of the last frame; 17 R517; reset 0. -/
  stationary : Bool := false
  /-- IGNITION bit of the last frame; 17 R517; reset 0. -/
  ignition : Bool := false
  /-- Module time since which IGNITION is off and STATIONARY in QUIET; 17 R502; reset none. -/
  sleepFrom : Option Nat := none
  /-- CAN_RX_FRAMES, 32 bits; 17 R532; reset 0. -/
  rxFrames : Nat := 0
  /-- CAN_TEC, 9 bits; 17 R532; reset 0. -/
  tec : Nat := 0
  /-- CAN_REC, 8 bits; 17 R532; reset 0. -/
  rec_ : Nat := 0
  /-- BUS_OFF; 17 R532; reset false. -/
  busOff : Bool := false
  /-- Alive count of the status frame, 8 bits; 17 R517; reset 0. -/
  alive : Nat := 0
  deriving DecidableEq, Repr, Inhabited

/-- STATE of a flash slot (R522). -/
inductive FlashState where
  | empty | loaded | active | reverted
  deriving DecidableEq, Repr, Inhabited

/-- A patch or configuration slot of the boot flash (R522). -/
structure FlashSlot where
  /-- STATE; 17 R522; reset EMPTY (DESIGN CHOICE, log 12). -/
  state : FlashState := .empty
  /-- The object; 17 R522; reset empty. -/
  bytes : List Byte := []
  deriving DecidableEq, Repr, Inhabited

/-- A flash write in progress (R533, R537). -/
structure FlashJob where
  /-- The barge; 17 R533. -/
  barge : Barge := {}
  /-- Configuration slot, else patch slot; 17 R537. -/
  config : Bool := false
  /-- Slot; 17 R533. -/
  slot : Nat := 0
  /-- The object; 17 R522. -/
  bytes : List Byte := []
  deriving DecidableEq, Repr, Inhabited

/-- What the security engine is signing (R454, R527). -/
inductive Signing where
  /-- Boot attestation record, body bytes 0 to 0x33F. -/
  | boot (body : List Byte)
  /-- ATTEST barge. -/
  | attest (b : Barge) (body : List Byte)
  /-- The oldest unsigned manifest. -/
  | manifest
  deriving DecidableEq, Repr, Inhabited

/-- Fuses, boot flash and the security engine. -/
structure Trust where
  /-- SERIAL, 10 bytes; 17 R520; reset 0 (DESIGN CHOICE: fused at manufacture, log 12). -/
  serial : List Byte := List.replicate 10 0
  /-- VENDOR_ROOT_HASH 0 to 3, 32 bytes each; 17 R520; reset 0 (log 12). -/
  vendorHash : List (List Byte) := List.replicate 4 (List.replicate 32 0)
  /-- VENDOR_REVOKED, 4 bits; 17 R520; reset 0. -/
  vendorRevoked : List Bool := List.replicate 4 false
  /-- OWNER_ROOT_HASH 0 to 3, 32 bytes each; 17 R520; reset 0 (not enrolled). -/
  ownerHash : List (List Byte) := List.replicate 4 (List.replicate 32 0)
  /-- OWNER_REVOKED, 4 bits; 17 R520; reset 0. -/
  ownerRevoked : List Bool := List.replicate 4 false
  /-- PATCH_LEVEL_FUSE, 0 to 63; 17 R520; reset 0. -/
  patchFuse : Nat := 0
  /-- CONFIG_LEVEL_FUSE, 0 to 63; 17 R520; reset 0. -/
  configFuse : Nat := 0
  /-- DEVICE_CERT object of the identity area; 17 R522; reset empty (log 12). -/
  deviceCert : List Byte := []
  /-- Patch slots 0 and 1; 17 R522; reset EMPTY. -/
  patches : List FlashSlot := [{}, {}]
  /-- Configuration slots 0 and 1; 17 R522; reset EMPTY. -/
  configs : List FlashSlot := [{}, {}]
  /-- Patch object in patch RAM, none for the ROM; 17 R525; reset none. -/
  patch : Option (List Byte) := none
  /-- Slot of the patch in patch RAM; 17 R525; reset 0. -/
  patchSlot : Nat := 0
  /-- Module time at which the patch was activated live; 17 R526; reset none. -/
  patchTime : Option Nat := none
  /-- Patch in force before the live activation; 17 R526; reset none. -/
  patchBefore : Option (List Byte × Nat) := none
  /-- Configuration object in use; 17 R509; reset none. -/
  config : Option (List Byte) := none
  /-- Flash write in progress; 17 R533; reset none. -/
  flashJob : Option FlashJob := none
  /-- Signing work, first in front; 17 R527; reset empty. -/
  signing : List Signing := []
  /-- Boot attestation record; 17 R507; reset empty. -/
  bootRecord : List Byte := []
  deriving DecidableEq, Repr, Inhabited

/-! ## Faults, self-test, dump and towpath (file 18) -/

/-- A self-test or BIST run in progress. -/
structure TestRun where
  /-- KIND of Table 18-10; 18 R571. -/
  kind : Nat := 0
  /-- INDEX; 18 R571. -/
  index : Nat := 0
  /-- BIST_RUN barge, none for a rolling step or a test at depot exit; 18 R571. -/
  barge : Option Barge := none
  /-- OFFLINE; 18 R571. -/
  offline : Bool := false
  /-- RESTORE; 18 R571. -/
  restore : Bool := false
  /-- It waits for a handover or a drain; 18 R555. -/
  preparing : Bool := false
  /-- Module time of its start; 18 R571. -/
  start : Nat := 0
  deriving DecidableEq, Repr, Inhabited

/-- A spare-lane handover or fault takeover in progress (R234, R235). -/
structure Handover where
  /-- Logical lane; 07 R234. -/
  lane : Nat := 0
  /-- Outgoing physical lane; 07 R234. -/
  out : Nat := 0
  /-- Incoming physical lane; 07 R234. -/
  inc : Nat := 0
  /-- Fault takeover; 07 R235. -/
  takeover : Bool := false
  /-- The incoming lane is loaded; 07 R234. -/
  loaded : Bool := false
  /-- Handover line; 07 R234. -/
  line : Nat := 0
  /-- The incoming lane composes (takeover: from its start); 07 R235. -/
  composing : Bool := false
  /-- A self-test of the relieved lane follows; 18 R555. -/
  test : Bool := false
  deriving DecidableEq, Repr, Inhabited

/-- Lanes: map, spare and health (R30 to R33). -/
structure Lanes where
  /-- LANE_MAP: physical lane of logical lane k; 02 R56; reset 0 to 7 (HW: DESIGN CHOICE, log 13). -/
  map : List Nat := [0, 1, 2, 3, 4, 5, 6, 7]
  /-- SPARE, 4 bits; 02 R56; reset 8 (HW: DESIGN CHOICE, log 13). -/
  spare : Nat := 8
  /-- NO_SPARE; 02 R56; reset 0. -/
  noSpare : Bool := false
  /-- HANDOVERS, 16 bits; 02 R56; reset 0. -/
  handovers : Nat := 0
  /-- Physical lanes out of service, 9; 01 R30; reset none. -/
  bad : List Bool := List.replicate 9 false
  /-- Logical lanes that have stopped composing (R553), 8; 18 R553; reset none. -/
  stopped : List Bool := List.replicate 8 false
  /-- Lane faults detected and not declared: physical lane and detection cause of R548; 18 R548; reset empty. -/
  detected : List (Nat × Nat) := []
  /-- Handover in progress; 07 R234; reset none. -/
  handover : Option Handover := none
  /-- Takeovers that wait for the handover in progress: physical lanes; 01 R32; reset empty. -/
  queue : List Nat := []
  /-- Module time at which each physical lane was last tested, 9; 18 R555; reset 0. -/
  tested : List Nat := List.replicate 9 0
  deriving DecidableEq, Repr, Inhabited

/-- A fatal dump: what its header and its copy of the fault log come from; the bytes of its other sections are free values
(R565, R566). -/
structure Dump where
  /-- CAUSE; 18 R565. -/
  cause : Nat := 0
  /-- DFLAGS without TRUNCATED; 18 R565. -/
  flags : Nat := 0
  /-- DUMP_INDEX; 18 R565. -/
  index : Nat := 0
  /-- CONTAIN_EPOCH; 18 R565. -/
  epoch : Nat := 0
  /-- MODULE_TIME; 18 R565. -/
  time : Nat := 0
  /-- PAIR; 18 R565. -/
  pair : Nat := 0
  /-- MODE; 18 R565. -/
  mode : Nat := 0
  /-- CAUSE_DETAIL; 18 R565. -/
  detail : Nat := 0
  /-- PATCH_LEVEL; 18 R565. -/
  patchLevel : Nat := 0
  /-- PATCH_GEN; 18 R565. -/
  patchGen : Nat := 0
  /-- A patch was in patch RAM; 18 R566. -/
  patched : Bool := false
  /-- SERIAL; 18 R565. -/
  serial : List Byte := []
  /-- Fault log as at entry, newest first; 18 R566. -/
  log : List (List Byte) := []
  /-- INDEX of the record after the newest one; 18 R564. -/
  logNext : Nat := 0
  /-- Number of the free values of its other bytes (the model's own). -/
  free : Nat := 0
  deriving DecidableEq, Repr, Inhabited

/-- Fault tolerance, self-test, dump, FAULT_OUT# and towpath. -/
structure Faults where
  /-- Fault log, 64-byte records newest first, at most 4,096; 18 R564; reset empty. -/
  log : List (List Byte) := []
  /-- INDEX of the next record, 32 bits; 18 R564; reset 0. -/
  nextIndex : Nat := 0
  /-- Uncorrectable codewords whose record has been written, at most 1,024; 18 R564; reset empty. -/
  tracked : List Nat := []
  /-- Module times of uncorrectable codewords of each device within 10 ms, 4 lists newest first; 18 R544; reset empty. -/
  recentBad : List (List Nat) := List.replicate 4 []
  /-- Control pairs A and B out of service; 18 R549; reset none. -/
  pairBad : List Bool := [false, false]
  /-- Module time of each pair's last lockstep mismatch; 18 R561; reset none. -/
  mismatchTime : List (Option Nat) := [none, none]
  /-- Basin banks out of service, 17 physical; 18 R554; reset none. -/
  bankBad : List Bool := List.replicate 17 false
  /-- 2D engines out of service; 18 R558; reset none. -/
  engineBad : List Bool := [false, false]
  /-- Encoders out of service; 18 R558; reset none. -/
  encoderBad : List Bool := [false, false]
  /-- Quarantine record: KIND, INDEX, CAUSE, TIME, oldest first, at most 32; 18 R554; reset empty. -/
  quarantine : List (Nat × Nat × Nat × Nat) := []
  /-- Objects taken out by FAULT_INJECT: kind of Table 18-10 and index; 18 R575; reset empty. -/
  injected : List (Nat × Nat) := []
  /-- Links whose active read path corrupts the probe: link and frames left; 18 R575; reset empty. -/
  probeBad : List (Nat × Nat) := []
  /-- Step periods in seconds: LANE, BASIN, POUND, PAIR, IDLE; 18 R572; reset 20, 10, 60, 600, 60. -/
  periods : List Nat := [20, 10, 60, 600, 60]
  /-- Module time of the last step of each kind; 18 R555; reset 0. -/
  lastStep : List Nat := [0, 0, 0, 0, 0]
  /-- Next target of each kind; 18 R555; reset 0. -/
  nextTarget : List Nat := [0, 0, 0, 0, 0]
  /-- The first LANE step since OFF has been made; 18 R555; reset false. -/
  firstLane : Bool := false
  /-- Tests in progress; 18 R555; reset empty. -/
  tests : List TestRun := []
  /-- FO_MASK, 7 bits; 18 R569; reset 0x7E. -/
  foMask : Nat := 0x7E
  /-- Conditions of Table 18-7 in force, 7 bits; 18 R569; reset 0. -/
  conditions : Nat := 0
  /-- Module time of the last line held over on a CRITICAL pipe; 18 R569; reset 0. -/
  holdOverTime : Nat := 0
  /-- FAULT_OUT# is asserted; 18 R569; reset released. -/
  faultOut : Bool := false
  /-- Device dump slots 0 and 1; 18 R563; reset none. -/
  dumps : List (Option Dump) := [none, none]
  /-- Dumps written since manufacture; 18 R565; reset 0 (log 12). -/
  dumpIndex : Nat := 0
  /-- Flash copy of the last dump; 18 R567; reset none. -/
  flashDump : Option Dump := none
  /-- Slot whose flash copy runs; 18 R567; reset none. -/
  copying : Option Nat := none
  /-- TP_CTS# is low: the module may send; 19 R582; reset false: the pull-up of R581 (DEDUCED, log 13). -/
  ctsOk : Bool := false
  /-- Towpath replies that wait for TP_CTS#, oldest first; 19 R582; reset empty. -/
  tpQueue : List (List Byte) := []
  deriving DecidableEq, Repr, Inhabited

/-! ## The whole machine -/

/-- The machine. -/
structure State where
  /-- Commands waiting, first in front (the model's own); reset empty. -/
  pending : List Instr := []
  /-- MODULE_TIME, 64 bits, ns; 02 R56; reset 0. -/
  time : Nat := 0
  /-- Number of free values taken (the model's own); reset 0 (DESIGN CHOICE, log 2). -/
  free : Nat := 0
  /-- What the module has sent, newest first (the model's own); reset empty. -/
  out : List Output := []
  /-- Host memory as the module sees it, (address, byte) pairs, unlisted reads as 0 (the host's; DESIGN CHOICE, log 3); 02 R72; reset empty. -/
  hostMem : List Host.Cell := []
  /-- Direction of A-PHY ports, APHY_DIR, 8 bits (strap); 02 R55; reset 0xF0: A4 to A7 camera-facing (HW: DESIGN CHOICE, log 13). -/
  aphyDir : Nat := 0xF0
  /-- Mode control; 17 R500. -/
  mode : ModeCtl := {}
  /-- Host link; 02 R48. -/
  host : HostLink := {}
  /-- Device memory; 03 R94. -/
  mem : DevMem := {}
  /-- Surface table, by rising index; 03 R110; reset empty. -/
  surfaces : List Surface := []
  /-- SURFACE_SEAL barges in progress; 03 R125; reset empty. -/
  seals : List SealJob := []
  /-- Host DMA transfers in progress; 03 R124; reset empty. -/
  dmas : List DmaJob := []
  /-- The 64 layer slots; 04 R127; reset UNASSIGNED. -/
  layers : List Layer := List.replicate 64 {}
  /-- The 64 pods; 04 R141; reset absent. -/
  pods : List Pod := List.replicate 64 {}
  /-- The 8 pipes; 08 R241; reset UNCONFIGURED. -/
  pipes : List Pipe := List.replicate 8 {}
  /-- Lanes; 01 R30. -/
  lanes : Lanes := {}
  /-- Basin; 07 R214. -/
  basin : Basin := {}
  /-- The 12 output links; 08 R265; reset DOWN. -/
  links : List Link := List.replicate 12 {}
  /-- The 10 camera inputs; 09 R277; reset UNDECLARED. -/
  cams : List Camera := List.replicate 10 {}
  /-- Latency contracts, at most 16; 09 R300; reset none. -/
  contracts : List Contract := []
  /-- The lock-keeper; 10 R304. -/
  ledger : Ledger := {}
  /-- The 2D engines B0 and B1; 11 R326. -/
  engines : List Engine := [{}, {}]
  /-- The pound; 12 R358. -/
  pound : Pound := {}
  /-- Check-value channels C0 to C15; 13 R387; reset as Table 13-1. -/
  cv : List Channel := List.replicate 12 ({} : Channel) ++ List.replicate 4
    { privileged := true, width := 64, poly := 0x42F0E1EBA9EA3693, init := 0xFFFFFFFFFFFFFFFF, running := 0xFFFFFFFFFFFFFFFF }
  /-- Signing blocks of the 12 links; 13 R409. -/
  sign : List SignBlock := List.replicate 12 {}
  /-- Event concentrators; 14 R416. -/
  events : Events := {}
  /-- Recording; 15 R445. -/
  recording : Recording := {}
  /-- Power manager; 16 R475. -/
  power : Power := {}
  /-- CAN; 17 R517. -/
  can : Can := {}
  /-- Trust; 17 R520. -/
  trust : Trust := {}
  /-- Faults; 18 R547. -/
  faults : Faults := {}
  deriving DecidableEq, Repr, Inhabited

/-- Host sources that carry a level (Tables 14-1, 15-8, 16-10, 17-12 and 18-9). -/
def State.levelSources : List Nat :=
  [28, 29, 30, 31, 32, 33, 34, 35, 36, 37, 38, 39, 50, 51, 52, 53, 54, 55, 56, 57, 58, 59] ++
  [72, 73, 74, 75, 76, 77, 78, 79, 80, 81, 82, 83, 108, 110, 114, 131, 133, 147, 165, 166]

/-- The machine right after reset: every field at the value its docstring gives; the concentrators' sources disabled,
with MODE CLAIMED for level sources (R419) and for the internal concentrator, whose claim is a read (R424). -/
def State.reset : State :=
  { events :=
      { host := (List.range 256).map fun n => { claimed := State.levelSources.contains n }
        internal := List.replicate 256 { claimed := true } } }

end Sys2Proof.Machine
end

