-- ==== Sys2Proof/Machine/Ops.lean ====
section
/-! DEFINITION. Named operations over the state: access to its parts, host memory, message-signalled interrupts, event
sources, fences and the completion of a barge. -/
namespace Sys2Proof.Machine

open Sys2Proof

/-! ### Parts of the state -/

/-- Element `i` of a list, or the type's reset value beyond its end. -/
def at_ {α : Type} [Inhabited α] (l : List α) (i : Nat) : α := l.getD i default

/-- The state with the host link changed. -/
def State.mapHost (s : State) (f : HostLink → HostLink) : State := { s with host := f s.host }
/-- Ring `n`. -/
def State.ring (s : State) (n : Nat) : Ring := at_ s.host.rings n
/-- The state with ring `n` changed. -/
def State.mapRing (s : State) (n : Nat) (f : Ring → Ring) : State :=
  s.mapHost fun h => { h with rings := h.rings.modify n f }
/-- The state with the live counters changed. -/
def State.mapCtr (s : State) (f : Counters → Counters) : State := s.mapHost fun h => { h with ctr := f h.ctr }
/-- The state with the counters of one pipe changed. -/
def State.mapPipeCtr (s : State) (p : Nat) (f : PipeCounters → PipeCounters) : State :=
  s.mapCtr fun c => { c with pipe := c.pipe.modify p f }
/-- The state with the counters of one camera input changed. -/
def State.mapCamCtr (s : State) (i : Nat) (f : CamCounters → CamCounters) : State :=
  s.mapCtr fun c => { c with cam := c.cam.modify i f }
/-- Counters of pipe `p`. -/
def State.pipeCtr (s : State) (p : Nat) : PipeCounters := at_ s.host.ctr.pipe p
/-- The state with device memory changed. -/
def State.mapMem (s : State) (f : DevMem → DevMem) : State := { s with mem := f s.mem }
/-- Layer slot `n`. -/
def State.layer (s : State) (n : Nat) : Layer := at_ s.layers n
/-- The state with layer slot `n` changed. -/
def State.mapLayer (s : State) (n : Nat) (f : Layer → Layer) : State := { s with layers := s.layers.modify n f }
/-- Pod `n`. -/
def State.pod (s : State) (n : Nat) : Pod := at_ s.pods n
/-- The state with pod `n` changed. -/
def State.mapPod (s : State) (n : Nat) (f : Pod → Pod) : State := { s with pods := s.pods.modify n f }
/-- Pipe `p`. -/
def State.pipe (s : State) (p : Nat) : Pipe := at_ s.pipes p
/-- The state with pipe `p` changed. -/
def State.mapPipe (s : State) (p : Nat) (f : Pipe → Pipe) : State := { s with pipes := s.pipes.modify p f }
/-- Half `h` of pipe `p`. -/
def State.half (s : State) (p h : Nat) : Half := at_ (s.pipe p).halves h
/-- The state with half `h` of pipe `p` changed. -/
def State.mapHalf (s : State) (p h : Nat) (f : Half → Half) : State :=
  s.mapPipe p fun x => { x with halves := x.halves.modify h f }
/-- Link `l`. -/
def State.link (s : State) (l : Nat) : Link := at_ s.links l
/-- The state with link `l` changed. -/
def State.mapLink (s : State) (l : Nat) (f : Link → Link) : State := { s with links := s.links.modify l f }
/-- Camera input `i`. -/
def State.cam (s : State) (i : Nat) : Camera := at_ s.cams i
/-- The state with camera input `i` changed. -/
def State.mapCam (s : State) (i : Nat) (f : Camera → Camera) : State := { s with cams := s.cams.modify i f }
/-- 2D engine `e`. -/
def State.engine (s : State) (e : Nat) : Engine := at_ s.engines e
/-- The state with 2D engine `e` changed. -/
def State.mapEngine (s : State) (e : Nat) (f : Engine → Engine) : State := { s with engines := s.engines.modify e f }
/-- Check-value channel `c`. -/
def State.chan (s : State) (c : Nat) : Channel := at_ s.cv c
/-- The state with channel `c` changed. -/
def State.mapChan (s : State) (c : Nat) (f : Channel → Channel) : State := { s with cv := s.cv.modify c f }
/-- Signing block of link `l`. -/
def State.signBlock (s : State) (l : Nat) : SignBlock := at_ s.sign l
/-- The state with the signing block of link `l` changed. -/
def State.mapSign (s : State) (l : Nat) (f : SignBlock → SignBlock) : State := { s with sign := s.sign.modify l f }
/-- The state with the concentrators changed. -/
def State.mapEvents (s : State) (f : Events → Events) : State := { s with events := f s.events }
/-- Vector `v`. -/
def State.vector (s : State) (v : Nat) : Vector_ := at_ s.events.vectors v
/-- The state with vector `v` changed. -/
def State.mapVector (s : State) (v : Nat) (f : Vector_ → Vector_) : State :=
  s.mapEvents fun e => { e with vectors := e.vectors.modify v f }
/-- Event ring `k`. -/
def State.evRing (s : State) (k : Nat) : EvRing := at_ s.events.rings k
/-- The state with event ring `k` changed. -/
def State.mapEvRing (s : State) (k : Nat) (f : EvRing → EvRing) : State :=
  s.mapEvents fun e => { e with rings := e.rings.modify k f }
/-- A source of the host (true) or the internal concentrator. -/
def State.source (s : State) (host : Bool) (n : Nat) : Source := at_ (if host then s.events.host else s.events.internal) n
/-- The state with a source changed. -/
def State.mapSource (s : State) (host : Bool) (n : Nat) (f : Source → Source) : State :=
  s.mapEvents fun e => if host then { e with host := e.host.modify n f } else { e with internal := e.internal.modify n f }
/-- Queue `q` of the pound. -/
def State.queue (s : State) (q : Nat) : Queue := at_ s.pound.queues q
/-- The state with the pound changed. -/
def State.mapPound (s : State) (f : Pound → Pound) : State := { s with pound := f s.pound }
/-- The state with queue `q` changed. -/
def State.mapQueue (s : State) (q : Nat) (f : Queue → Queue) : State :=
  s.mapPound fun p => { p with queues := p.queues.modify q f }
/-- The state with recording changed. -/
def State.mapRec (s : State) (f : Recording → Recording) : State := { s with recording := f s.recording }
/-- Recording stream `k`. -/
def State.stream (s : State) (k : Nat) : RecStream := at_ s.recording.streams k
/-- The state with recording stream `k` changed. -/
def State.mapStream (s : State) (k : Nat) (f : RecStream → RecStream) : State :=
  s.mapRec fun r => { r with streams := r.streams.modify k f }
/-- The state with the power manager changed. -/
def State.mapPower (s : State) (f : Power → Power) : State := { s with power := f s.power }
/-- The state with mode control changed. -/
def State.mapMode (s : State) (f : ModeCtl → ModeCtl) : State := { s with mode := f s.mode }
/-- The state with trust changed. -/
def State.mapTrust (s : State) (f : Trust → Trust) : State := { s with trust := f s.trust }
/-- The state with the fault state changed. -/
def State.mapFaults (s : State) (f : Faults → Faults) : State := { s with faults := f s.faults }
/-- The state with the lanes changed. -/
def State.mapLanes (s : State) (f : Lanes → Lanes) : State := { s with lanes := f s.lanes }
/-- The state with the basin changed. -/
def State.mapBasin (s : State) (f : Basin → Basin) : State := { s with basin := f s.basin }
/-- The state with the lock-keeper's part changed. -/
def State.mapLedger (s : State) (f : Ledger → Ledger) : State := { s with ledger := f s.ledger }
/-- The state with one more output sent. -/
def State.send (s : State) (o : Output) : State := { s with out := o :: s.out }
/-- The state with a free value taken: the next one has another number (log 2). -/
def State.takeFree (s : State) : State := { s with free := s.free + 1 }
/-- The state at a module time not before an instant: the instant a timer row stands for (log 4). -/
def State.atTime (s : State) (t : Nat) : State := { s with time := max s.time t }

/-! ### Host memory -/

/-- Bytes of host memory. -/
def State.hostBytes (s : State) (a n : Nat) : List Byte := Memory.readBytes s.hostMem a n
/-- The state with bytes written to host memory. -/
def State.hostWrite (s : State) (a : Nat) (l : List Byte) : State := { s with hostMem := Memory.writeBytes s.hostMem a l }

/-! ### Vectors (R434 to R436) -/

/-- A vector's message is sent or, when masked or not enabled, its PBA bit is set (R435). -/
def sendMsi (v : Nat) (s : State) : State :=
  if s.host.msixEnable && !s.host.msixFnMask && !(s.host.msixMask.getD v true) then
    ((s.send (.msi v (s.host.msixAddr.getD v 0).toNat (s.host.msixData.getD v 0).toNat)).mapHost
      fun h => { h with pba := h.pba.set v false }).mapVector v fun x => { x with msiSent := inc32 x.msiSent }
  else s.mapHost fun h => { h with pba := h.pba.set v true }

/-- A vector's timer starts for DELAY_US, or stays idle with DELAY_US 0 (R434). -/
def startTimer (v : Nat) (s : State) : State :=
  s.mapVector v fun x => { x with timer := if x.delayUs = 0 then none else some (s.time + 1000 * x.delayUs) }

/-- Wake of the host by a vector outside D0 (R436). -/
def wake (s : State) : State :=
  match s.host.dstate with
  | .d3hot =>
    if s.host.pmeEn then
      ((s.send .pme).mapHost fun h => { h with pmeStatus := true }).mapEvents fun e => { e with pmeSent := inc32 e.pmeSent }
    else s
  | .d3cold =>
    if s.events.wakeOut then s
    else s.mapEvents fun e => { e with wakeOut := true, pmeSent := inc32 e.pmeSent }
  | .d0 => s

/-- A notification of a vector with the function in D0 (R434). -/
def notify (v : Nat) (s : State) : State :=
  let s := s.mapVector v fun x => { x with notified := inc32 x.notified, count := x.count + 1 }
  let x := s.vector v
  if x.timer.isNone then startTimer v ((sendMsi v s).mapVector v fun x => { x with count := 0 })
  else if 0 < x.countMax && decide (x.countMax ≤ x.count) then
    startTimer v ((sendMsi v s).mapVector v fun x => { x with count := 0 })
  else s.mapVector v fun x => { x with pending := true }

/-- A notification that is held outside D0 (R436). -/
def holdNote (v : Nat) (s : State) : State :=
  let s := s.mapVector v fun x => { x with heldNotes := x.heldNotes + 1 }
  let x := s.vector v
  if x.wake && (x.held || x.timer.isNone) then wake s else s

/-! ### Event sources (R420, R430) -/

/-- An event placed in an enabled edge source's FIFO, or lost when it holds 4 records (R420, R430). -/
def Source.assert (r : EvRec) (x : Source) : Source :=
  if !x.enabled then x
  else if 4 ≤ x.fifo.length + x.passed.length then { x with lost := inc32 x.lost, lostTold := x.lostTold + 1 }
  else { x with fifo := x.fifo ++ [r], pending := true }

/-- A level source's condition changes; PENDING follows it while the source is enabled and not ACTIVE (R420). -/
def Source.setLevel (high : Bool) (now : Nat) (x : Source) : Source :=
  { x with
    level := high
    levelTime := if high && !x.level then now else x.levelTime
    pending := if x.enabled && !x.active then high else x.pending }

/-- An event of a host source at a given time, with its mirror at the internal concentrator (R416, R424). -/
def raiseAt (t src code : Nat) (data : List Byte) (s : State) : State :=
  let r : EvRec := { code, source := src, time := t, data := padTo 20 data }
  (s.mapSource true src (Source.assert r)).mapSource false (src + 64) (Source.assert r)

/-- An event of a host source now (R417). -/
def raise (src code : Nat) (data : List Byte) (s : State) : State := raiseAt s.time src code data s

/-- The level of a host source and of its mirror (R416, R424). -/
def setLevel (src : Nat) (high : Bool) (s : State) : State :=
  (s.mapSource true src (Source.setLevel high s.time)).mapSource false (src + 64) (Source.setLevel high s.time)

/-- An assertion of an edge source of the internal concentrator alone (Table 14-5). -/
def raiseInternal (src code : Nat) (data : List Byte) (s : State) : State :=
  s.mapSource false src (Source.assert { code, source := src, time := s.time, data := padTo 20 data })

/-! ### Statuses and replies (Table 2-14) -/

/-- ST_OK. -/
def stOk : Nat := 0x0000
/-- ST_BAD_OPCODE. -/
def stBadOpcode : Nat := 0x0010
/-- ST_BAD_LENGTH. -/
def stBadLength : Nat := 0x0011
/-- ST_RESERVED_SET. -/
def stReservedSet : Nat := 0x0012
/-- ST_BAD_FIELD. -/
def stBadField : Nat := 0x0013
/-- ST_BAD_CHECK. -/
def stBadCheck : Nat := 0x0014
/-- ST_WRONG_RING. -/
def stWrongRing : Nat := 0x0015
/-- ST_BAD_SEQ. -/
def stBadSeq : Nat := 0x0016
/-- ST_BAD_FENCE. -/
def stBadFence : Nat := 0x0017
/-- ST_FENCE_DESTROYED. -/
def stFenceDestroyed : Nat := 0x0018
/-- ST_BAD_HANDLE. -/
def stBadHandle : Nat := 0x0020
/-- ST_BUSY. -/
def stBusy : Nat := 0x0021
/-- ST_NO_RESOURCE. -/
def stNoResource : Nat := 0x0022
/-- ST_ALIAS_OVERLAP. -/
def stAliasOverlap : Nat := 0x0023
/-- ST_STATE. -/
def stState : Nat := 0x0024
/-- ST_NOT_PERMITTED. -/
def stNotPermitted : Nat := 0x0025
/-- ST_BAD_SIGNATURE. -/
def stBadSignature : Nat := 0x0026
/-- ST_ROLLBACK. -/
def stRollback : Nat := 0x0027
/-- ST_ADMISSION_REFUSED. -/
def stAdmissionRefused : Nat := 0x0030
/-- ST_CRITICAL_PIPE. -/
def stCriticalPipe : Nat := 0x0031
/-- ST_CONTAIN_ABORTED. -/
def stContainAborted : Nat := 0x0040
/-- ST_DEVICE_ABSENT. -/
def stDeviceAbsent : Nat := 0x0050
/-- ST_LINK_FAILED. -/
def stLinkFailed : Nat := 0x0051
/-- ST_DRIVE_ERROR. -/
def stDriveError : Nat := 0x0052
/-- ST_INTERNAL. -/
def stInternal : Nat := 0x0060

/-- ST_OK with a DETAIL. -/
def Reply.ok (detail : Nat := 0) : Reply := { detail }
/-- A status with a DETAIL. -/
def Reply.err (status detail : Nat) : Reply := { status, detail }
/-- A failed check of Table 2-9: the barge has no effect (R77). -/
def Reply.checkFailed (status detail : Nat) : Reply := { status, detail, executed := false }

/-- The first failed check of a list (R77). -/
def firstFail : List (Option Reply) → Option Reply
  | [] => none
  | some r :: _ => some r
  | none :: l => firstFail l

/-- A check that fails with a reply when a condition holds. -/
def failIf (c : Bool) (r : Reply) : Option Reply := if c then some r else none

/-- Step 9 of Table 2-9, length: PAYLOAD_LEN is what the opcode defines. -/
def lenIs (b : Barge) (n : Nat) : Option Reply :=
  failIf (b.payloadLen != n) (.checkFailed stBadLength (b.payloadLen + n * 2 ^ 16))

/-- Step 9, reserved bytes: the lowest nonzero byte of a run of reserved payload bytes. -/
def reservedBytes (b : Barge) (off : Nat) : Nat → Option Reply
  | 0 => none
  | n + 1 =>
    let v := b.pay off 1
    if v = 0 then reservedBytes b (off + 1) n else some (.checkFailed stReservedSet ((0x40 + off) + v * 2 ^ 16))

/-- Step 9, reserved bits of a payload byte: `mask` has the reserved bits set. -/
def reservedBits (b : Barge) (off mask : Nat) : Option Reply :=
  let v := b.pay off 1
  failIf (v &&& mask != 0) (.checkFailed stReservedSet ((0x40 + off) + v * 2 ^ 16))

/-- ST_BAD_FIELD for the field of `n` bytes at payload offset `off` (Table 2-14). -/
def badField (b : Barge) (off n : Nat) : Reply :=
  .checkFailed stBadField ((0x40 + off) + (b.pay off n % 2 ^ 32) * 2 ^ 32)

/-- Step 9: a field out of range. -/
def fieldIf (b : Barge) (off n : Nat) (bad : Bool) : Option Reply := failIf bad (badField b off n)

/-- ST_STATE with the mode and the object's state (Table 2-14). -/
def wrongState (s : State) (objectState : Nat) : Reply := .err stState (s.mode.shown + objectState * 256)

/-- A reply whose DETAIL the manual does not state: a free value (log 2). -/
def freeReply (status : Nat) (s : State) : Reply := .err status (Config.freeNat s.free)

/-- A barge of the configuration image is carried by no ring: it bears this ring number in the model. -/
abbrev imageRing : Nat := 16

/-- The opcode is accepted on ring 0 only (step 7, R90). -/
def ring0Only (b : Barge) : Option Reply := failIf (b.ring % imageRing != 0) (.checkFailed stWrongRing b.ring)

/-! ### Fences (R82, R83) -/

/-- Value of a fence, none if it is absent. -/
def State.fence (s : State) (f : Nat) : Option Word64 := s.host.fences.getD f none

/-- A signal of a fence (R83): a higher value is taken, any other is counted. -/
def signalFence (f : Nat) (v : Word64) (s : State) : State :=
  match s.fence f with
  | none => s.mapCtr fun c => { c with fenceBad := inc32 c.fenceBad }
  | some w =>
    if w < v then s.mapHost fun h => { h with fences := h.fences.set f (some v) }
    else s.mapCtr fun c => { c with fenceStale := inc32 c.fenceStale }

/-- Whether a wait on a fence is satisfied (R84). -/
def State.fenceReached (s : State) (f : Nat) (v : Word64) : Bool :=
  match s.fence f with
  | none => false
  | some w => decide (v ≤ w)

/-! ### Completion (R71 to R79) -/

/-- The report of R91 that is written to REPORT_ADDR. -/
def reportBytes (b : Barge) (body : List Byte) : List Byte :=
  leBytes 2 b.opcode ++ leBytes 2 (16 + body.length) ++ leBytes 4 0 ++ leBytes 8 b.token ++ body

/-- The completion record of Table 2-10. -/
def recordBytes (b : Barge) (r : Reply) (sqHead : Nat) (phase : Bool) : List Byte :=
  leBytes 8 b.token ++ leBytes 8 b.seq ++ leBytes 2 r.status ++ leBytes 2 b.opcode ++ leBytes 2 sqHead ++
    leBytes 1 b.ring ++ leBytes 1 (r.cflags + b2n phase) ++ leBytes 8 r.detail

/-- Entries in use of a ring's completion ring: written and not freed, or of a started barge (R73). -/
def Ring.cqUsed (r : Ring) : Nat :=
  (r.cqTail + 2 ^ r.cqLog2 - r.cqHead) % 2 ^ r.cqLog2 + r.heldRecs.length + (r.inflight.filter (·.started)).length

/-- A report and a record written, the record at CQ_TAIL of its ring; its vector is notified unless `quiet` (R72, R73, R434). -/
def writeRecord (h : HeldRecord) (quiet : Bool) (s : State) : State :=
  let b := h.barge
  let s := match h.reply.report with
    | some body => if h.reply.executed && b.reportAddr != 0 then s.hostWrite b.reportAddr (reportBytes b body) else s
    | none => s
  let r := s.ring b.ring
  let s := s.hostWrite (r.cqBase.toNat + 32 * r.cqTail) (recordBytes b h.reply r.sqHead r.phase)
  let last := decide (r.cqTail + 1 = 2 ^ r.cqLog2)
  let s := s.mapRing b.ring fun r => { r with cqTail := (r.cqTail + 1) % 2 ^ r.cqLog2, phase := xor r.phase last }
  if quiet then s else notify r.vector s

/-- The barge is the first started one of its ring's journal that equals `b`. -/
def removeInFlight (b : Barge) : List InFlight → List InFlight
  | [] => []
  | f :: l => if f.barge = b && f.started then l else f :: removeInFlight b l

/-- Whether a ring's journal holds the barge as started. -/
def Ring.holds (r : Ring) (b : Barge) : Bool := r.inflight.any fun f => decide (f.barge = b) && f.started

/-- The result table with one more result, at most 1,024 (R79). -/
def addResult (b : Barge) (r : Reply) (l : List ResultEntry) : List ResultEntry :=
  ({ seq := b.seq, status := r.status, cflags := r.cflags, detail := r.detail } :: l).take 1024

/-- Whether an outcome enters the result table: the barge was executed (R79). -/
def entersTable (r : Reply) : Bool :=
  r.executed && !decide (r.status = stContainAborted) && !decide (r.status = stFenceDestroyed)

/-- Whether a barge with this outcome signals its fence (R76, R77). -/
def signals (b : Barge) (r : Reply) : Bool :=
  b.signalEn && r.executed && (decide (r.status = stOk) || b.signalOnError) && !decide (r.status = stContainAborted)

/-- The journal with the outcome of a barge that ended during CONTAIN (R81). -/
def noteResult (b : Barge) (r : Reply) : List InFlight → List InFlight
  | [] => []
  | f :: l =>
    if f.barge = b && f.started && f.result.isNone then { f with committed := true, result := some r } :: l
    else f :: noteResult b r l

/-- The report that an admission has made for a started barge (R322). -/
def Ring.reportOf (r : Ring) (b : Barge) : Option (List Byte) :=
  (r.inflight.find? fun f => decide (f.barge = b) && f.started).bind (·.report)

/-- The barge goes on after a CONTAIN (R81). -/
def Ring.recovered (r : Ring) (b : Barge) : Bool :=
  r.inflight.any fun f => decide (f.barge = b) && f.started && f.recovered

/-- The report of an admitted barge that completes later is kept with the barge (R322). -/
def noteReport (b : Barge) (body : List Byte) (s : State) : State :=
  s.mapRing b.ring fun r =>
    { r with inflight := r.inflight.map fun f => if f.barge = b && f.started then { f with report := some body } else f }

/-- An entry of the configuration image has failed: it is counted, and the first of each phase raises EV_CONFIG_FAILED (R511). -/
def imageFail (phase index status detail : Nat) (s : State) : State :=
  let told := s.mode.failTold.contains phase
  let s := s.mapMode fun m =>
    { m with
      configFails := satAdd 0xFFFF m.configFails 1, firstFail := m.firstFail.or (some (phase, index, status, detail))
      bootFlags := m.bootFlags ||| 0x20, failTold := if told then m.failTold else m.failTold ++ [phase] }
  if told then s else raise 145 0x0C03 (leBytes 1 phase ++ leBytes 1 0 ++ leBytes 2 status ++ leBytes 4 index ++ leBytes 8 detail) s

/-- The image barge in progress has completed (R510, R511). -/
def noteImage (b : Barge) (r : Reply) (s : State) : State :=
  match s.mode.imageBarge with
  | some (x, phase, index) =>
    if x = b then
      let s := s.mapMode fun m => { m with imageBarge := none }
      if r.status = stOk then s else imageFail phase index r.status r.detail s
    else s
  | none => s

/-- A barge completes (R71, R72): fence, report, record, interrupt, and its result is kept (R79). A barge whose ring no
longer journals it ends without a record (R50); outside D0 the record waits (R51); during CONTAIN the journal keeps the
outcome for the exit (R81). -/
def complete (b : Barge) (r : Reply) (s : State) : State :=
  let s := s.takeFree
  let ring := s.ring b.ring
  let r := { r with report := r.report.or (ring.reportOf b), cflags := if ring.recovered b then r.cflags ||| 16 else r.cflags }
  if s.mode.contain && ring.holds b then
    s.mapRing b.ring fun x => { x with inflight := noteResult b r x.inflight }
  else
    let s := if signals b r then signalFence b.signalFence (BitVec.ofNat 64 b.signalValue) s else s
    if !ring.holds b then noteImage b r s
    else
      let s := s.mapRing b.ring fun x =>
        { x with
          inflight := removeInFlight b x.inflight
          results := if entersTable r then addResult b r x.results else x.results }
      match s.host.dstate with
      | .d0 => writeRecord { barge := b, reply := r } false s
      | _ => holdNote ring.vector (s.mapRing b.ring fun x => { x with heldRecs := x.heldRecs ++ [{ barge := b, reply := r }] })

/-- A barge whose checks pass is executed; a failed check completes it (R77). -/
def runBarge (check : Barge → State → Option Reply) (apply : Barge → State → State) (b : Barge) (s : State) : State :=
  match check b s with
  | some r => complete b r s
  | none => apply b s

/-- What a command answers. -/
abbrev Out := Host.Outcome State Fault Refusal

/-- A barge opcode's command: the state after its checks and its effect. -/
def barge (check : Barge → State → Option Reply) (apply : Barge → State → State) (b : Barge) (s : State) : Out :=
  .next (runBarge check apply b s)

end Sys2Proof.Machine
end

