-- ==== Sys2Proof/Machine/MemOps.lean ====
section
/-! DEFINITION. Device memory: the address map, the Reed-Solomon code, reads and writes of codewords with their twin
copies, granules and regions, and the fault log (files 03 and 18). -/
namespace Sys2Proof.Machine

open Sys2Proof

/-! ### The fault log (R564) -/

/-- A fault record is written and EV_FAULT_LOGGED raised (R564). -/
def faultRecord (kind object response lflags : Nat) (detail : List Byte) (s : State) : State :=
  let f := s.faults
  let rec' := leBytes 4 f.nextIndex ++ leBytes 2 kind ++ leBytes 2 object ++ leBytes 8 s.time ++ leBytes 1 s.mode.shown ++
    leBytes 1 response ++ leBytes 2 lflags ++ leBytes 4 s.mode.epoch ++ padTo 40 detail
  raise 160 0x0D04 (leBytes 4 f.nextIndex ++ leBytes 2 kind ++ leBytes 2 object ++ leBytes 1 response ++ leBytes 1 lflags)
    (s.mapFaults fun f => { f with log := (rec' :: f.log).take 4096, nextIndex := (f.nextIndex + 1) % 2 ^ 32 })

/-! ### GF(2^8) and RS(136,128) (R539) -/

/-- Product by α of R539. -/
def gfTwice (a : Nat) : Nat := let b := 2 * a; if 256 ≤ b then (b ^^^ 0x11D) % 256 else b

/-- Product in GF(2^8), over the bits of `b` from `n` of them (R539). -/
def gfMulBits (a b : Nat) : Nat → Nat
  | 0 => 0
  | n + 1 => (if b % 2 = 1 then a else 0) ^^^ gfMulBits (gfTwice a) (b / 2) n

/-- Product in GF(2^8) (R539). -/
def gfMul (a b : Nat) : Nat := gfMulBits a b 8

/-- Power in GF(2^8). -/
def gfPow (a : Nat) : Nat → Nat
  | 0 => 1
  | n + 1 => gfMul a (gfPow a n)

/-- Inverse in GF(2^8): the power 254. -/
def gfInv (a : Nat) : Nat :=
  let a2 := gfMul a a; let a4 := gfMul a2 a2; let a8 := gfMul a4 a4; let a16 := gfMul a8 a8
  let a32 := gfMul a16 a16; let a64 := gfMul a32 a32; let a128 := gfMul a64 a64
  gfMul a128 (gfMul a64 (gfMul a32 (gfMul a16 (gfMul a8 (gfMul a4 a2)))))

/-- Value of a polynomial, coefficients lowest first, at a point. -/
def polyEval (p : List Nat) (x : Nat) : Nat := p.foldr (fun c acc => c ^^^ gfMul x acc) 0

/-- Sum of two polynomials. -/
def polyAdd : List Nat → List Nat → List Nat
  | [], q => q
  | p, [] => p
  | a :: p, b :: q => (a ^^^ b) :: polyAdd p q

/-- Product of two polynomials. -/
def polyMul (p q : List Nat) : List Nat := p.foldr (fun a acc => polyAdd (q.map (gfMul a)) (0 :: acc)) []

/-- Syndrome i of an error pattern: the pattern's value at α^i (R539). -/
def rsSyndrome (e : List (Nat × Nat)) (i : Nat) : Nat := e.foldl (fun acc x => acc ^^^ gfMul x.2 (gfPow 2 (i * x.1 % 255))) 0

/-- State of the Berlekamp-Massey iteration: C, B, L, m, b. -/
structure BmState where
  /-- Connection polynomial. -/
  c : List Nat := [1]
  /-- Earlier connection polynomial. -/
  b : List Nat := [1]
  /-- Length. -/
  l : Nat := 0
  /-- Shift. -/
  m : Nat := 1
  /-- Earlier discrepancy. -/
  d : Nat := 1
  deriving DecidableEq, Repr, Inhabited

/-- One step of Berlekamp-Massey on syndrome `n`. -/
def bmStep (syn : List Nat) (st : BmState) (n : Nat) : BmState :=
  let d := (List.range (st.l + 1)).foldl (fun acc i => acc ^^^ gfMul (st.c.getD i 0) (syn.getD (n - i) 0)) 0
  if d = 0 then { st with m := st.m + 1 }
  else
    let k := gfMul d (gfInv st.d)
    let c' := polyAdd st.c (List.replicate st.m 0 ++ st.b.map (gfMul k))
    if 2 * st.l ≤ n then { c := c', b := st.c, l := n + 1 - st.l, m := 1, d := d }
    else { st with c := c', m := st.m + 1 }

/-- The error pattern of at most four symbols that the decoder finds for eight syndromes, none if the word is
uncorrectable (R540). -/
def rsFind (syn : List Nat) : Option (List (Nat × Nat)) :=
  if syn.all (· = 0) then some []
  else
    let st := (List.range 8).foldl (bmStep syn) {}
    let roots := (List.range 136).filter fun j => polyEval st.c (gfPow 2 ((255 - j) % 255)) = 0
    if 4 < st.l || roots.length != st.l then none
    else
      let omega := (polyMul syn st.c).take 8
      let deriv := st.c.zipIdx.map fun (a, i) => if i % 2 = 1 then a else 0
      let e := roots.map fun j =>
        let x := gfPow 2 j
        let xi := gfPow 2 ((255 - j) % 255)
        -- the derivative at xi is the sum of the odd coefficients times xi^(i-1)
        (j, gfMul x (gfMul (polyEval omega xi) (gfInv (gfMul (polyEval deriv xi) x))))
      if (List.range 8).all fun i => rsSyndrome e i = syn.getD i 0 then some e else none

/-- What the decoder makes of a stored error pattern (R540). -/
inductive Decoded where
  /-- No symbol is wrong. -/
  | clean
  /-- Corrected; the symbols that are wrong after it (none unless it went to a wrong codeword). -/
  | corrected (residual : List (Nat × Nat))
  /-- Uncorrectable. -/
  | bad
  deriving DecidableEq, Repr, Inhabited

/-- The sum of two error patterns, zero symbols left out. -/
def addPattern (a b : List (Nat × Nat)) : List (Nat × Nat) :=
  let pos := (a.map (·.1) ++ b.map (·.1)).eraseDups
  (pos.map fun j => (j, (a.foldl (fun acc x => if x.1 = j then acc ^^^ x.2 else acc) 0) ^^^
    (b.foldl (fun acc x => if x.1 = j then acc ^^^ x.2 else acc) 0))).filter fun x => x.2 != 0

/-- The decoder's outcome for a stored error pattern (R540): at most four wrong symbols are corrected; otherwise the
word is corrected to the codeword within four symbols, if there is one. -/
def rsDecode (e : List (Nat × Nat)) : Decoded :=
  if e.isEmpty then .clean
  else if e.length ≤ 4 then .corrected []
  else match rsFind ((List.range 8).map (rsSyndrome e)) with
    | none => .bad
    | some f => .corrected (addPattern e f)

/-! ### The address map (R96) -/

/-- Usable bytes of device memory (R95). -/
def devBytes : Nat := 8053063680
/-- Granule of a device address (R96). -/
def granuleOf (a : Nat) : Nat := a / 61440
/-- Device of a granule (R96). -/
def deviceOf (g : Nat) : Nat := g % 4
/-- Channel and page of a device address (R96). -/
def pageOf (a : Nat) : Nat × Nat :=
  let i := a % 61440 / 1920
  (2 * deviceOf (granuleOf a) + i % 2, 16 * (granuleOf a / 4) + i / 2)
/-- First granule of the fixed private area (R98). -/
def fixedGranule : Nat := 128217

/-- Region that holds a granule as one of its own. -/
def State.regionOf (s : State) (g : Nat) : Option Region :=
  s.mem.regions.find? fun r => decide (r.base ≤ g) && decide (g < r.base + r.count)

/-- Mirror granule of a granule of a twin region (R99). -/
def State.mirrorOf (s : State) (g : Nat) : Option Nat :=
  match s.regionOf g with
  | none => none
  | some r => if r.mirror.isEmpty then none else (r.mirror[g - r.base]?).filter fun m => m != 131072

/-- The granule is module-private (R63): the fixed area, a private region, or a mirror granule. -/
def State.privateGranule (s : State) (g : Nat) : Bool :=
  decide (fixedGranule ≤ g) || (s.mem.regions.any fun r => r.mirror.contains g) ||
    (s.mem.moved ++ s.mem.fixedCopies).any (fun (x : Nat × Nat) => x.2 == g) ||
    (match s.regionOf g with | some r => decide (r.kind ≠ .host) | none => false)

/-- The granule that holds the primary copy of granule `g`: itself unless its copy moved (R546). -/
def State.homeOf (s : State) (g : Nat) : Nat := ((s.mem.moved.find? fun x => x.1 == g).map (·.2)).getD g

/-- The copy of a granule is lost: the device that holds it is lost (R101). -/
def State.lostGranule (s : State) (g : Nat) : Bool := s.mem.lost.getD (deviceOf (s.homeOf g)) false

/-! ### Codewords -/

/-- Stored error pattern of a codeword copy. -/
def patternOf (l : List (Nat × List (Nat × Nat))) (w : Nat) : List (Nat × Nat) :=
  ((l.find? fun x => x.1 = w).map (·.2)).getD []

/-- The list of stored patterns with that of one codeword replaced. -/
def setPattern (l : List (Nat × List (Nat × Nat))) (w : Nat) (e : List (Nat × Nat)) : List (Nat × List (Nat × Nat)) :=
  let l := l.filter fun x => x.1 != w
  if e.isEmpty then l else (w, e) :: l

/-- What a read of the primary copy of codeword `w` meets (R95, R540). -/
def primaryState (s : State) (w : Nat) : Decoded :=
  let a := 128 * w
  if s.lostGranule (granuleOf a) || s.mem.poison.contains w || s.mem.badTags.contains (pageOf a) then .bad
  else rsDecode (patternOf s.mem.errs w)

/-- What a read of the mirror copy meets, none without a mirror (R99). -/
def mirrorState (s : State) (w : Nat) : Option Decoded :=
  (s.mirrorOf (granuleOf (128 * w))).map fun m =>
    if s.lostGranule m then .bad else rsDecode (patternOf s.mem.errsMirror w)

/-- Data bytes of a codeword changed by a residual error pattern: data byte m is symbol 135 − m (R539). -/
def applyResidual (bytes : List Byte) (e : List (Nat × Nat)) : List Byte :=
  e.foldl (fun l x => if 8 ≤ x.1 then l.modify (135 - x.1) (fun b => b ^^^ BitVec.ofNat 8 x.2) else l) bytes

/-- The 128 data bytes of a codeword as they should be. -/
def wordBytes (s : State) (w : Nat) : List Byte := Memory.readBytes s.mem.cells (128 * w) 128

/-- Device that holds the primary copy of a codeword. -/
def deviceOfWord (s : State) (w : Nat) : Nat := deviceOf (s.homeOf (granuleOf (128 * w)))

/-- An uncorrectable codeword is noted for its device: the times within 10 ms (R544). -/
def noteRecent (d : Nat) (s : State) : State :=
  s.mapFaults fun f =>
    { f with recentBad := f.recentBad.modify d fun l => s.time :: l.filter fun t => decide (s.time < t + 10000000) }

/-- The codeword was met uncorrectable: counted once per read, recorded once until rewritten (R540, R564). A codeword with
injected errors stands as kind 20 among the injected objects (R575). -/
def noteBad (w client response : Nat) (s : State) : State :=
  let s := noteRecent (deviceOfWord s w) (s.mapCtr fun c => { c with gddr6Uncorrectable := inc32 c.gddr6Uncorrectable })
  if s.faults.tracked.contains w then s
  else
    let s := if s.faults.tracked.length < 1024 then s.mapFaults fun f => { f with tracked := w :: f.tracked } else s
    faultRecord 1 (deviceOfWord s w) response (b2n (s.faults.injected.contains (20, w)))
      (leBytes 8 (128 * w) ++ leBytes 1 client) s

/-- A correction is counted (R540). -/
def noteCorrected (s : State) : State := s.mapCtr fun c => { c with gddr6Corrected := c.gddr6Corrected + 1 }

/-- The codeword's stored copies are whole and good again (R540, R564). -/
def cleanWord (w : Nat) (s : State) : State :=
  (s.mapMem fun m => { m with errs := setPattern m.errs w [], errsMirror := setPattern m.errsMirror w [],
                              poison := m.poison.filter (· != w) }).mapFaults fun f =>
    { f with tracked := f.tracked.filter (· != w), injected := f.injected.filter (· != (20, w)) }

/-- A read of a codeword by a client: its data, none if it has no good copy, and the state with what the read counts;
`response` is the fault record's for a reader without a good copy (R99, R540, R564). -/
def readWord (client response w : Nat) (s : State) : Option (List Byte) × State :=
  match primaryState s w with
  | .clean => (some (wordBytes s w), s)
  | .corrected e => (some (applyResidual (wordBytes s w) e), noteCorrected s)
  | .bad =>
    match mirrorState s w with
    | some .clean => (some (wordBytes s w), cleanPrimary s)
    | some (.corrected e) => (some (applyResidual (wordBytes s w) e), noteCorrected (cleanPrimary s))
    | _ => (none, noteBad w client response s)
where
  /-- Served from the mirror: the primary is rewritten from it, unless its device is lost (R99). -/
  cleanPrimary (s : State) : State :=
    let lost := s.lostGranule (granuleOf (128 * w))
    let s := noteBad w client 1 s
    if lost then s
    else (s.mapMem fun m => { m with errs := setPattern m.errs w [], poison := m.poison.filter (· != w) }).mapFaults fun f =>
      { f with tracked := f.tracked.filter (· != w) }

/-- The bytes [lo, lo + n) of one codeword written (R540): a part of an uncorrectable codeword poisons it. -/
def writeWord (w lo : Nat) (bytes : List Byte) (s : State) : State :=
  let a := 128 * w
  let lostP := s.lostGranule (granuleOf a)
  let mirror := s.mirrorOf (granuleOf a)
  let lostAll := lostP && (match mirror with | none => true | some m => s.lostGranule m)
  if lostAll then s
  else
    let put := fun (s : State) => s.mapMem fun m => { m with cells := Memory.writeBytes m.cells (a + lo) bytes }
    if bytes.length = 128 then cleanWord w (put s)
    else
      let good := fun (d : Decoded) => match d with | .bad => false | _ => true
      let residual := fun (d : Decoded) => match d with | .corrected e => e | _ => []
      match primaryState s w, mirrorState s w with
      | .clean, _ => cleanWord w (put s)
      | .corrected e, _ =>
        put (cleanWord w (noteCorrected (s.mapMem fun m =>
          { m with cells := Memory.writeBytes m.cells a (applyResidual (wordBytes s w) e) })))
      | .bad, some d =>
        if good d then
          put (cleanWord w (s.mapMem fun m =>
            { m with cells := Memory.writeBytes m.cells a (applyResidual (wordBytes s w) (residual d)) }))
        else poisonPut s put
      | .bad, none => poisonPut s put
where
  /-- No good copy: the other bytes as read, encoded afresh, with the codeword's POISON bit set (R540). -/
  poisonPut (s : State) (put : State → State) : State :=
    let raw := applyResidual (wordBytes s w) (patternOf s.mem.errs w)
    let s := s.mapMem fun m => { m with cells := Memory.writeBytes m.cells (128 * w) raw }
    (put (cleanWord w s)).mapMem fun m => { m with poison := w :: m.poison }

/-- Bytes written to device memory from an address, one codeword after another; `fuel` bounds the codewords. -/
def devWriteFuel : Nat → Nat → List Byte → State → State
  | 0, _, _, s => s
  | fuel + 1, a, bytes, s =>
    if bytes.isEmpty || decide (devBytes ≤ a) then s
    else
      let lo := a % 128
      let n := min (128 - lo) bytes.length
      devWriteFuel fuel (a + n) (bytes.drop n) (writeWord (a / 128) lo (bytes.take n) s)

/-- Bytes written to device memory from an address, with the twin copies (R99). -/
def devWrite (a : Nat) (bytes : List Byte) (s : State) : State := devWriteFuel (bytes.length / 128 + 2) a bytes s

/-- Bytes of device memory as a client reads them, none for a byte of a codeword without a good copy, with the
codewords that had none, and the state with what the reads count. -/
def devReadFuel (client response : Nat) : Nat → Nat → Nat → State → List (Option Byte) × List Nat × State
  | 0, _, _, s => ([], [], s)
  | fuel + 1, a, n, s =>
    if n = 0 then ([], [], s)
    else
      let lo := a % 128
      let k := min (128 - lo) n
      let (d, s) := readWord client response (a / 128) s
      let (rest, bad, s) := devReadFuel client response fuel (a + k) (n - k) s
      match d with
      | some bytes => (((bytes.drop lo).take k).map some ++ rest, bad, s)
      | none => (List.replicate k none ++ rest, (a / 128) :: bad, s)

/-- `n` bytes of device memory from an address, as a client reads them. -/
def devRead (client response a n : Nat) (s : State) : List (Option Byte) × List Nat × State :=
  devReadFuel client response (n / 128 + 2) a n s

/-- Bytes of device memory without the error model: the contents as written, for parts of the module whose reads the
manual does not count. -/
def devPeek (s : State) (a n : Nat) : List Byte := Memory.readBytes s.mem.cells a n

/-! ### Granules and regions (R97 to R100) -/

/-- Used runs of the pool: regions and single mirror granules, by rising granule. -/
def usedRuns (s : State) : List (Nat × Nat) :=
  ((s.mem.regions.map fun (r : Region) => (r.base, r.count)) ++ ((s.mem.regions.map fun (r : Region) => r.mirror).flatten.map fun g => (g, 1)) ++
    (s.mem.moved ++ s.mem.fixedCopies).map fun (x : Nat × Nat) => (x.2, 1)).inOrder
    fun a b => decide (a.1 ≤ b.1)

/-- Free gaps of the pool between used runs, from granule `lo`. -/
def freeGaps : Nat → List (Nat × Nat) → List (Nat × Nat)
  | lo, [] => if lo < fixedGranule then [(lo, fixedGranule - lo)] else []
  | lo, (b, n) :: l =>
    if fixedGranule ≤ b then (if lo < fixedGranule then [(lo, fixedGranule - lo)] else [])
    else if lo < b then (lo, b - lo) :: freeGaps (b + n) l else freeGaps (max lo (b + n)) l

/-- No granule of a run is on a lost device. -/
def runAlive (s : State) (g : Nat) : Nat → Bool
  | 0 => true
  | n + 1 => !s.lostGranule g && runAlive s (g + 1) n

/-- The lowest run of `n` granules within a gap that avoids lost devices. -/
def gapFit (s : State) (n : Nat) (gap : Nat × Nat) : Option Nat :=
  if s.mem.lost.all (!·) then (if n ≤ gap.2 then some gap.1 else none)
  else if 3 < n then none
  else ((List.range 8).find? fun k => decide (k + n ≤ gap.2) && runAlive s (gap.1 + k) n).map (gap.1 + ·)

/-- The lowest-addressed free run of `n` pool granules (R100). -/
def findRun (s : State) (n : Nat) : Option Nat := ((freeGaps 0 (usedRuns s)).filterMap (gapFit s n)).head?

/-- Longest free run of granules (R120, R126). -/
def longestRun (s : State) : Nat :=
  let gaps := freeGaps 0 (usedRuns s)
  if s.mem.lost.all (!·) then (gaps.map (·.2)).foldl max 0
  else ([3, 2, 1].find? fun n => gaps.any fun g => (gapFit s n g).isSome).getD 0

/-- Granules of a gap that are on devices in service. -/
def aliveIn (s : State) (gap : Nat × Nat) : Nat :=
  ((List.range 4).map fun d =>
    if s.mem.lost.getD d false then 0
    else (gap.1 + gap.2 + 3 - d) / 4 - (gap.1 + 3 - d) / 4).sum

/-- Pool granules free (R126). -/
def freeGranules (s : State) : Nat := ((freeGaps 0 (usedRuns s)).map (aliveIn s)).sum

/-- A granule is free in the pool, and not in a run that is being placed. -/
def granuleFree (s : State) (taken : List (Nat × Nat)) (g : Nat) : Bool :=
  decide (g < fixedGranule) && !s.lostGranule g && !(taken.any fun r => decide (r.1 ≤ g) && decide (g < r.1 + r.2))

/-- The highest free granule at or below `g` in steps of 4: the same device (R100). -/
def mirrorBelow (s : State) (taken : List (Nat × Nat)) : Nat → Nat → Option Nat
  | 0, _ => none
  | fuel + 1, g =>
    if granuleFree s taken g then some g else if g < 4 then none else mirrorBelow s taken fuel (g - 4)

/-- The highest pool granule on a device. -/
def topOnDevice (d : Nat) : Nat := fixedGranule - 1 - (fixedGranule - 1 + 4 - d) % 4

/-- Mirror granules for granules `g`, `g + 1`, … (`n` of them), from the highest address downwards (R100). -/
def placeMirrors (s : State) (taken : List (Nat × Nat)) (g : Nat) : Nat → Option (List Nat)
  | 0 => some []
  | n + 1 =>
    match mirrorBelow s taken 32055 (topOnDevice ((g + 1) % 4)) with
    | none => none
    | some m => (placeMirrors s ((m, 1) :: taken) (g + 1) n).map (m :: ·)

/-- A region inserted by rising first granule. -/
def insertRegion (r : Region) : List Region → List Region
  | [] => [r]
  | x :: l => if r.base < x.base then r :: x :: l else x :: insertRegion r l

/-- A region placed as R100 says, none if there is no placement. -/
def placeRegion (n : Nat) (twin : Bool) (kind : RegionKind) (s : State) : Option (Region × State) :=
  match findRun s n with
  | none => none
  | some g =>
    let mirrors := if twin then placeMirrors s ((g, n) :: usedRuns s) g n else some []
    mirrors.map fun m =>
      let r : Region := { base := g, count := n, kind, mirror := m, run := longestRun s }
      (r, s.mapMem fun x => { x with regions := insertRegion r x.regions })

/-! ### Loss of a device and re-mirroring (R546) -/

/-- Twin granules of the fixed private area; its mirrors follow the pound backing (log 20). -/
def fixedTwin : List Nat := (List.range 1393).map (fixedGranule + ·)

/-- Devices that hold the copies of a twin granule: of the primary's place, the mirror's, and those placed since. -/
def copyDevices (s : State) (g : Nat) : List Nat :=
  if fixedGranule ≤ g then
    g % 4 :: (g + 1) % 4 :: (s.mem.fixedCopies.filter fun x => x.1 == g).map fun (x : Nat × Nat) => deviceOf x.2
  else match s.regionOf g with
    | none => []
    | some r =>
      let m := r.mirror.getD (g - r.base) 131072
      deviceOf (s.homeOf g) :: (if m < 131072 then [deviceOf m] else [])

/-- Devices in service that hold a copy of a twin granule. -/
def survivors (s : State) (g : Nat) : List Nat := (copyDevices s g).filter fun d => !s.mem.lost.getD d false

/-- Every twin granule, of regions and of the fixed area. -/
def twinGranules (s : State) : List Nat :=
  (s.mem.regions.flatMap fun r => if r.mirror.isEmpty then [] else (List.range r.count).map (r.base + ·)) ++ fixedTwin

/-- A new copy's granule: on the next surviving device after the survivor's, from the highest address downwards; with none free
there, on the one after that (R546). -/
def newMirror (s : State) (d : Nat) : Option Nat :=
  (([1, 2, 3].map fun k => (d + k) % 4).filter fun e => !s.mem.lost.getD e false).findSome? fun e =>
    mirrorBelow s (usedRuns s) 32055 (topOnDevice e)

/-- The mirror granule of one granule of a region replaced. -/
def setMirror (g m : Nat) (s : State) : State :=
  s.mapMem fun x => { x with regions := x.regions.map fun r =>
    if r.base ≤ g ∧ g < r.base + r.count then { r with mirror := r.mirror.set (g - r.base) m } else r }

/-- The surviving mirror of a granule becomes its primary (R546). -/
def promote (g m : Nat) (s : State) : State :=
  s.mapMem fun x =>
    { x with
      moved := (x.moved.filter fun y => y.1 != g) ++ [(g, m)]
      errs := (x.errs.filter fun e => e.1 / 480 != g) ++ x.errsMirror.filter fun e => e.1 / 480 == g
      errsMirror := x.errsMirror.filter fun e => e.1 / 480 != g
      badTags := x.badTags.filter fun (t : Nat × Nat) => 4 * (t.2 / 16) + t.1 / 2 != g }

/-- One twin granule re-mirrored, as far as the pool has a granule for it (R546). -/
def remirrorOne (g : Nat) (s : State) : State :=
  let given := fun (s : State) => s.mapMem fun x => { x with remirror := x.remirror.filter (· != g) }
  match survivors s g with
  | [d] =>
    let s := match s.mirrorOf g with
      | some m => if s.lostGranule g then setMirror g 131072 (promote g m s) else setMirror g 131072 s
      | none => s
    match newMirror s d with
    | none => s
    | some n =>
      given (if fixedGranule ≤ g then s.mapMem fun x => { x with fixedCopies := x.fixedCopies ++ [(g, n)] } else setMirror g n s)
  | _ => given s

/-- The granules that wait for re-mirroring taken in order (R546). -/
def remirrorAll (s : State) : State := s.mem.remirror.foldl (fun s g => remirrorOne g s) s

/-- Granules are left with one copy: the shortfall of R546 lasts. -/
def oneCopyShort (s : State) : Bool := s.ledger.shortfalls.any fun x => x.1 == 7 && x.2.1 == 0xFFFF

/-- A region's granules, and its mirrors, return to the pool (R121); those that re-mirroring lacks it takes first (R546). -/
def freeRegion (base : Nat) (s : State) : State :=
  match s.mem.regions.find? fun r => r.base == base with
  | none => s
  | some r =>
    let inside := fun (g : Nat) => decide (r.base ≤ g) && decide (g < r.base + r.count)
    let s := s.mapMem fun m =>
      { m with regions := m.regions.filter fun r => r.base != base
               moved := m.moved.filter fun x => !inside x.1, remirror := m.remirror.filter fun g => !inside g }
    if oneCopyShort s then remirrorAll s else s

/-- The host region that holds a byte range whole. -/
def hostRegion (s : State) (a n : Nat) : Option Region :=
  (s.regionOf (granuleOf a)).filter fun r => decide (r.kind = .host) && decide (a + n ≤ (r.base + r.count) * 61440)

end Sys2Proof.Machine
end

