-- ==== Sys2Proof/Machine/Formats.lean ====
section
/-! DEFINITION. Pixel formats, the bytes that a surface spans, the lossless tile code, and the internal sample format S3.12
(files 03 and 05). -/
namespace Sys2Proof.Machine

open Sys2Proof

/-! ### Formats (R102) -/

/-- Codes of Table 3-3. -/
def formats : List Nat := [0x01, 0x02, 0x03, 0x04, 0x05, 0x10, 0x11, 0x12, 0x13, 0x20, 0x21]
/-- 32-bit RGB, which may be compressed. -/
def fmtRgb32 (f : Nat) : Bool := f == 1 || f == 2 || f == 3
/-- RGB formats. -/
def fmtRgb (f : Nat) : Bool := decide (1 ≤ f) && decide (f ≤ 5)
/-- YCbCr formats. -/
def fmtYcc (f : Nat) : Bool := decide (0x10 ≤ f) && decide (f ≤ 0x13)
/-- Two planes. -/
def fmtPlanar (f : Nat) : Bool := f == 0x10 || f == 0x11 || f == 0x13
/-- Chroma halved in both directions. -/
def fmt420 (f : Nat) : Bool := f == 0x10 || f == 0x11
/-- Source formats of a layer. -/
def fmtLayer (f : Nat) : Bool := fmtRgb f || fmtYcc f
/-- Formats with an alpha component (R170, R338). -/
def fmtAlpha (f : Nat) : Bool := f == 1 || f == 3 || f == 5 || f == 0x21
/-- Bits per pixel (Table 3-3). -/
def fmtBpp (f : Nat) : Nat :=
  if f = 4 ∨ f = 0x12 then 16 else if f = 5 then 64 else if f = 0x10 then 12 else if f = 0x11 then 24
  else if f = 0x20 then 1 else if f = 0x21 then 8 else 32
/-- Multiples of width and height (Table 3-4). -/
def fmtMul (f : Nat) : Nat × Nat := (if fmtYcc f then 2 else 1, if fmt420 f then 2 else 1)

/-- Bytes of `w` pixels of a line of plane 0. -/
def lineBytes (f w : Nat) : Nat :=
  if fmtRgb32 f then 4 * w else if f = 5 then 8 * w else if f = 0x10 ∨ f = 0x21 then w
  else if f = 0x20 then ceilDiv w 8 else 2 * w
/-- Bytes of the chroma of `w` pixels of a line of plane 1. -/
def line1Bytes (f w : Nat) : Nat := if f = 0x10 then w else 2 * w
/-- Lines of plane 1. -/
def lines1 (f h : Nat) : Nat := if fmt420 f then (h + 1) / 2 else h
/-- Tile columns and rows. -/
def tileCols (w : Nat) : Nat := ceilDiv w 64
/-- Tile rows. -/
def tileRows (h : Nat) : Nat := ceilDiv h 16

/-- Byte ranges (address, length) that a described surface spans: planes and metadata (R103). -/
def spansOf (base width height format : Nat) (compressed : Bool) (pitch0 pitch1 offset1 : Nat) : List (Nat × Nat) :=
  if compressed then [(base, pitch0 * tileRows height), (base + offset1, pitch1 * tileRows height)]
  else if fmtPlanar format then
    [(base, pitch0 * (height - 1) + lineBytes format width),
     (base + offset1, pitch1 * (lines1 format height - 1) + line1Bytes format width)]
  else [(base, pitch0 * (height - 1) + lineBytes format width)]

/-- Byte ranges of a surface. -/
def Surface.spans (x : Surface) : List (Nat × Nat) :=
  spansOf x.base x.width x.height x.format x.compressed x.pitch0 x.pitch1 x.offset1

/-- Whether two byte ranges meet. -/
def rangesMeet (a b : Nat × Nat) : Bool := decide (a.1 < b.1 + b.2) && decide (b.1 < a.1 + a.2)

/-- Whether a surface has a byte in a range. -/
def Surface.meets (x : Surface) (r : Nat × Nat) : Bool := x.spans.any (rangesMeet r)

/-- Handle of a surface (R110). -/
def Surface.handle (x : Surface) : Nat := x.index + x.gen * 2 ^ 16

/-! ### The lossless tile code (R105 to R108) -/

/-- Channels c0 to c3 of a pixel word: lowest bit and W (R106). -/
def tileChannels (f : Nat) : List (Nat × Nat) :=
  if f = 3 then [(0, 10), (10, 10), (20, 10), (30, 2)] else [(0, 8), (8, 8), (16, 8), (24, 8)]

/-- One channel of a sub-block from bit `pos` of a stream of `limit` bits: 32 values and the next position, none if
malformed (R106, R108). -/
def decodeChannel (stream limit w pos : Nat) : Option (List Nat × Nat) :=
  if limit < pos + w + 4 then none
  else
    let base := (stream >>> pos) % 2 ^ w
    let wid := (stream >>> (pos + w)) % 16
    let from_ := pos + w + 4
    if decide (w < wid) || decide (limit < from_ + 32 * wid) then none
    else
      let vals := (List.range 32).map fun k => base + (stream >>> (from_ + k * wid)) % 2 ^ wid
      if vals.any fun v => decide (2 ^ w ≤ v) then none else some (vals, from_ + 32 * wid)

/-- The channels of one sub-block: 32 pixel words. -/
def decodeBlock (stream limit : Nat) : List (Nat × Nat) → Nat → Option (List Nat × Nat)
  | [], pos => some (List.replicate 32 0, pos)
  | (lo, w) :: cs, pos =>
    match decodeChannel stream limit w pos with
    | none => none
    | some (vals, pos) =>
      (decodeBlock stream limit cs pos).map fun r => (List.zipWith (fun v acc => v * 2 ^ lo + acc) vals r.1, r.2)

/-- `n` sub-blocks in raster order. -/
def decodeBlocks (f stream limit : Nat) : Nat → Nat → Option (List (List Nat))
  | 0, _ => some []
  | n + 1, pos =>
    match decodeBlock stream limit (tileChannels f) pos with
    | none => none
    | some (px, pos) => (decodeBlocks f stream limit n pos).map (px :: ·)

/-- The pixel at index `i` (raster order in the tile) of the 32 sub-blocks. -/
def blockPixel (blocks : List (List Nat)) (i : Nat) : Nat :=
  let x := i % 64
  let y := i / 64
  (blocks.getD (y / 4 * 8 + x / 8) []).getD (y % 4 * 8 + x % 8) 0

/-- A tile from its metadata entry and its slot: 1,024 pixel words in raster order, none if malformed (R105 to R108). -/
def decodeTile (f : Nat) (entry slot : List Byte) : Option (List Nat) :=
  let mode := leNat (slice entry 0 1)
  let sectors := leNat (slice entry 1 1)
  let const := leNat (slice entry 4 4)
  if leNat (slice entry 2 2) != 0 then none
  else if mode = 0 then
    if sectors = 16 ∧ const = 0 then some ((List.range 1024).map fun i => leNat (slice slot (4 * i) 4)) else none
  else if mode = 1 then if sectors = 0 then some (List.replicate 1024 const) else none
  else if mode = 2 then
    if 1 ≤ sectors ∧ sectors ≤ 16 ∧ const = 0 then
      (decodeBlocks f (leNat (slice slot 0 (256 * sectors))) (2048 * sectors) 32 0).map fun bs =>
        (List.range 1024).map (blockPixel bs)
    else none
  else none

/-- Bits (value, width) of one channel of a sub-block as the encoder codes it (R106). -/
def encodeChannel (w : Nat) (vals : List Nat) : List (Nat × Nat) :=
  let lo := vals.foldl min (2 ^ w - 1)
  let hi := vals.foldl max 0
  let wid := if hi = lo then 0 else Nat.log2 (hi - lo) + 1
  (lo, w) :: (wid, 4) :: vals.map fun v => (v - lo, wid)

/-- Bits of one sub-block. -/
def encodeBlock (f : Nat) (px : List Nat) : List (Nat × Nat) :=
  ((tileChannels f).map fun c => encodeChannel c.2 (px.map fun p => (p >>> c.1) % 2 ^ c.2)).flatten

/-- Number and width of a run of (value, width) fields packed from bit 0 upwards. -/
def packBits : List (Nat × Nat) → Nat × Nat
  | [] => (0, 0)
  | (v, w) :: l => let (n, k) := packBits l; (v + n * 2 ^ w, k + w)

/-- The metadata entry and slot bytes of a tile of 1,024 pixel words, as the module's encoders write it (R107). -/
def encodeTile (f : Nat) (px : List Nat) : List Byte × List Byte :=
  let first := px.headD 0
  if px.all (· == first) then (leBytes 1 1 ++ leBytes 3 0 ++ leBytes 4 first, [])
  else
    let blocks := (List.range 32).map fun b =>
      encodeBlock f ((List.range 32).map fun k => px.getD ((b / 8 * 4 + k / 8) * 64 + b % 8 * 8 + k % 8) 0)
    let (n, bits) := packBits blocks.flatten
    let sectors := ceilDiv bits 2048
    if 15 < sectors then (leBytes 1 0 ++ leBytes 1 16 ++ leBytes 6 0, (px.map (leBytes 4)).flatten)
    else (leBytes 1 2 ++ leBytes 1 sectors ++ leBytes 6 0, leBytes (256 * sectors) n)

/-! ### Samples (R168, R169) -/

/-- E(v, n): an unsigned n-bit sample as S3.12 (R168). -/
def expand (v n : Nat) : Int := (((v * 8192 + (2 ^ n - 1)) / (2 * (2 ^ n - 1)) : Nat) : Int)

/-- A value held to a range. -/
def clampI (lo hi v : Int) : Int := max lo (min hi v)

/-- a / 2^k rounded to the nearest integer, ties to even. -/
def roundShiftEven (a k : Nat) : Nat :=
  let q := a >>> k
  let r := a % 2 ^ k
  if k = 0 then a
  else if 2 ^ (k - 1) < r ∨ (r = 2 ^ (k - 1) ∧ q % 2 = 1) then q + 1 else q

/-- A binary16 sample as S3.12: nearest multiple of 2^−12, ties to even, clamped; a NaN is 0 (R168). -/
def half16 (h : Nat) : Int :=
  let e := (h >>> 10) % 32
  let m := h % 1024
  let mag : Nat :=
    if e = 31 then (if m = 0 then 32768 else 0)
    else
      let sig := if e = 0 then m else m + 1024
      let k := max e 1  -- value = sig * 2^(k - 25); times 4096 is sig * 2^(k - 13)
      if 13 ≤ k then sig * 2 ^ (k - 13) else roundShiftEven sig (13 - k)
  clampI (-32768) 32767 (if h.testBit 15 then -(mag : Int) else (mag : Int))

/-- c / 4,096 as the nearest binary16, ties to even (R332); |c| is at most 32,768, so the result is finite. -/
def toHalf16 (c : Int) : Nat :=
  let a := c.natAbs
  let s := if c < 0 then 32768 else 0
  if a = 0 then s % 32768
  else
    let l := Nat.log2 a
    -- a * 2^-12: exponent l - 12, biased l + 3 (always a normal number)
    let sig := if l ≤ 10 then a * 2 ^ (10 - l) else roundShiftEven a (l - 10)
    s + ((l + 3) * 1024 + (sig - 1024))

/-- Components c0 to c3 of a pixel word of a packed RGB format, S3.12 (Table 5-2). -/
def expandRgb (f v : Nat) : List Int :=
  if f = 1 then [expand (field v 23 16) 8, expand (field v 15 8) 8, expand (field v 7 0) 8, expand (field v 31 24) 8]
  else if f = 2 then [expand (field v 23 16) 8, expand (field v 15 8) 8, expand (field v 7 0) 8, 4096]
  else if f = 3 then [expand (field v 29 20) 10, expand (field v 19 10) 10, expand (field v 9 0) 10, expand (field v 31 30) 2]
  else if f = 4 then [expand (field v 15 11) 5, expand (field v 10 5) 6, expand (field v 4 0) 5, 4096]
  else [half16 (field v 15 0), half16 (field v 31 16), half16 (field v 47 32), half16 (field v 63 48)]

/-- Bytes of a pixel word of a packed RGB format. -/
def rgbBytes (f : Nat) : Nat := if f = 4 then 2 else if f = 5 then 8 else 4

/-- A YCbCr sample of a format as S3.12: bytes as stored (Table 5-2). -/
def expandYcc (f : Nat) (l : List Byte) : Int :=
  if f = 0x10 ∨ f = 0x12 then expand (leNat l) 8 else expand (field (leNat l) 15 6) 10

/-! ### Addresses of samples -/

/-- Address and length of luma sample or pixel word (x, y) of plane 0. -/
def Surface.pixelAt (u : Surface) (x y : Nat) : Nat × Nat :=
  let line := u.base + y * u.pitch0
  if fmtRgb u.format then (line + rgbBytes u.format * x, rgbBytes u.format)
  else if u.format = 0x10 ∨ u.format = 0x21 then (line + x, 1)
  else if u.format = 0x12 then (line + 4 * (x / 2) + 2 * (x % 2), 1)
  else if u.format = 0x20 then (line + x / 8, 1)
  else (line + 2 * x, 2)

/-- Address and length of chroma sample m (0 Cb, 1 Cr) at chroma column cx, chroma line cy. -/
def Surface.chromaAt (u : Surface) (m cx cy : Nat) : Nat × Nat :=
  if u.format = 0x12 then (u.base + cy * u.pitch0 + 4 * cx + 1 + 2 * m, 1)
  else if u.format = 0x10 then (u.base + u.offset1 + cy * u.pitch1 + 2 * cx + m, 1)
  else (u.base + u.offset1 + cy * u.pitch1 + 4 * cx + 2 * m, 2)

/-- Address of tile (col, row)'s slot and of its metadata entry in a compressed surface (R105). -/
def Surface.tileAt (u : Surface) (col row : Nat) : Nat × Nat :=
  (u.base + row * u.pitch0 + 4096 * col, u.base + u.offset1 + row * u.pitch1 + 8 * col)

/-- Chroma at a luma position, from a reader of chroma samples (column, line), for a width and height in luma samples
(R169). -/
def chromaFull (f width height x y : Nat) (c : Nat → Nat → Int) : Int :=
  let cols := (width + 1) / 2
  let rows := if fmt420 f then (height + 1) / 2 else height
  let vert := fun (cx : Nat) =>
    if fmt420 f then
      let m := y / 2
      let other := if y % 2 = 0 then m - 1 else min (m + 1) (rows - 1)
      (3 * c cx m + c cx other + 2) / 4
    else c cx y
  if x % 2 = 0 then vert (x / 2)
  else (vert ((x - 1) / 2) + vert (min ((x + 1) / 2) (cols - 1)) + 1) / 2

end Sys2Proof.Machine
end

