-- ==== Sys2Proof/Machine/SurfOps.lean ====
section
/-! DEFINITION. The surface table: handles, attachments and the retire rule, the tiles of a surface as seals and reads see
them (file 03). -/
namespace Sys2Proof.Machine

open Sys2Proof

/-! ### Handles -/

/-- The surface at an index. -/
def State.surfaceAt (s : State) (i : Nat) : Option Surface := s.surfaces.find? fun x => x.index == i

/-- The surface that a current handle names (R110). -/
def State.surface (s : State) (h : Nat) : Option Surface :=
  (s.surfaceAt (h % 2 ^ 16)).filter fun x => x.live && x.gen == h / 2 ^ 16

/-- The state with the surface at an index changed. -/
def State.mapSurface (s : State) (i : Nat) (f : Surface → Surface) : State :=
  { s with surfaces := s.surfaces.map fun x => if x.index = i then f x else x }

/-- ST_BAD_HANDLE with the handle given (Table 2-14). -/
def badHandle (h : Nat) : Reply := .err stBadHandle h

/-- The surface's region is a twin, by its base (Table 3-9). -/
def surfaceTwin (s : State) (x : Surface) : Bool :=
  match s.regionOf (granuleOf x.base) with | some r => !r.mirror.isEmpty | none => false

/-- A byte range has a byte on a lost device without a mirror (R101); `n` granules from `g`. -/
def rangeLost (s : State) (g : Nat) : Nat → Bool
  | 0 => false
  | n + 1 => (s.lostGranule g && (s.mirrorOf g).isNone) || rangeLost s (g + 1) n

/-- A surface has a byte in a non-twin granule of a lost device (R101). -/
def surfaceLost (s : State) (x : Surface) : Bool :=
  s.mem.lost.any (·) && x.spans.any fun r => rangeLost s (granuleOf r.1) (granuleOf (r.1 + r.2 - 1) - granuleOf r.1 + 1)

/-! ### Attachments (R111, R112) -/

/-- A layer state has the surface as its source. -/
def LayerCfg.has (c : LayerCfg) (h : Nat) : Bool := c.hasSource && c.kind != 1 && c.handle == h

/-- A slot names a surface: in active state while the layer is enabled, in shadow state while a change is pending. -/
def Layer.names (l : Layer) (h : Nat) : Bool :=
  decide (l.state ≠ .unassigned) &&
    ((l.active.enable && l.active.has h) ||
      (l.pending != 0 && l.shadow.has h && (bit l.pending 0 || l.shadow.enable)))

/-- A change taken by a COMMIT names a surface. -/
def Change.names (c : Change) (h : Nat) : Bool := c.cfg.has h && (bit c.mask 0 || c.cfg.enable)

/-- Changes that commits of a pipe have taken and no lock has applied. -/
def Pipe.changes (p : Pipe) : List Change :=
  ((p.carried ++ p.shadow.toList.flatMap (·.groups) ++ p.waiting.flatMap (·.groups)).map (·.changes)).flatten

/-- Slots that name a surface, in the active state saved at QUIET entry too (R465), rising. -/
def layersNaming (s : State) (h : Nat) : List Nat :=
  let taken := s.pipes.flatMap fun p => ((p.changes.filter (·.names h)).map (·.slot))
  (List.range 64).filter fun n =>
    (s.layer n).names h || taken.contains n || s.recording.saved.any fun x => x.1 == n && x.2.has h

/-- Write-back settings of a pipe, in force and waiting for the lock. -/
def Pipe.writebacks (p : Pipe) : List Writeback :=
  p.wb :: p.atLock.filterMap fun a => match a with | .writeback _ w => some w | _ => none

/-- Camera rings and write-back taps to which a surface is bound (R291, R273). -/
def bindings (s : State) (h : Nat) : Nat :=
  (s.cams.filter fun c => c.handles.contains h).length +
    (s.pipes.filter fun p => p.writebacks.any fun w => w.enable && w.handles.contains h).length

/-- Jobs that have started and not completed. -/
def Engine.jobs (e : Engine) : List TwoDJob := e.cur.toList ++ e.queue

/-- Field of `n` bytes at offset `off` of an operation's payload (Table 11-4). -/
def TwoDOp.num (o : TwoDOp) (off n : Nat) : Nat := leNat (slice o.payload off n)

/-- Handles that a 2D operation names: destination and source (Table 11-4). -/
def TwoDOp.handles (o : TwoDOp) : Nat × Nat := (o.num 0x08 8, o.num 0x10 8)

/-- The engine compares source and destination: one surface, or aliases of one format, compression and pitch (R340). -/
def sameLayout (x y : Surface) : Bool := x.format == y.format && x.compressed == y.compressed && x.pitch0 == y.pitch0

/-- A 2D operation runs bottom-up (R340): its source and destination share memory in one layout, and the first destination
pixel of plane 0 lies above the first source pixel. -/
def TwoDOp.bottomUp (s : State) (o : TwoDOp) : Bool :=
  match s.surface o.handles.1, s.surface o.handles.2 with
  | some d, some u =>
    o.opcode != 0x0602 && sameLayout d u && (u.spans.any fun r => d.meets r) &&
      decide ((u.pixelAt (o.num 0x20 2) (o.num 0x22 2)).1 < (d.pixelAt (o.num 0x18 2) (o.num 0x1A 2)).1)
  | _, _ => false

/-- WATERMARK (Table 11-4). -/
def TwoDOp.watermark (o : TwoDOp) : Bool := bit (o.num 1 1) 0

/-- 2D jobs in flight that name a surface, or that write it. -/
def jobsNaming (s : State) (h : Nat) (writing : Bool) : Nat :=
  (s.engines.map fun e => (e.jobs.filter fun j =>
    j.ops.any fun o => o.handles.1 == h || (!writing && o.handles.2 == h && h != 0)).length).sum

/-- Progress of a watermark job on a surface that has begun and not completed, none without one (R344). -/
def jobProgress (s : State) (h : Nat) : Option Nat :=
  (s.engines.flatMap fun e => e.cur.toList).findSome? fun j =>
    match j.ops[j.cur]? with
    | some o => if o.watermark && o.handles.1 == h && !j.bottomUp then some (o.num 0x1A 2 + j.landed) else none
    | none => none

/-- A bottom-up job that has started and not completed writes the surface (R343). -/
def bottomUpWrites (s : State) (h : Nat) : Bool :=
  s.engines.any fun e => e.jobs.any fun j => j.ops.any fun o => o.handles.1 == h && o.bottomUp s

/-- Device range of a DMA barge (Table 3-8). -/
def DmaJob.range (d : DmaJob) : Nat × Nat := (d.barge.pay 8 8, d.barge.pay 16 4)

/-- DMA barges in flight whose range meets a surface, or that write it. -/
def dmasNaming (s : State) (x : Surface) (writing : Bool) : Nat :=
  (s.dmas.filter fun d => x.meets d.range && (!writing || d.upload)).length

/-- Jobs and transfers in flight that name a surface, or that write it. -/
def transfers (s : State) (x : Surface) (writing : Bool) : Nat :=
  jobsNaming s x.handle writing + dmasNaming s x writing

/-- Layers and bindings of a surface (Table 3-9). -/
def attachments (s : State) (x : Surface) : Nat := (layersNaming s x.handle).length + bindings s x.handle

/-- One surface brought to the state of Table 3-6 that its attachments give: ATTACHED, RETIRING while an area is still to
be written, or REGISTERED, with EV_SURFACE_RETIRED unless only jobs and transfers attached it (R112, R113, R329). -/
def settleSurface (s : State) (x : Surface) : State :=
  if !x.live || decide (x.state = .lost) then s
  else
    let held := attachments s x
    if 0 < held + transfers s x false then
      s.mapSurface x.index fun x => { x with state := .attached, everLayer := x.everLayer || decide (0 < held) }
    else if !(x.areas.all fun a => a.tiles.isEmpty) then s.mapSurface x.index fun x => { x with state := .retiring }
    else if x.state = .registered then s
    else
      let s' := s.mapSurface x.index fun x =>
        { x with state := .registered, areas := [], everLayer := false
                 retireTime := if x.everLayer then s.time else x.retireTime
                 retireDue := x.everLayer && s.mode.contain }
      if x.everLayer && !s.mode.contain then raise 102 0x0201 (leBytes 8 x.handle) s' else s'

/-- Every surface brought to the state that its attachments give (R111 to R113). -/
def refreshSurfaces (s : State) : State := s.surfaces.foldl (fun t x => settleSurface t ((t.surfaceAt x.index).getD x)) s

/-- Retire events that fell due during CONTAIN are raised (R113). -/
def raiseRetired (s : State) : State :=
  s.surfaces.foldl (fun t x => if x.retireDue then
    raise 102 0x0201 (leBytes 8 x.handle) (t.mapSurface x.index fun x => { x with retireDue := false }) else t) s

/-- The basin has written (or held) a tile of a pipe in a frame: areas of retiring surfaces shrink (R112, R153). -/
def areaWritten (p tile frame : Nat) (s : State) : State :=
  { s with surfaces := s.surfaces.map fun x =>
      if x.areas.isEmpty then x
      else { x with areas := x.areas.map fun a =>
        if a.pipe = p ∧ a.frame ≤ frame then { a with tiles := a.tiles.filter (· != tile) } else a } }

/-- A pipe stopped by PIPE_DISABLE counts as having written its tiles (R112). -/
def areasOfPipeDone (p : Nat) (s : State) : State :=
  { s with surfaces := s.surfaces.map fun x => { x with areas := x.areas.filter fun a => a.pipe != p } }

/-- The content of the surfaces that have a byte in a range written is new (R108). -/
def contentWritten (ranges : List (Nat × Nat)) (s : State) : State :=
  { s with surfaces := s.surfaces.map fun x =>
      if x.live && !x.decodeTiles.isEmpty && (ranges.any fun r => x.meets r) then { x with decodeTiles := [] } else x }

/-! ### Seals (R115 to R118) -/

/-- Number of seal words of a surface: one for each source tile. -/
def Surface.tiles (x : Surface) : Nat := tileCols x.width * tileRows x.height

/-- Seal words in use (R115). -/
def sealUsed (s : State) : Nat := (s.surfaces.map fun x => if x.live then x.sealWords.length else 0).sum

/-- Runs (address, length) of a tile's bytes of an uncompressed surface in the order of R115. -/
def tileRuns (x : Surface) (t : Nat) : List (Nat × Nat) :=
  let col := t % tileCols x.width
  let row := t / tileCols x.width
  let w := min 64 (x.width - 64 * col)
  let h := min 16 (x.height - 16 * row)
  let plane0 := (List.range h).map fun i =>
    (x.base + (16 * row + i) * x.pitch0 + lineBytes x.format (64 * col), lineBytes x.format w)
  if fmtPlanar x.format then
    let first := if fmt420 x.format then 8 * row else 16 * row
    plane0 ++ (List.range (lines1 x.format h)).map fun i =>
      (x.base + x.offset1 + (first + i) * x.pitch1 + line1Bytes x.format (64 * col), line1Bytes x.format w)
  else plane0

/-- Pixel words inside the surface of a decoded tile, 4 bytes each, line by line (R115). -/
def insideBytes (x : Surface) (t : Nat) (px : List Nat) : List Byte :=
  let w := min 64 (x.width - 64 * (t % tileCols x.width))
  let h := min 16 (x.height - 16 * (t / tileCols x.width))
  ((List.range h).map fun y => ((List.range w).map fun i => leBytes 4 (px.getD (64 * y + i) 0)).flatten).flatten

/-- What a reader of a tile gets: its bytes in the order of a seal word, or why it gets none. -/
inductive TileRead where
  | good (bytes : List Byte)
  | malformed
  | unreadable (words : List Nat)
  deriving DecidableEq, Repr, Inhabited

/-- Runs read one after another by a client: bytes, unreadable codewords, and the state. -/
def readRuns (client response : Nat) : List (Nat × Nat) → State → List (Option Byte) × List Nat × State
  | [], s => ([], [], s)
  | (a, n) :: l, s =>
    let (x, bad, s) := devRead client response a n s
    let (y, bad', s) := readRuns client response l s
    (x ++ y, bad ++ bad', s)

/-- A tile of a surface read by a client (R108, R115, R119). -/
def readTile (client response : Nat) (x : Surface) (t : Nat) (s : State) : TileRead × State :=
  if x.compressed then
    let (slot, ent) := x.tileAt (t % tileCols x.width) (t / tileCols x.width)
    let (e, bad, s) := devRead client response ent 8 s
    if !bad.isEmpty then (.unreadable bad, s)
    else
      let entry := e.map fun o => o.getD 0
      let mode := leNat (slice entry 0 1)
      let n := if mode = 0 then 4096 else if mode = 2 then 256 * min 16 (leNat (slice entry 1 1)) else 0
      let (d, bad, s) := devRead client response slot n s
      if !bad.isEmpty then (.unreadable bad, s)
      else match decodeTile x.format entry (padTo 4096 (d.map fun o => o.getD 0)) with
        | some px => (.good (insideBytes x t px), s)
        | none => (.malformed, s)
  else
    let (l, bad, s) := readRuns client response (tileRuns x t) s
    if bad.isEmpty then (.good (l.map fun o => o.getD 0), s) else (.unreadable bad, s)

end Sys2Proof.Machine
end

