-- ==== Sys2Proof/Machine/Scaler.lean ====
section
/-! DEFINITION. The scaler's arithmetic: positions, windows and coefficients; the source line that a destination line needs
(file 05), and the times of pipes that rest on it (files 07, 08 and 09). -/
namespace Sys2Proof.Machine

open Sys2Proof

/-! ### Geometry of a layer (R178 to R183) -/

/-- H_d: lines of the decimated source (R181). -/
def LayerCfg.hd (c : LayerCfg) : Nat := ceilDiv c.srcH c.decimate
/-- The vertical direction is bypassed (R178). -/
def LayerCfg.bypassV (c : LayerCfg) : Bool := c.srcH == c.dstH && c.decimate == 1
/-- The horizontal direction is bypassed (R178). -/
def LayerCfg.bypassH (c : LayerCfg) : Bool := c.srcW == c.dstW
/-- The kernel: 0 CUBIC, 1 LINEAR, 2 NEAREST (Table 5-3). -/
def LayerCfg.kernel (c : LayerCfg) : Nat := c.filter % 4

/-- step of a filtered direction (R182). -/
def scaleStep (src dst : Nat) : Nat := (src * 2 ^ 20 + dst / 2) / dst
/-- p(u) (R182). -/
def scalePos (src dst u : Nat) : Int := ((u * scaleStep src dst + scaleStep src dst / 2 : Nat) : Int) - 2 ^ 19
/-- Phase of destination offset u, 0 to 63 (R182). -/
def scalePhase (src dst u : Nat) : Nat := ((scalePos src dst u) % 2 ^ 20).toNat / 2 ^ 14

/-- An index held to 0 to n − 1 (R179). -/
def clampIx (n : Nat) (i : Int) : Nat := min (n - 1) i.toNat

/-- Source indexes that the window of destination offset u reads, tap by tap (R183). -/
def scaleWindow (kernel taps src dst u : Nat) : List Nat :=
  let p := scalePos src dst u
  if kernel = 2 then [clampIx src ((p + 2 ^ 19) / 2 ^ 20)]
  else (List.range taps).map fun (j : Nat) => clampIx src (p / 2 ^ 20 - (((taps - 1) / 2 : Nat) : Int) + (j : Int))

/-! ### Coefficients (R184), over a common denominator -/

/-- CUBIC's kernel at |x| = n / d, times 2 d³. -/
def cubicNum (n d : Nat) : Int :=
  let n : Int := n
  let d : Int := d
  if n ≤ d then 3 * n ^ 3 - 5 * n ^ 2 * d + 2 * d ^ 3
  else if n < 2 * d then -(n ^ 3) + 5 * n ^ 2 * d - 8 * n * d ^ 2 + 4 * d ^ 3
  else 0

/-- raw_j, times a factor that all taps of one phase share. -/
def rawCoeff (kernel taps ph j : Nat) : Int :=
  let dist := ((64 * (j : Int)) - 64 * (((taps - 1) / 2 : Nat) : Int) - (ph : Int)).natAbs
  if kernel = 0 then cubicNum (4 * dist) (64 * taps)
  else max 0 ((64 * taps : Nat) - ((2 * dist : Nat) : Int))

/-- The index of the first largest value. -/
def argMax (l : List Int) : Nat :=
  (l.zipIdx.foldl (fun (acc : Int × Nat) x => if acc.1 < x.1 then x else acc) (l.headD 0, 0)).2

/-- c_0 to c_(T−1) of a phase (R184): they sum to 1,024. -/
def coefficients (kernel taps ph : Nat) : List Int :=
  if kernel = 2 then [1024]
  else
    let raw := (List.range taps).map (rawCoeff kernel taps ph)
    let s := raw.sum
    let c := raw.map fun r => (2 * 1024 * r + s) / (2 * s)
    c.modify (argMax c) (· + (1024 - c.sum))

/-! ### The line that a destination line needs (R176) -/

/-- L_need for destination offset y' of a layer: source line of the surface or stream. -/
def LayerCfg.needAt (c : LayerCfg) (y' : Nat) : Nat :=
  if c.bypassV then c.srcY + y'
  else c.srcY + c.decimate * ((scaleWindow c.kernel c.tapsV c.hd c.dstH y').foldl max 0)

/-- Destination lines of a layer on a pipe of `h` active lines: first and last, none if it has none there. -/
def LayerCfg.dstLines (c : LayerCfg) (h : Nat) : Option (Nat × Nat) :=
  let y0 := max 0 c.dstY
  let y1 := min ((h : Int) - 1) (c.dstY + c.dstH - 1)
  if y1 < y0 then none else some (y0.toNat, y1.toNat)

/-! ### Times of a pipe, exact, in nanoseconds times PIXCLK -/

/-- Links of a pipe, rising half. -/
def PipeCfg.linkList (c : PipeCfg) : List Nat := if c.links = 0 then [] else if c.links = 1 then [c.link0] else [c.link0, c.link1]
/-- W_l (R242). -/
def PipeCfg.wl (c : PipeCfg) : Nat := if c.links = 2 then c.hActive / 2 else c.hActive
/-- H_T (R243). -/
def PipeCfg.ht (c : PipeCfg) : Nat := c.wl + c.hFp + c.hSync + c.hBp
/-- V_T (R243). -/
def PipeCfg.vt (c : PipeCfg) : Nat := c.vActive + c.vFp + c.vSync + c.vBp
/-- Halves of a pipe: lane segments. -/
def PipeCfg.halfCount (c : PipeCfg) : Nat := if c.links = 2 then 2 else 1
/-- Line period, ns × PIXCLK. -/
def PipeCfg.lineX (c : PipeCfg) : Nat := c.ht * 1000000000
/-- T_c in ns (Table 7-3). -/
def PipeCfg.tc (c : PipeCfg) : Nat := ceilDiv c.wl 2 + 2048

/-- phi_min, ns × PIXCLK, of a camera layer on a pipe (R257, R290): the largest over its destination lines, 5 µs added. -/
def phiMinX (c : PipeCfg) (l : LayerCfg) (lineNs : Nat) : Int :=
  match l.dstLines c.vActive with
  | none => 5000 * (c.pixclk : Int)
  | some (y0, y1) =>
    let term := fun (y : Nat) =>
      (((l.needAt (((y : Int) - l.dstY).toNat) + 1) * lineNs * c.pixclk : Nat) : Int) - (y * c.lineX : Nat)
    let m := (List.range (y1 - y0)).foldl (fun acc k => max acc (term (y0 + 1 + k))) (term y0)
    m + 5000 * (c.pixclk : Int)

/-- The last destination line of a layer on a pipe (R260, R293). -/
def yLast (c : PipeCfg) (l : LayerCfg) : Nat := match l.dstLines c.vActive with | some (_, y) => y | none => 0

/-- Ceiling of an integer quotient with a positive divisor. -/
def ceilDivI (a : Int) (b : Nat) : Int := -((-a) / (b : Int))

/-- TOW_PHASE in ns (R257). -/
def towPhase (c : PipeCfg) (l : LayerCfg) (lineNs guardUs : Nat) : Nat :=
  (ceilDivI (phiMinX c l lineNs + 2 * c.lineX + 1000 * guardUs * c.pixclk) c.pixclk).toNat

/-- L_max of a tow in µs, rounded up (R260, R319). -/
def towLatency (c : PipeCfg) (l : LayerCfg) (lineNs guardUs : Nat) : Nat :=
  ceilDiv (towPhase c l lineNs guardUs * c.pixclk + 2 * c.lineX + (c.lead + yLast c l) * c.lineX + c.wl * 1000000000)
    (c.pixclk * 1000)

/-- L_max of a contract in µs, rounded up (R293, R319). -/
def contractLatency (c : PipeCfg) (l : LayerCfg) (lineNs : Nat) : Nat :=
  (ceilDivI ((c.vt * c.lineX : Nat) + phiMinX c l lineNs + ((c.lead + yLast c l) * c.lineX : Nat) +
    (c.wl * 1000000000 : Nat)) (c.pixclk * 1000)).toNat

/-- K × line period is at least the takeover margin M (R236). -/
def leadCovers (c : PipeCfg) : Bool :=
  decide ((200000 + 3 * c.tc) * c.pixclk + 1280 * 1000000000 ≤ c.lead * c.lineX)

end Sys2Proof.Machine
end

