-- ==== Sys2Proof/Machine/Surfaces.lean ====
section
/-! DEFINITION. Opcodes of family 0x02, the end of a DMA transfer and of a seal computation (file 03). -/
namespace Sys2Proof.Machine

open Sys2Proof

/-- ST_NO_RESOURCE with a resource code and an amount free (Table 2-14). -/
def noResource (code amount : Nat) : Reply := .err stNoResource (code + amount * 2 ^ 16)

/-! ### Regions -/

/-- Granules that MEM_ALLOC takes; R120. -/
def allocGranules (b : Barge) : Nat := ceilDiv (b.pay 0 8) 61440

/-- Checks of MEM_ALLOC; R97, R120. -/
def memAllocCheck (b : Barge) (s : State) : Option Reply :=
  firstFail [ lenIs b 16, reservedBits b 8 0xFE, reservedBytes b 9 7,
    fieldIf b 0 8 (b.pay 0 8 = 0 || decide (7877652480 < b.pay 0 8)),
    failIf (decide (4096 ≤ s.mem.regions.length)) (noResource 0x0002 0),
    failIf (placeRegion (allocGranules b) (bit (b.pay 8 1) 0) .host s).isNone (noResource 0x0001 (longestRun s)) ]

/-- Effect of MEM_ALLOC; R100, R120. -/
def memAllocApply (b : Barge) (s : State) : State :=
  match placeRegion (allocGranules b) (bit (b.pay 8 1) 0) .host s with
  | some (r, t) => complete b (.ok (r.base * 61440)) t
  | none => complete b (noResource 0x0001 (longestRun s)) s

/-- MEM_ALLOC; R120. -/
def execMemAlloc (b : Barge) (s : State) : Out := barge memAllocCheck memAllocApply b s

/-- The host region whose base address is `a`; R121. -/
def hostRegionAt (s : State) (a : Nat) : Option Region :=
  s.mem.regions.find? fun r => decide (r.kind = .host) && decide (r.base * 61440 = a)

/-- Registered surfaces with BASE in a region; R121. -/
def surfacesIn (s : State) (r : Region) : Nat :=
  (s.surfaces.filter fun x => x.live && decide (r.base ≤ granuleOf x.base) && decide (granuleOf x.base < r.base + r.count)).length

/-- Checks of MEM_FREE; R121. -/
def memFreeCheck (b : Barge) (s : State) : Option Reply :=
  firstFail [ lenIs b 8,
    match hostRegionAt s (b.pay 0 8) with
    | none => some (badField b 0 8)
    | some r => failIf (decide (0 < surfacesIn s r)) (.err stBusy (surfacesIn s r)) ]

/-- Effect of MEM_FREE; R121. -/
def memFreeApply (b : Barge) (s : State) : State := complete b .ok (freeRegion (b.pay 0 8 / 61440) s)

/-! ### Surfaces -/

/-- The surface that a SURFACE_REGISTER payload describes; Table 3-7. -/
def describedSurface (b : Barge) : Surface :=
  { base := b.pay 0 8, width := b.pay 8 2, height := b.pay 0x0A 2, format := b.pay 0x0C 1, compressed := bit (b.pay 0x0D 1) 0
    pitch0 := b.pay 0x10 4, pitch1 := b.pay 0x14 4, offset1 := b.pay 0x18 8, live := true }

/-- BASE is aligned as Table 3-4 requires. -/
def baseAligned (x : Surface) : Bool :=
  x.base % (if x.compressed then 4096 else if x.format = 0x20 ∨ x.format = 0x21 then 64 else 256) == 0

/-- PITCH0 is as Table 3-4 requires. -/
def pitch0Good (x : Surface) : Bool :=
  if x.compressed then x.pitch0 == 4096 * tileCols x.width
  else x.pitch0 % 64 == 0 && decide (lineBytes x.format x.width ≤ x.pitch0)

/-- PITCH1 is as Table 3-4 requires. -/
def pitch1Good (x : Surface) : Bool :=
  if x.compressed then x.pitch1 == 64 * ceilDiv (8 * tileCols x.width) 64
  else if fmtPlanar x.format then x.pitch1 % 64 == 0 && decide (line1Bytes x.format x.width ≤ x.pitch1)
  else x.pitch1 == 0

/-- OFFSET1 is as Table 3-4 requires. -/
def offset1Good (x : Surface) : Bool :=
  if x.compressed then x.offset1 % 256 == 0 && decide (x.pitch0 * tileRows x.height ≤ x.offset1)
  else if fmtPlanar x.format then x.offset1 % 256 == 0 && decide (x.pitch0 * x.height ≤ x.offset1)
  else x.offset1 == 0

/-- A dimension is 1 to 16,384 and a multiple of `m`. -/
def sizeGood (n m : Nat) : Bool := decide (1 ≤ n) && decide (n ≤ 16384) && n % m == 0

/-- Every byte of the surface lies in the host region that contains BASE; R103. -/
def insideRegion (s : State) (x : Surface) : Bool :=
  match hostRegion s x.base 1 with
  | none => false
  | some r => x.spans.all fun p => decide (p.1 + p.2 ≤ (r.base + r.count) * 61440)

/-- Checks of SURFACE_REGISTER, in the order of the payload, the region last; R103, R122. -/
def surfaceRegisterCheck (b : Barge) (s : State) : Option Reply :=
  let x := describedSurface b
  firstFail [ lenIs b 32, reservedBits b 0x0D 0xFE, reservedBytes b 0x0E 2,
    fieldIf b 0x0C 1 (!formats.contains x.format),
    fieldIf b 0x0D 1 (x.compressed && !fmtRgb32 x.format),
    fieldIf b 0 8 (!baseAligned x),
    fieldIf b 8 2 (!sizeGood x.width (fmtMul x.format).1),
    fieldIf b 0x0A 2 (!sizeGood x.height (fmtMul x.format).2),
    fieldIf b 0x10 4 (!pitch0Good x), fieldIf b 0x14 4 (!pitch1Good x), fieldIf b 0x18 8 (!offset1Good x),
    fieldIf b 0 8 (!insideRegion s x),
    failIf (decide (16384 ≤ (s.surfaces.filter (·.live)).length)) (noResource 0x0003 0) ]

/-- The lowest index that no surface uses (log 14). -/
def freeIndex : Nat → List Surface → Nat
  | n, [] => n
  | n, x :: l => if n < x.index then n else if x.live then freeIndex (x.index + 1) l else x.index

/-- A surface in the table by rising index. -/
def insertSurface (x : Surface) : List Surface → List Surface
  | [] => [x]
  | y :: l => if x.index < y.index then x :: y :: l else if x.index = y.index then x :: l else y :: insertSurface x l

/-- Effect of SURFACE_REGISTER; R110, R122. The generation of an index starts at 1 and rises with each reuse. -/
def surfaceRegisterApply (b : Barge) (s : State) : State :=
  let i := freeIndex 0 s.surfaces
  let gen := match s.surfaceAt i with | some y => y.gen | none => 1
  let x := { describedSurface b with index := i, gen }
  let x := if surfaceLost s x then { x with state := .lost } else x
  complete b (.ok x.handle) { s with surfaces := insertSurface x s.surfaces }

/-- SURFACE_REGISTER; R122. -/
def execSurfaceRegister (b : Barge) (s : State) : Out := barge surfaceRegisterCheck surfaceRegisterApply b s

/-- DETAIL of a busy SURFACE_FREE; R123. -/
def freeBusy (s : State) (x : Surface) : Nat :=
  (attachments s x + transfers s x false) % 2 ^ 16 + b2n (x.state = .retiring) * 2 ^ 16 +
    b2n (0 < transfers s x false) * 2 ^ 17

/-- Checks of SURFACE_FREE; R123. -/
def surfaceFreeCheck (b : Barge) (s : State) : Option Reply :=
  firstFail [ lenIs b 8,
    match s.surface (b.pay 0 8) with
    | none => some (badHandle (b.pay 0 8))
    | some x =>
      failIf (decide (x.state = .attached) || decide (x.state = .retiring) ||
        decide (0 < attachments s x + transfers s x false)) (.err stBusy (freeBusy s x)) ]

/-- Effect of SURFACE_FREE: the seal words go and the generation advances; R110, R123. -/
def surfaceFreeApply (b : Barge) (s : State) : State :=
  complete b .ok (s.mapSurface (b.pay 0 2) fun x => { index := x.index, gen := (x.gen + 1) % 2 ^ 32 })

/-- SURFACE_FREE; R123. -/
def execSurfaceFree (b : Barge) (s : State) : Out := barge surfaceFreeCheck surfaceFreeApply b s

/-! ### DMA (R124) -/

/-- The first surface, by index, that refuses an upload into a range: attached other than by transfers, retiring or
sealed; R114, R116, R124. -/
def uploadBlocked (s : State) (r : Nat × Nat) : Option Surface :=
  s.surfaces.find? fun x => x.live && x.meets r &&
    (decide (0 < attachments s x + jobsNaming s x.handle false) || decide (x.state = .retiring) || x.sealed)

/-- Field checks of a DMA barge; R124. -/
def dmaFields (b : Barge) (s : State) : List (Option Reply) :=
  [ lenIs b 24, reservedBytes b 0x14 4,
    fieldIf b 0 8 (b.pay 0 8 % 4 != 0), fieldIf b 8 8 (b.pay 8 8 % 4 != 0),
    fieldIf b 16 4 (b.pay 16 4 < 4 || decide (268435456 < b.pay 16 4) || b.pay 16 4 % 4 != 0),
    fieldIf b 8 8 (hostRegion s (b.pay 8 8) (b.pay 16 4)).isNone ]

/-- Checks of DMA_UPLOAD; R124. -/
def dmaUploadCheck (b : Barge) (s : State) : Option Reply :=
  firstFail (dmaFields b s ++
    [ (uploadBlocked s (b.pay 8 8, b.pay 16 4)).map fun x => .err stBusy x.handle ])

/-- A DMA transfer begins: its surfaces are attached until it ends; R111, R124. -/
def dmaStart (upload : Bool) (b : Barge) (s : State) : State :=
  refreshSurfaces { s with dmas := s.dmas ++ [{ barge := b, upload }] }

/-- DMA_UPLOAD; R124. -/
def execDmaUpload (b : Barge) (s : State) : Out := barge dmaUploadCheck (dmaStart true) b s

/-- Checks of DMA_DOWNLOAD; R124. -/
def dmaDownloadCheck (b : Barge) (s : State) : Option Reply := firstFail (dmaFields b s)

/-- DMA_DOWNLOAD; R124. -/
def execDmaDownload (b : Barge) (s : State) : Out := barge dmaDownloadCheck (dmaStart false) b s

/-- The bytes of a transfer moved, and what its completion reports; R124. -/
def dmaMove (d : DmaJob) (s : State) : Reply × State :=
  let b := d.barge
  if d.upload then
    (.ok, contentWritten [(b.pay 8 8, b.pay 16 4)] (devWrite (b.pay 8 8) (s.hostBytes (b.pay 0 8) (b.pay 16 4)) s))
  else
    let (bytes, bad, s) := devRead 0x01 4 (b.pay 8 8) (b.pay 16 4) s
    (.ok (min bad.length (2 ^ 32 - 1)), s.hostWrite (b.pay 0 8) (bytes.map fun o => o.getD 0xFF))

/-- DMA_TRANSFER_COMPLETE: the transfer of that ring and SEQ; R124. -/
def execDmaTransferComplete (ring seq : Nat) (s : State) : Out :=
  .next (match s.dmas.find? fun d => d.barge.ring == ring && d.barge.seq == seq with
    | none => s
    | some d =>
      let (r, t) := dmaMove d s
      complete d.barge r (refreshSurfaces { t with dmas := t.dmas.filter fun e => !decide (e = d) }))

/-! ### Seals (R125) -/

/-- A surface is bound under R116: as a raced source, a camera ring or a write-back target. -/
def boundUnsealable (s : State) (x : Surface) : Bool :=
  decide (0 < bindings s x.handle) ||
    (layersNaming s x.handle).any fun n =>
      let l := s.layer n
      (l.active.kind == 2 && l.active.has x.handle) || (l.shadow.kind == 2 && l.shadow.has x.handle)

/-- State code of a surface (Table 3-6). -/
def SurfState.code : SurfState → Nat
  | .registered => 0 | .attached => 1 | .retiring => 2 | .lost => 3

/-- Field checks of SURFACE_SEAL; R125. -/
def sealFields (b : Barge) : List (Option Reply) := [ lenIs b 16, reservedBits b 8 0xFE, reservedBytes b 9 7 ]

/-- The surface is busy or in a state without seals; R125. -/
def sealObject (b : Barge) (s : State) : Option Reply :=
  match s.surface (b.pay 0 8) with
  | none => some (badHandle (b.pay 0 8))
  | some x =>
    firstFail [ failIf (decide (0 < transfers s x true)) (.err stBusy (transfers s x true)),
      failIf (decide (x.state = .lost) || boundUnsealable s x) (wrongState s x.state.code) ]

/-- Seal words that other surfaces hold or that seals in progress will hold. -/
def sealOthers (s : State) (i : Nat) : Nat :=
  (s.surfaces.map fun x => if x.index = i then 0
    else if s.seals.any fun j => j.index == x.index then max x.tiles x.sealWords.length
    else if x.live then x.sealWords.length else 0).sum

/-- Checks of SURFACE_SEAL without UNSEAL; R125. -/
def surfaceSealCheck (b : Barge) (s : State) : Option Reply :=
  firstFail (sealFields b ++ [ sealObject b s,
    match s.surface (b.pay 0 8) with
    | none => none
    | some x => failIf (decide (65536 < sealOthers s x.index + x.tiles)) (noResource 0x0004 (65536 - sealUsed s)) ])

/-- SURFACE_SEAL starts: its words are being computed; R125. -/
def surfaceSealApply (b : Barge) (s : State) : State :=
  { s with seals := s.seals ++ [{ barge := b, index := b.pay 0 2 }] }

/-- SURFACE_SEAL; R125. -/
def execSurfaceSeal (b : Barge) (s : State) : Out := barge surfaceSealCheck surfaceSealApply b s

/-- Checks of SURFACE_UNSEAL; R125. -/
def surfaceUnsealCheck (b : Barge) (s : State) : Option Reply := firstFail (sealFields b ++ [ sealObject b s ])

/-- Effect of SURFACE_UNSEAL; R125. -/
def surfaceUnsealApply (b : Barge) (s : State) : State :=
  complete b .ok (s.mapSurface (b.pay 0 2) fun x =>
    { x with sealed := false, sealBroken := false, sealWords := [], sealStoreBad := [], failedTiles := [] })

/-- SURFACE_UNSEAL: SURFACE_SEAL with UNSEAL; R125. -/
def execSurfaceUnseal (b : Barge) (s : State) : Out := barge surfaceUnsealCheck surfaceUnsealApply b s

/-- Seal words of tiles `t`, `t + 1`, … (`n` of them), or the first malformed tile; the word of a tile that cannot be read
is a free value, as the manual states none (log 15). -/
def computeSeals (x : Surface) : Nat → Nat → State → (List Word32 ⊕ Nat) × State
  | _, 0, s => (.inl [], s)
  | t, n + 1, s =>
    match readTile 0x02 4 x t s with
    | (.malformed, s) => (.inr t, s)
    | (.good bytes, s) =>
      match computeSeals x (t + 1) n s with
      | (.inl l, s) => (.inl (BitVec.ofNat 32 (crc32c bytes) :: l), s)
      | r => r
    | (.unreadable _, s) =>
      let w := BitVec.ofNat 32 (Config.freeNat s.free)
      match computeSeals x (t + 1) n s.takeFree with
      | (.inl l, s) => (.inl (w :: l), s)
      | r => r

/-- SEAL_COMPUTE_COMPLETE: the seal of the barge of that ring and SEQ is taken, or refused for a malformed tile; R125. -/
def execSealComputeComplete (ring seq : Nat) (s : State) : Out :=
  .next (match s.seals.find? fun j => j.barge.ring == ring && j.barge.seq == seq with
    | none => s
    | some j =>
      let s := { s with seals := s.seals.filter fun k => !decide (k = j) }
      match s.surfaceAt j.index with
      | none => complete j.barge (badHandle (j.barge.pay 0 8)) s
      | some x =>
        if !x.live || x.handle != j.barge.pay 0 8 then complete j.barge (badHandle (j.barge.pay 0 8)) s
        else if x.state = .lost then complete j.barge (wrongState s 3) s
        else match computeSeals x 0 x.tiles s with
          | (.inr t, s) => complete j.barge (.err stBadField (0x40 + t * 2 ^ 32)) s
          | (.inl words, s) =>
            complete j.barge (.ok words.length) (s.mapSurface x.index fun x =>
              { x with sealed := true, sealBroken := false, sealWords := words, sealStoreBad := [], failedTiles := [] }))

/-! ### SURFACE_QUERY (R126) -/

/-- Report body of a surface; Table 3-9. -/
def surfaceBody (s : State) (x : Surface) : List Byte :=
  leBytes 1 x.state.code ++
    leBytes 1 (b2n x.compressed + 2 * b2n x.sealed + 4 * b2n x.sealBroken + 8 * b2n (surfaceTwin s x)) ++
    leBytes 2 (attachments s x) ++ leBytes 4 x.sealWords.length ++ leBytes 8 x.base ++
    leBytes 8 ((x.spans.map (·.2)).sum) ++ leBytes 4 x.failedTiles.length ++
    leBytes 4 ((s.pipes.map fun p => (p.holds.filter fun h => h.2 == x.index).length).sum) ++
    leBytes 8 x.retireTime ++ leBytes 8 0

/-- Granules of the variable private regions, both copies (Table 3-9). -/
def privateGranules (s : State) : Nat :=
  (s.mem.regions.map fun r => if r.kind = .host then 0 else r.count + r.mirror.length).sum

/-- Memory summary; Table 3-9, the fields marked (0). -/
def summaryBody (s : State) : List Byte :=
  leBytes 4 0 ++ leBytes 4 (65536 - sealUsed s) ++ leBytes 8 (freeGranules s) ++ leBytes 8 (longestRun s) ++
    leBytes 4 (privateGranules s) ++ leBytes 4 (32768 * (s.mem.lost.filter (·)).length) ++
    leBytes 8 (s.surfaces.filter (·.live)).length ++ leBytes 8 0

/-- Checks of SURFACE_QUERY; R126. -/
def surfaceQueryCheck (b : Barge) (s : State) : Option Reply :=
  firstFail [ lenIs b 8, failIf (b.pay 0 8 != 0 && (s.surface (b.pay 0 8)).isNone) (badHandle (b.pay 0 8)) ]

/-- Effect of SURFACE_QUERY; R126. -/
def surfaceQueryApply (b : Barge) (s : State) : State :=
  complete b { report := some (match s.surface (b.pay 0 8) with | some x => surfaceBody s x | none => summaryBody s) } s

/-- SURFACE_QUERY; R126. -/
def execSurfaceQuery (b : Barge) (s : State) : Out := barge surfaceQueryCheck surfaceQueryApply b s

end Sys2Proof.Machine
end

