-- ==== Sys2Proof/Machine/Admission.lean ====
section
/-! DEFINITION. The lock-keeper: costs of the objects that the state holds, the checks of Table 10-2, the verdict and its
report, and re-admission (file 10). The ledger is not stored apart: it is what the committed objects cost (R304). -/
namespace Sys2Proof.Machine

open Sys2Proof

/-! ### What is held -/

/-- Configuration whose costs a pipe holds: that of the change under way, else its own; none when UNCONFIGURED (R301). -/
def Pipe.admitted (p : Pipe) : Option PipeCfg :=
  if p.state = .unconfigured then none
  else
    let c := match p.retime, p.timingNext with | some r, _ => r.cfg | none, some c => c | none, none => p.cfg
    some (match p.leadNext with | some (_, k) => { c with lead := k } | none => c)

/-- Tow settings whose costs a pipe holds: the newest one that waits for the lock and enables, else the one in force
(R301, R304). -/
def Pipe.towHeld (p : Pipe) : Option TowPending :=
  match (p.atLock.reverse.filterMap fun a => match a with | .tow t => if t.enable then some t else none | _ => none).head? with
  | some t => some t
  | none => if p.tow.state = .off then none
    else some { enable := true, slot := p.tow.slot, cls := p.tow.cls, guardUs := p.tow.guardUs, boundUs := p.tow.boundUs }

/-- Write-back settings whose costs a pipe holds (R301). -/
def Pipe.wbHeld (p : Pipe) : Option Writeback :=
  (p.writebacks.reverse.filter (·.enable)).head?

/-- V_min of a pipe (R308). -/
def Pipe.vMin (p : Pipe) (c : PipeCfg) : Nat := if p.towHeld.isSome then c.vt - 4 else c.vt

/-- ceil(n × f_p / k) for a pipe (R307, R308). -/
def Pipe.atFrameRate (p : Pipe) (c : PipeCfg) (n k : Nat) : Nat := ceilDiv (n * c.pixclk) (c.ht * p.vMin c * k)

/-- Configured pipes with their admitted configurations. -/
def heldPipes (s : State) : List (Nat × Pipe × PipeCfg) :=
  s.pipes.zipIdx.filterMap fun x => x.1.admitted.map fun c => (x.2, x.1, c)

/-- Slots that a pipe holds: ASSIGNED or RELEASE_PENDING, with their numbers. -/
def slotsOf (s : State) (p : Nat) : List (Nat × Layer) :=
  (s.layers.zipIdx.filter fun x => decide (x.1.state ≠ .unassigned) && x.1.pipe == p).map fun x => (x.2, x.1)

/-- Declared streams with their inputs. -/
def heldCams (s : State) : List (Nat × Camera) :=
  (s.cams.zipIdx.filter fun x => decide (x.1.state ≠ .undeclared)).map fun x => (x.2, x.1)

/-- Recording streams with their numbers, those that wait for their first frame included. -/
def heldStreams (s : State) : List (Nat × RecStream) :=
  (s.recording.streams.zipIdx.filter fun x => x.1.live).map fun x => (x.2, x.1)

/-! ### Pipes, lanes and links -/

/-- Logical lanes that a pipe needs (R309). -/
def PipeCfg.lanesNeeded (c : PipeCfg) : Nat := max 1 c.links
/-- Frame size in pixels (R218). -/
def PipeCfg.frameSize (c : PipeCfg) : Nat := c.hActive * c.vActive + 1280 * c.links
/-- Basin units (R218). -/
def PipeCfg.units (c : PipeCfg) : Nat := ceilDiv c.frameSize 128
/-- DisplayPort or eDP link. -/
def PipeCfg.isDp (c : PipeCfg) : Bool := c.linkKind == 1 || c.linkKind == 2

/-- Payload per lane of a link rate code, kb/s (Table 8-5). -/
def ratePayload (code : Nat) : Nat :=
  match code with
  | 0x01 => 1296000 | 0x02 => 1728000 | 0x03 => 1944000 | 0x04 => 2160000 | 0x05 => 2592000 | 0x06 => 3456000
  | 0x07 => 4320000 | 0x08 => 6480000 | 0x09 => 9697000
  | 0x11 => 1600000 | 0x12 => 3200000 | 0x13 => 6400000 | 0x14 => 9600000
  | _ => 0

/-- Demand of each link, kb/s (R246). -/
def PipeCfg.linkDemand (c : PipeCfg) : Nat := ceilDiv (c.pixclk * (if c.dsc then c.dscBpp else 3 * c.bpc)) 1000
/-- Capacity of each link, kb/s (R246). -/
def PipeCfg.linkCapacity (c : PipeCfg) : Nat :=
  if c.dsc && decide (c.linkRate ≤ 0x08) then ceilDiv (c.laneCount * ratePayload c.linkRate * 976) 1000
  else c.laneCount * ratePayload c.linkRate

/-- Line slots of an envelope (R188). -/
def Envelope.lineSlots (e : Envelope) : Nat :=
  ceilDiv e.maxSrcW 4096 * (ceilDiv (e.tapsV * max 256 e.maxRv) 256 + 2)

/-- LARGEST_RV for an envelope with `free` slots on the lane (R190). -/
def Envelope.largestRv (e : Envelope) (free : Nat) : Nat :=
  let m := free / ceilDiv e.maxSrcW 4096 - 2
  if m < e.tapsV then 0 else min 0x0800 (m * 256 / e.tapsV)

/-- Line slots admitted on a logical lane (R188). -/
def laneSlots (s : State) (k : Nat) : Nat :=
  (s.pipes.zipIdx.map fun x =>
    if x.1.lanes.contains k then ((slotsOf s x.2).map fun l => l.2.env.lineSlots).sum else 0).sum

/-! ### Device memory (R312, R313) -/

/-- Bf: fetch of one layer per frame, bytes (R312). -/
def Envelope.fetch (e : Envelope) (paired : Bool) : Nat :=
  let pp := b2n paired
  let fLine := ceilDiv e.maxSrcH e.decimate * (64 * ceilDiv (e.maxSrcW * e.maxBpp) 512 + 128 * (1 + pp))
  let fTile := (ceilDiv e.maxSrcW 64 + 1 + pp) * (ceilDiv e.maxSrcH 16 + 1) * (if e.compressed then 4104 else 128 * e.maxBpp)
  if bit e.kinds 0 then max fLine fTile else fLine

/-- Bytes of a pixel of each stored plane-0 line, and of all planes, of a camera data type (R287). -/
def dtBytes (dt : Nat) : Nat × Nat := if dt = 0x24 then (4, 4) else if dt = 0x1F then (2, 4) else (2, 2)
/-- Stored line bytes (R287). -/
def CamDecl.lineBytes (d : CamDecl) : Nat := (dtBytes d.dt).2 * d.width
/-- Pitch of a pixel slot (R287). -/
def CamDecl.pitch (d : CamDecl) : Nat := 64 * ceilDiv ((dtBytes d.dt).1 * d.width) 64
/-- Bytes of a pixel slot (R287). -/
def CamDecl.slotBytes (d : CamDecl) : Nat := d.pitch * d.height * (if d.dt = 0x1F then 2 else 1)
/-- Stride of a pixel slot (R287). -/
def CamDecl.stride (d : CamDecl) : Nat := 4096 * ceilDiv d.slotBytes 4096
/-- R: slots reserved for the recording encoder (R288). -/
def CamDecl.recSlots (d : CamDecl) : Nat := (1000000000 + d.framePeriod / 2) / d.framePeriod
/-- Bytes before the pixel slots of a ring (R287). -/
def ringHeader (slots : Nat) : Nat := 4096 * ceilDiv (64 * slots) 4096 + 4096 * slots
/-- Granules of a ring of a number of slots, one copy (R287). -/
def CamDecl.ringGranules (d : CamDecl) (slots : Nat) : Nat := ceilDiv (ringHeader slots + slots * d.stride) 61440
/-- SLOTS admitted for a stream with a private ring (R288). -/
def Camera.slotsAdmitted (c : Camera) : Nat :=
  max c.slotsAsked (4 + if c.recorded then c.decl.recSlots else 0)

/-- ceil(bytes × r_c / 1,000): kB/s at the policed rate (R313). -/
def CamDecl.policed (d : CamDecl) (bytes : Nat) : Nat := ceilDiv (bytes * 8000000000) (7 * d.framePeriod * 1000)

/-- Ingest term of a stream (Table 10-3). -/
def Camera.ingest (c : Camera) : Nat :=
  if c.handles.isEmpty then (if c.decl.twin then 2 else 1) * c.decl.policed (c.decl.slotBytes + 4160)
  else c.decl.policed c.decl.slotBytes

/-- Frame bytes of a write-back format: every one stores 4 bytes a pixel (R213). -/
def wbFrameBytes (c : PipeCfg) : Nat := 4 * c.hActive * c.vActive

/-- Layer fetch terms (R312). -/
def fetchKbs (s : State) : Nat :=
  ((heldPipes s).map fun x => ((slotsOf s x.1).map fun l => x.2.1.atFrameRate x.2.2 (l.2.env.fetch (x.2.2.links == 2)) 1000).sum).sum

/-- Write-back terms (Table 10-3). -/
def wbKbs (s : State) : Nat :=
  ((heldPipes s).map fun x => match x.2.1.wbHeld with
    | some w => x.2.1.atFrameRate x.2.2 (wbFrameBytes x.2.2) (1000 * w.rateDiv)
    | none => 0).sum

/-- Display class, kB/s (R314). -/
def displayKbs (s : State) : Nat := fetchKbs s + ((heldCams s).map fun c => c.2.ingest).sum + wbKbs s

/-- Source read of a recording stream, kB/s (Table 10-3). -/
def sourceKbs (s : State) (r : RecStream) : Nat :=
  if r.kind = 0 then (s.cam r.source).decl.policed (s.cam r.source).decl.slotBytes
  else
    let p := s.pipe r.source
    match p.admitted, p.wbHeld with
    | some c, some w => p.atFrameRate c (wbFrameBytes c) (1000 * w.rateDiv)
    | _, _ => 0

/-- Recording terms: source reads and bitstreams (Table 10-3). -/
def recordKbs (s : State) : Nat :=
  ((heldStreams s).map fun x => sourceKbs s x.2 + ceilDiv (2 * x.2.br) 8000).sum

/-- Cost of a 2D reservation, kB/s (R348). -/
def Engine.cost (e : Engine) : Nat := ceilDiv (e.rate * (e.burst + 64)) e.burst

/-- 2D terms. -/
def twoDKbs (s : State) : Nat := (s.engines.map fun e => if e.rate = 0 then 0 else e.cost).sum
/-- Check-value terms. -/
def cvKbs (s : State) : Nat := (s.cv.map (·.rate)).sum

/-- Device-memory demand, kB/s (R313). -/
def memoryKbs (s : State) : Nat := displayKbs s + recordKbs s + twoDKbs s + cvKbs s + 10000000

/-- Basin traffic, kB/s (R311). -/
def basinKbs (s : State) : Nat := ((heldPipes s).map fun x => x.2.1.atFrameRate x.2.2 (12 * x.2.2.frameSize) 1000).sum

/-- Admitted pound quotas, cells (R316). -/
def poundCells (s : State) : Nat :=
  ((heldCams s).map fun c => 4 * ceilDiv c.2.decl.lineBytes 256).sum + 256 * (heldStreams s).length +
    16 * (s.cv.filter fun c => c.rate != 0).length

/-! ### Encoders (R317) -/

/-- Pixel rate of a recording stream, kpixel/s (R317). -/
def pixelRate (s : State) (r : RecStream) : Nat :=
  if r.kind = 0 then (s.cam r.source).decl.policed ((s.cam r.source).decl.width * (s.cam r.source).decl.height)
  else
    let p := s.pipe r.source
    match p.admitted, p.wbHeld with
    | some c, some w => p.atFrameRate c (c.hActive * c.vActive) (1000 * w.rateDiv)
    | _, _ => 0

/-- Streams in the order of placement: number, pixel rate (R317). -/
def encoderOrder (s : State) : List (Nat × Nat) :=
  let key := fun (r : RecStream) => if r.kind = 0 then r.source else 16 + r.source
  (((heldStreams s).map fun x => (x.1, pixelRate s x.2, key x.2)).inOrder fun a b =>
    decide (b.2.1 < a.2.1) || (decide (a.2.1 = b.2.1) && decide (a.2.2 ≤ b.2.2))).map fun x => (x.1, x.2.1)

/-- An encoder is out of service (R558). -/
def encoderOut (s : State) (e : Nat) : Bool := s.faults.encoderBad.getD e false

/-- Placement: each stream to the encoder with the lower load, encoder 0 on a tie: (stream, encoder) and the loads; with one
encoder out of service the other takes every stream (R317, R558). -/
def placeEncoders (s : State) : List (Nat × Nat) × Nat × Nat :=
  (encoderOrder s).foldl (fun acc x =>
    let (l, a, b) := acc
    if (a ≤ b && !encoderOut s 0) || encoderOut s 1 then (l ++ [(x.1, 0)], a + x.2, b) else (l ++ [(x.1, 1)], a, b + x.2)) ([], 0, 0)

/-! ### Power (R320) -/

/-- Base term in mW (Table 10-7, R307). -/
def basePower (tD : Int) : Nat := (9600 + f64Mul 6400 (f64Pow 2 (f64Div ((tD : Rat) - 125) 20))).ceil.toNat

/-- Layer-pixels per second (Table 10-7). -/
def layerPixels (s : State) : Nat :=
  ((heldPipes s).map fun x => x.2.1.atFrameRate x.2.2 (x.2.2.hActive * x.2.2.vActive) 1 * (slotsOf s x.1).length).sum

/-- Transmitter power of a pipe's links, mW (Table 10-7). -/
def linkPower (c : PipeCfg) : Nat :=
  c.links * (if c.isDp then
      c.laneCount * (if c.linkRate = 0x08 then 95 else if c.linkRate = 0x09 then 120 else 70) + (if c.dsc then 150 else 0)
    else if c.linkRate ≤ 0x12 then 350 else 500)

/-- Receiver power of a stream, mW (Table 10-7). -/
def receiverPower (i : Nat) (d : CamDecl) : Nat :=
  if i < 8 then (if d.gear ≤ 0x12 then 400 else 550) else 40 * d.phyLanes

/-- Module input power, mW (R320). -/
def powerMw (s : State) : Nat :=
  let enc := (placeEncoders s).1
  let terms :=
    [ basePower s.ledger.tD,
      450 * ((heldPipes s).map fun x => x.2.2.lanesNeeded).sum,
      ceilDiv (layerPixels s * 25) 1000000000,
      ceilDiv (memoryKbs s * 15) 1000000,
      ceilDiv (basinKbs s * 2) 1000000,
      ((heldPipes s).map fun x => linkPower x.2.2).sum,
      ((heldCams s).map fun c => receiverPower c.1 c.2.decl).sum,
      700 * ([0, 1].filter fun e => enc.any fun x => x.2 == e).length,
      (if (heldStreams s).isEmpty && s.recording.programme.isNone then 0 else 1200),
      ceilDiv (twoDKbs s * 20) 1000000,
      ceilDiv (cvKbs s * 5) 1000000 ]
  ceilDiv (terms.sum * 109) 100

/-! ### The checks (R306) -/

/-- Demand and limit of one object of a check. -/
structure Term where
  /-- Limiting object. -/
  obj : Nat := 0xFFFF
  /-- Demand. -/
  demand : Nat := 0
  /-- Limit. -/
  limit : Nat := 0
  deriving DecidableEq, Repr, Inhabited

/-- Owner code of a private region (Table 10-5). -/
def RegionKind.owner : RegionKind → Nat
  | .camera i => i
  | .writeback p => 0x10 + p
  | .recording _ => 0x20
  | _ => 0xFFFF

/-- Lanes that can be assigned (R323). -/
def laneLimit (s : State) : Nat := min 8 (9 - (s.lanes.bad.filter (·)).length)

/-- A contract takes the place of the one of its pipe and slot (R300). -/
def putContract (l : List Contract) (c : Contract) : List Contract :=
  if l.any fun d => d.pipe == c.pipe && d.slot == c.slot then
    l.map fun d => if d.pipe == c.pipe && d.slot == c.slot then c else d
  else l ++ [c]

/-- Contracts whose costs are held: those in force, and those that wait for their lock (R301, R304). -/
def heldContracts (s : State) : List Contract :=
  (s.pipes.flatMap fun p => p.atLock.filterMap fun a => match a with
    | .contract _ c => if c.cls = 0 then none else some c
    | _ => none).foldl putContract s.contracts

/-- Latency terms of tows with a bound and of contracts, in µs (R319). -/
def latencyTerms (s : State) : List Term :=
  let tows := (heldPipes s).filterMap fun x =>
    match x.2.1.towHeld with
    | some t => if t.boundUs = 0 then none
      else
        let l := (s.layer t.slot).active
        some { obj := x.1 * 256 + t.slot, limit := t.boundUs
               demand := towLatency x.2.2 l (s.cam l.input).decl.linePeriod t.guardUs : Term }
    | none => none
  let contracts := (heldContracts s).filterMap fun c =>
    (s.pipe c.pipe).admitted.map fun cfg =>
      let l := (s.layer c.slot).active
      ({ obj := c.pipe * 256 + c.slot, limit := c.boundUs
         demand := contractLatency cfg l (s.cam l.input).decl.linePeriod } : Term)
  (tows ++ contracts).inOrder fun a b => decide (a.obj ≤ b.obj)

/-- Limit of device-memory traffic: 160,000,000 kB/s, less after the loss of one device or two (R314, R553). -/
def memoryLimit (s : State) : Nat :=
  if !s.ledger.deviceLost then 160000000 else if 2 ≤ (s.mem.lost.filter (·)).length then 80000000 else 120000000

/-- The objects of check `c` (0 to 13, the order of Table 10-2). -/
def checkTerms (s : State) (c : Nat) : List Term :=
  match c with
  | 0 => [{ demand := ((heldPipes s).map fun x => x.2.2.lanesNeeded).sum, limit := laneLimit s }]
  | 1 => (heldPipes s).map fun x => { obj := x.1, demand := ceilDiv x.2.2.pixclk 1000, limit := 500000 }
  | 2 => ((heldPipes s).flatMap fun x => x.2.2.linkList.map fun l =>
      ({ obj := l, demand := x.2.2.linkDemand, limit := x.2.2.linkCapacity } : Term)).inOrder fun a b => decide (a.obj ≤ b.obj)
  | 3 => (List.range 8).map fun k => { obj := k, demand := laneSlots s k, limit := 48 }
  | 4 => [{ demand := ((heldPipes s).map fun x => x.2.2.units).sum, limit := 262144 }]
  | 5 => [{ demand := basinKbs s, limit := 307200000 }]
  | 6 => (s.mem.regions.filter fun r => decide (r.kind.owner ≠ 0xFFFF)).map fun r =>
      { obj := r.kind.owner, demand := r.count, limit := r.run }
  | 7 => [{ demand := memoryKbs s, limit := memoryLimit s }]
  | 8 => [{ demand := displayKbs s, limit := 120000000 }]
  | 9 => [{ demand := poundCells s, limit := 12288 }]
  | 10 => [{ obj := 0, demand := (placeEncoders s).2.1, limit := if encoderOut s 0 then 0 else 250000 },
      { obj := 1, demand := (placeEncoders s).2.2, limit := if encoderOut s 1 then 0 else 250000 }]
  | 11 => [{ demand := ((heldStreams s).map fun x => ceilDiv x.2.br 8000).sum, limit := (s.ledger.driveRate).getD 0 }]
  | 12 => latencyTerms s
  | _ => [{ demand := powerMw s, limit := 44000 }]

/-- A check that is made in a state: AR_MEMORY is made where regions are placed, AR_GDDR6_FAULT until a device is lost,
AR_DRIVE with a drive (R314, R318). -/
def checkMade (s : State) (c : Nat) : Bool :=
  if c = 6 then false else if c = 8 then !s.ledger.deviceLost else if c = 11 then s.ledger.driveRate.isSome else true

/-- Unit codes of Table 10-2. -/
def unitCodes : List Nat := [1, 2, 3, 4, 5, 6, 7, 6, 6, 8, 9, 6, 10, 11]

/-- Demand of an object of a check, 0 if it is not there. -/
def demandOf (l : List Term) (obj : Nat) : Nat := ((l.find? fun t => t.obj == obj).map (·.demand)).getD 0

/-- Why a region could not be placed (R315): owner, granules of the primary run, AVAILABLE, granules of both copies. -/
structure MemFail where
  /-- Owner code. -/
  obj : Nat := 0
  /-- DEMAND. -/
  demand : Nat := 0
  /-- AVAILABLE. -/
  available : Nat := 0
  /-- EXTRA0. -/
  both : Nat := 0
  deriving DecidableEq, Repr, Inhabited

/-- A private region placed for an admitting barge, or why it cannot be (R100, R315); while twin granules are left with one
copy every such region is refused (R546). -/
def placePrivate (n : Nat) (twin : Bool) (kind : RegionKind) (s : State) : (Region × State) ⊕ MemFail :=
  if oneCopyShort s then .inr { obj := kind.owner, demand := n, available := 0, both := if twin then 2 * n else n }
  else match placeRegion n twin kind s with
  | some r => .inl r
  | none =>
    match findRun s n with
    | none => .inr { obj := kind.owner, demand := n, available := longestRun s, both := if twin then 2 * n else n }
    | some g =>
      -- the primary run fits: mirrors short on each device (R315)
      let used := (g, n) :: usedRuns s
      let short := ((List.range 4).map fun d =>
        let need := ((List.range n).filter fun k => (g + k + 1) % 4 == d).length
        let free := ((freeGaps 0 (used.inOrder fun a b => decide (a.1 ≤ b.1))).map fun gap =>
          if s.mem.lost.getD d false then 0 else (gap.1 + gap.2 + 3 - d) / 4 - (gap.1 + 3 - d) / 4).sum
        need - free).sum
      .inr { obj := kind.owner, demand := n, available := n - short, both := 2 * n }

/-- What an admitting barge brings. -/
structure Request where
  /-- The state without the objects that the barge names. -/
  rest : State
  /-- The state with the barge admitted. -/
  new : State
  /-- Pipe of the barge, the limiting object of AR_LANES; its bounds are checked again (R319). -/
  pipe : Option Nat := none
  /-- Recording stream of the barge, the limiting object of AR_ENCODER. -/
  stream : Nat := 0
  /-- A region that could not be placed. -/
  memFail : Option MemFail := none
  /-- Envelope of a LAYER_ASSIGN, for LARGEST_RV. -/
  env : Option Envelope := none

/-- A failed check. -/
structure CheckFail where
  /-- AR code. -/
  code : Nat := 0
  /-- Limiting object. -/
  obj : Nat := 0
  /-- DEMAND. -/
  demand : Nat := 0
  /-- AVAILABLE. -/
  available : Nat := 0
  /-- Demand minus available. -/
  excess : Nat := 0
  /-- EXTRA0, EXTRA1, EXTRA2. -/
  extra : List Nat := [0, 0, 0]
  deriving DecidableEq, Repr, Inhabited

/-- The first object of check `c` that fails: its demand exceeds the limit, and the barge raises it or names a pipe whose
bound is checked again (R306, R319, R324). -/
def failsAt (old : State) (q : Request) (c : Nat) : Option CheckFail :=
  if c = 6 then q.memFail.map fun f =>
    { code := 7, obj := f.obj, demand := f.demand, available := f.available, excess := f.demand - f.available
      extra := [f.both, freeGranules old, 0] }
  else if !checkMade old c then none
  else
    let before := checkTerms old c
    ((checkTerms q.new c).find? fun t => decide (t.limit < t.demand) &&
      (decide (demandOf before t.obj < t.demand) || (c == 12 && q.pipe == some (t.obj / 256)))).map fun t =>
      let others := demandOf (checkTerms q.rest c) t.obj
      { code := c + 1
        obj := if c = 0 then q.pipe.getD 0xFFFF else if c = 10 then q.stream else t.obj
        demand := t.demand - others, available := t.limit - others, excess := t.demand - t.limit
        extra := if c = 3 then
            [t.demand - others, t.limit - others, match q.env with | some e => e.largestRv (t.limit - others) | none => 0]
          else [0, 0, 0] }

/-- The object with the least margin, the lowest-numbered on a tie (R322). -/
def leastMargin : List Term → Option Term
  | [] => none
  | t :: l =>
    match leastMargin l with
    | none => some t
    | some u => if (t.limit : Int) - t.demand ≤ (u.limit : Int) - u.demand then some t else some u

/-- The admission report body (Table 10-8). The limit of a check that has no object is a free value (log 16). -/
def admissionBody (old : State) (q : Request) (f : Option CheckFail) : List Byte :=
  let e := f.getD {}
  let short := q.new.pipes.any fun p => match p.admitted with | some c => decide (0 < c.links) && !leadCovers c | none => false
  leBytes 2 e.code ++ leBytes 2 e.obj ++ leBytes 1 (if e.code = 0 then 0 else unitCodes.getD (e.code - 1) 0) ++
    leBytes 1 (b2n f.isSome + 2 * b2n (!old.ledger.shortfalls.isEmpty) + 4 * b2n short) ++ leBytes 2 0 ++
    leBytes 8 e.demand ++ leBytes 8 e.available ++ (e.extra.map (leBytes 8)).flatten ++
    ((List.range 14).map fun c =>
      match leastMargin (checkTerms q.new c) with
      | some t => leBytes 8 t.demand ++ leBytes 8 (if c = 11 && old.ledger.driveRate.isNone then Config.freeNat (old.free + c) else t.limit)
      | none => leBytes 8 0 ++ leBytes 8 (Config.freeNat (old.free + c))).flatten ++
    ((List.range 8).map fun k => leBytes 1 (laneSlots q.new k)).flatten ++ List.replicate 24 0

/-- The lock-keeper's decision on a barge: the refusal with its report, or none and the report (R303, R306, R321, R322). -/
def runAdmission (old : State) (q : Request) : Option Reply × List Byte :=
  let f := (List.range 14).findSome? (failsAt old q)
  let body := admissionBody old q f
  (f.map fun e => { status := stAdmissionRefused, report := some body
                    detail := e.code + (e.obj % 2 ^ 16) * 2 ^ 16 + (min e.excess (2 ^ 32 - 1)) * 2 ^ 32 }, body)

/-! ### Shortfalls (R323, R324) -/

/-- Shortfalls of the held costs: AR code, object, demand and limit, one for each check whose demand exceeds its limit.
AR_LANES names the pipe that holds the lowest stopped logical lane. -/
def shortfallsNow (s : State) : List (Nat × Nat × Nat × Nat) :=
  (List.range 14).filterMap fun c =>
    if !checkMade s c then none
    else match leastMargin (checkTerms s c) with
      | some t =>
        if t.limit < t.demand then
          let obj := if c = 0 then
              ((s.pipes.zipIdx.find? fun x => x.1.lanes.any fun k => s.lanes.stopped.getD k false).map (·.2)).getD 0xFFFF
            else t.obj
          some (c + 1, obj, t.demand, t.limit)
        else none
      | none => none

/-- DATA of the two shortfall events (Table 14-3). -/
def shortfallData (x : Nat × Nat × Nat × Nat) : List Byte :=
  leBytes 2 x.1 ++ leBytes 2 x.2.1 ++ leBytes 8 x.2.2.1 ++ leBytes 8 x.2.2.2

/-- The shortfalls brought up to date: a new one raises EV_ADMISSION_SHORTFALL, one that is over EV_ADMISSION_RESTORED; those
of AR_MEMORY are kept apart (R292, R324, R546). -/
def readmit (s : State) : State :=
  let now := shortfallsNow s
  let old := s.ledger.shortfalls.filter fun x => x.1 != 7
  let s := now.foldl (fun s x => if old.any fun y => y.1 == x.1 then s else raise 107 0x0103 (shortfallData x) s) s
  let s := old.foldl (fun s y => if now.any fun x => x.1 == y.1 then s
    else
      let t := (leastMargin (checkTerms s (y.1 - 1))).getD {}
      raise 107 0x0104 (shortfallData (y.1, y.2.1, t.demand, t.limit)) s) s
  s.mapLedger fun l => { l with shortfalls := now ++ l.shortfalls.filter fun x => x.1 == 7 }

/-- Shortfalls are looked at again after a release, if there are any (R324). -/
def readmitIf (s : State) : State := if s.ledger.shortfalls.isEmpty then s else readmit s

/-- A shortfall of AR_MEMORY is reported, or is over (R292, R546). -/
def memoryShort (obj demand limit : Nat) (short : Bool) (s : State) : State :=
  let held := s.ledger.shortfalls.any fun x => x.1 == 7 && x.2.1 == obj
  let others := s.ledger.shortfalls.filter fun x => !(x.1 == 7 && x.2.1 == obj)
  if short && !held then
    raise 107 0x0103 (shortfallData (7, obj, demand, limit)) (s.mapLedger fun l => { l with shortfalls := others ++ [(7, obj, demand, limit)] })
  else if !short && held then
    raise 107 0x0104 (shortfallData (7, obj, demand, limit)) (s.mapLedger fun l => { l with shortfalls := others })
  else s

end Sys2Proof.Machine
end

