-- ==== Sys2Proof/Machine/Registers.lean ====
section
/-! DEFINITION. What the host reads at BAR0 and BAR4, and its writes to registers without behaviour of their own
(files 02 and 14). -/
namespace Sys2Proof.Machine

open Sys2Proof

/-- RING_STATE as Table 2-6 numbers it. -/
def RingState.code : RingState → Nat
  | .absent => 0 | .active => 1 | .waiting => 2 | .error => 3 | .frozen => 4

/-- PATCH_LEVEL (R55): LEVEL of the active patch (Table 17-7), 0 if none. -/
def patchLevel (s : State) : Nat := match s.trust.patch with | some o => leNat (slice o 0x10 4) | none => 0

/-- FAULT_SUMMARY, register 0x0128 (Table 2-4). -/
def faultSummary (s : State) : Nat :=
  b2n (s.lanes.bad.any id) + 2 * b2n s.lanes.noSpare + 4 * b2n (s.mem.lost.any id) +
  8 * b2n s.basin.shadow.isNone + 16 * b2n (s.faults.pairBad.any id) + 32 * b2n (!s.power.phases.isEmpty) +
  64 * b2n (s.faults.dumps.any Option.isSome || s.faults.flashDump.isSome)

/-- HB_REMAIN: milliseconds until heartbeat timeout, saturating at 0; all ones with the timeout disabled (Table 2-4, R512). -/
def hbRemain (s : State) : Nat :=
  if s.mode.hbTimeout = 0 then 0xFFFFFFFF
  else if s.mode.hbRuns then s.mode.hbTimeout - (s.time - s.mode.hbStart) / 1000000 else s.mode.hbTimeout

/-- The fields of a bit string, each below its own place. -/
def fields32 (l : List (Nat × Nat)) : Nat := (l.map fun x => x.1 * 2 ^ x.2).sum

/-- Low or high word of a 64-bit value. -/
def wordOf (v : Nat) (high : Bool) : Nat := if high then v / 2 ^ 32 % 2 ^ 32 else v % 2 ^ 32

/-- Identity block (Table 2-3). -/
def readIdentity (s : State) (off : Nat) : Nat :=
  if off = 0x00 then 0x304D4850
  else if off = 0x04 then Config.ohmainVersion % 2 ^ 16 * 2 ^ 16 + 860
  else if off = 0x08 then Config.romRelease % 2 ^ 16
  else if off = 0x0C then patchLevel s
  else if 0x10 ≤ off ∧ off < 0x1C then leNat (slice (padTo 10 s.trust.serial) (off - 0x10) 4)
  else if off = 0x20 then 64 * 2 ^ 24 + 64 * 2 ^ 16 + 8 * 2 ^ 12 + 9 * 2 ^ 8 + 8 * 2 ^ 4 + 4
  else if off = 0x24 then s.aphyDir
  else 0

/-- LANE_MAP (Table 2-4). -/
def laneMapWord (s : State) : Nat := fields32 (s.lanes.map.zipIdx.map fun (x, k) => (x, 4 * k))

/-- Mode and status block (Table 2-4). -/
def readStatus (s : State) (off : Nat) : Nat :=
  match off with
  | 0x100 => b2n s.mode.ready * 2 ^ 8 + s.mode.prev * 2 ^ 4 + s.mode.shown
  | 0x104 => s.mode.epoch
  | 0x108 => s.host.heartbeat.toNat
  | 0x10C => hbRemain s
  | 0x110 => wordOf s.time false
  | 0x114 => wordOf s.time true
  | 0x118 => laneMapWord s
  | 0x11C => s.lanes.handovers * 2 ^ 16 + b2n s.lanes.noSpare * 2 ^ 4 + s.lanes.spare
  | 0x120 => s.host.bar2Base
  | 0x124 => b2n s.host.bar2Unreadable * 4 + b2n s.host.bar2Private * 2 + b2n s.host.bar2BaseBad
  | 0x128 => faultSummary s
  | 0x12C => s.host.scratch.toNat
  | _ => 0

/-- Counters block, as the snapshot holds it (Table 2-5). -/
def readCounters (s : State) (off : Nat) : Nat :=
  let c := s.host.snap
  if off = 0x2008 then wordOf s.host.snapTime false
  else if off = 0x200C then wordOf s.host.snapTime true
  else if 0x2100 ≤ off ∧ off < 0x2300 then
    let p := at_ c.pipe ((off - 0x2100) / 0x40)
    match off % 0x40 with
    | 0x00 => wordOf p.frames false
    | 0x04 => wordOf p.frames true
    | 0x08 => p.holdLines
    | 0x0C => p.underrun
    | 0x10 => p.missedLocks
    | 0x14 => p.deferredPods
    | 0x18 => p.towTrims
    | _ => 0
  else if 0x2400 ≤ off ∧ off < 0x2540 then
    let i := at_ c.cam ((off - 0x2400) / 0x20)
    match off % 0x20 with
    | 0x00 => i.frames
    | 0x04 => i.dropped
    | 0x08 => i.malformed
    | _ => 0
  else match off with
    | 0x2600 => wordOf c.gddr6Corrected false
    | 0x2604 => wordOf c.gddr6Corrected true
    | 0x2608 => c.gddr6Uncorrectable
    | 0x2610 => wordOf c.basinCorrected false
    | 0x2614 => wordOf c.basinCorrected true
    | 0x2618 => wordOf c.bargesFetched false
    | 0x261C => wordOf c.bargesFetched true
    | 0x2620 => c.fenceStale
    | 0x2624 => c.fenceBad
    | 0x2628 => c.badAccesses
    | 0x262C => c.hostResets
    | _ => 0

/-- Fence block (R59). -/
def readFences (s : State) (off : Nat) : Nat :=
  if off < 0x3800 then wordOf ((s.fence ((off - 0x3000) / 8)).getD 0).toNat (off % 8 = 4) else 0

/-- Queue status block (Table 2-6). -/
def readQueueStatus (s : State) (off : Nat) : Nat :=
  let n := (off - 0x8000) / 0x40
  let r := s.ring n
  match off % 0x40 with
  | 0x00 => wordOf r.sqBase.toNat false
  | 0x04 => wordOf r.sqBase.toNat true
  | 0x08 => wordOf r.cqBase.toNat false
  | 0x0C => wordOf r.cqBase.toNat true
  | 0x10 => r.cqLog2 * 2 ^ 19 + r.sqLog2 * 2 ^ 14 + r.vector * 2 ^ 8 + r.weight
  | 0x14 => r.err * 2 ^ 8 + r.state.code
  | 0x18 => r.sqHead
  | 0x1C => r.sqTail
  | 0x20 => r.cqTail
  | 0x24 => r.cqHead
  | 0x28 => wordOf r.nextSeq.toNat false
  | 0x2C => wordOf r.nextSeq.toNat true
  | 0x30 => if n = 0 then b2n r.adminEnable else 0
  | _ => 0

/-- TIMER_LEFT of a vector: µs to expiry, a part of a µs counted as one (Table 14-9). -/
def timerLeft (s : State) (v : Vector_) : Nat := match v.timer with | some t => ceilDiv (t - s.time) 1000 | none => 0

/-- Host concentrator block (Tables 14-8 to 14-11). -/
def readConcentrator (s : State) (off : Nat) : Nat :=
  let e := s.events
  if off < 0x800 then
    match off with
    | 0x408 => wordOf e.snapTime false
    | 0x40C => wordOf e.snapTime true
    | 0x410 => e.snap.badCompletes
    | 0x414 => e.snap.lostTotal
    | 0x418 => e.snap.pmeSent
    | 0x41C => b2n e.wakeOut * 2 + b2n (e.vectors.any (·.held))
    | _ => 0
  else if off < 0xC00 then
    let n := (off - 0x800) / 16
    let v := s.vector n
    match off % 16 with
    | 0 => v.delayUs * 2 ^ 16 + v.countMax * 2 ^ 8 + b2n v.wake * 8 + b2n v.held * 4 + b2n v.timer.isSome * 2 + b2n v.pending
    | 4 => timerLeft s v
    | 8 => e.snap.msiSent.getD n 0
    | _ => e.snap.notified.getD n 0
  else if off < 0x1000 then
    let n := (off - 0xC00) / 32
    let r := s.evRing n
    match off % 32 with
    | 0x00 => wordOf r.base false
    | 0x04 => wordOf r.base true
    | 0x08 => r.queue * 2 ^ 24 + r.entryLog2 * 2 ^ 20 + r.sizeLog2 * 2 ^ 15 + r.vector * 2 ^ 9 + r.state
    | 0x0C => r.head * 2 ^ 16 + r.tail
    | 0x10 => e.snap.written.getD n 0
    | _ => 0
  else if off < 0x1800 then
    let n := (off - 0x1000) / 8
    let x := s.source true n
    if off % 8 = 4 then 0
    else b2n x.enabled * 2 ^ 31 + b2n x.masked * 2 ^ 30 + b2n (State.levelSources.contains n) * 2 ^ 29 + b2n x.claimed * 2 ^ 28 +
      b2n x.level * 2 ^ 27 + b2n x.pending * 2 ^ 26 + b2n x.active * 2 ^ 25 + x.priority * 2 ^ 16 + x.ring * 2 ^ 8 +
      min 4 (x.fifo.length + x.passed.length)
  else if off < 0x1C00 then e.snap.idleClaims.getD ((off - 0x1800) / 4) 0
  else e.snap.lost.getD ((off - 0x1C00) / 4) 0

/-- A 32-bit word of BAR0 at an offset that is a multiple of 4 (R52). -/
def readBar0 (s : State) (off : Nat) : Nat :=
  if off < 0x100 then readIdentity s off
  else if off < 0x200 then readStatus s off
  else if off < 0x400 then 0
  else if off < 0x2000 then readConcentrator s off
  else if off < 0x3000 then readCounters s off
  else if off < 0x4000 then readFences s off
  else if 0x8000 ≤ off ∧ off < 0x8400 then readQueueStatus s off
  else 0

/-- A 32-bit word of BAR4 (R65): the MSI-X table and the Pending Bit Array. -/
def readBar4 (s : State) (off : Nat) : Nat :=
  if off < 0x400 then
    let n := off / 16
    match off % 16 with
    | 0 => wordOf (s.host.msixAddr.getD n 0).toNat false
    | 4 => wordOf (s.host.msixAddr.getD n 0).toNat true
    | 8 => (s.host.msixData.getD n 0).toNat
    | _ => b2n (s.host.msixMask.getD n true)
  else if off = 0x1000 ∨ off = 0x1004 then
    let base := if off = 0x1000 then 0 else 32
    ((List.range 32).map fun i => b2n (s.host.pba.getD (base + i) false) * 2 ^ i).sum
  else 0

/-- A BAR0 access of a width that R53 allows. -/
def goodAccess (off width : Nat) : Bool := (width = 4 && off % 4 = 0) || (width = 8 && off % 8 = 0)

/-- A refused BAR0 access is counted (R53). -/
def countBad (s : State) : State := s.mapCtr fun c => { c with badAccesses := inc32 c.badAccesses }

/-- Offsets of the low words of the 64-bit registers of BAR0 (R54): MODULE_TIME, EC_SNAP_TIME, event ring BASE, SNAP_TIME,
the 64-bit counters, FENCE_VALUE and the 64-bit fields of the queue status blocks. -/
def isLowWord (off : Nat) : Bool :=
  off = 0x110 || off = 0x408 || (decide (0xC00 ≤ off) && decide (off < 0x1000) && off % 32 = 0) || off = 0x2008 ||
  (decide (0x2100 ≤ off) && decide (off < 0x2300) && off % 0x40 = 0) || off = 0x2600 || off = 0x2610 || off = 0x2618 ||
  (decide (0x3000 ≤ off) && decide (off < 0x3800) && off % 8 = 0) ||
  (decide (0x8000 ≤ off) && decide (off < 0x8400) && (off % 0x40 = 0 || off % 0x40 = 8 || off % 0x40 = 0x28))

/-- A host read at BAR0 (R53, R54): the value returned, and the latch that a low-word read sets. -/
def readAccess0 (off width : Nat) (s : State) : State :=
  if !goodAccess off width then (countBad s).mapHost fun h => { h with readData := 0 }
  else if width = 8 then
    s.mapHost fun h => { h with readData := BitVec.ofNat 64 (readBar0 s off + readBar0 s (off + 4) * 2 ^ 32) }
  else match s.host.latches.find? fun l => l.1 = off with
    | some l => s.mapHost fun h => { h with readData := BitVec.ofNat 64 l.2.toNat, latches := h.latches.filter fun x => x.1 != off }
    | none =>
      s.mapHost fun h =>
        { h with
          readData := BitVec.ofNat 64 (readBar0 s off)
          latches := if isLowWord off then (off + 4, BitVec.ofNat 32 (readBar0 s (off + 4))) :: h.latches.filter fun x => x.1 != off + 4
            else h.latches }

/-- LOW_WORD_READ (R54): a host read at BAR0, or at BAR4 with `bar` 4. -/
def execLowWordRead (bar off : Nat) (s : State) : Out :=
  .next (if bar = 0 then readAccess0 off 4 s
    else if bar = 4 then s.mapHost fun h => { h with readData := BitVec.ofNat 64 (readBar4 s off) }
    else s)

/-- The word at a place of a 64-bit field replaced. -/
def setWord (v : Word64) (high : Bool) (w : Nat) : Word64 :=
  BitVec.ofNat 64 (if high then v.toNat % 2 ^ 32 + w * 2 ^ 32 else v.toNat / 2 ^ 32 * 2 ^ 32 + w)

/-- A 32-bit write at BAR0 to a register without behaviour of its own (R19): SCRATCH, the BAR2 flags (W1C) and the fields
of ring 0 while it is ABSENT (R60). Any other offset is read-only, reserved, or has its own row. -/
def writeBar0 (off : Nat) (v : Nat) (s : State) : State :=
  match off with
  | 0x124 => s.mapHost fun h =>
      { h with bar2BaseBad := h.bar2BaseBad && !bit v 0, bar2Private := h.bar2Private && !bit v 1,
               bar2Unreadable := h.bar2Unreadable && !bit v 2 }
  | 0x12C => s.mapHost fun h => { h with scratch := BitVec.ofNat 32 v }
  | _ =>
    if (s.ring 0).state ≠ .absent then s
    else s.mapRing 0 fun r =>
      match off with
      | 0x8000 => { r with sqBase := setWord r.sqBase false v }
      | 0x8004 => { r with sqBase := setWord r.sqBase true v }
      | 0x8008 => { r with cqBase := setWord r.cqBase false v }
      | 0x800C => { r with cqBase := setWord r.cqBase true v }
      | 0x8010 => { r with cqLog2 := field v 23 19, sqLog2 := field v 18 14, vector := field v 13 8, weight := field v 4 0 }
      | _ => r

/-- A 32-bit write at BAR4 (R65): the MSI-X table; the Pending Bit Array is read-only. A mask that clears is
MSIX_UNMASK's row. -/
def writeBar4 (off : Nat) (v : Nat) (s : State) : State :=
  if 0x400 ≤ off then s
  else s.mapHost fun h =>
    let n := off / 16
    match off % 16 with
    | 0 => { h with msixAddr := h.msixAddr.set n (setWord (h.msixAddr.getD n 0) false v) }
    | 4 => { h with msixAddr := h.msixAddr.set n (setWord (h.msixAddr.getD n 0) true v) }
    | 8 => { h with msixData := h.msixData.set n (BitVec.ofNat 32 v) }
    | _ => if bit v 0 then { h with msixMask := h.msixMask.set n true } else h

/-- A write of the configuration registers that the module's rules use (R49, R436; the model's own numbering, log 7):
at 0, bit 8 PME_En and bit 15 PME_Status (W1C); at 4, bit 15 MSI-X Enable and bit 14 Function Mask, as far as they
disable or mask. -/
def writeConfig (off : Nat) (v : Nat) (s : State) : State :=
  match off with
  | 0 => s.mapHost fun h => { h with pmeEn := bit v 8, pmeStatus := h.pmeStatus && !bit v 15 }
  | 4 =>
    raiseInternal 53 0 [] (s.mapHost fun h => { h with msixEnable := h.msixEnable && bit v 15, msixFnMask := h.msixFnMask || bit v 14 })
  | _ => s

/-- REGISTER_WRITE (R19, R52, R53): a host write to a register without behaviour of its own. -/
def execRegisterWrite (bar off width : Nat) (value : Word64) (s : State) : Out :=
  let lo := value.toNat % 2 ^ 32
  let hi := value.toNat / 2 ^ 32
  .next (if bar = 0 then
      if !goodAccess off width then countBad s
      else if width = 8 then writeBar0 (off + 4) hi (writeBar0 off lo s) else writeBar0 off lo s
    else if bar = 4 then
      if width = 8 then writeBar4 (off + 4) hi (writeBar4 off lo s) else writeBar4 off lo s
    else if bar = 255 then writeConfig off lo s
    else s)

end Sys2Proof.Machine
end

