-- ==== Sys2Proof/Machine/FaultOps.lean ====
section
/-! DEFINITION. What faults share: the quarantine record, FAULT_OUT#, the level sources of the host concentrator that
follow the state, and the end of a command that may move them (files 14 and 18). -/
namespace Sys2Proof.Machine

open Sys2Proof

/-! ### Records (R554, R564) -/

/-- LFLAGS of a fault of an object: INJECTED, and BEYOND_SINGLE (R564). -/
def objectFlags (s : State) (kind index : Nat) (beyond : Bool) : Nat :=
  b2n (s.faults.injected.contains (kind, index)) + 2 * b2n beyond

/-- An object taken out of service enters the quarantine record, once and unless it was injected (R554); CAUSE is a free
value, as the manual states none. -/
def quarantine (kind index : Nat) (s : State) : State :=
  if s.faults.injected.contains (kind, index) || (s.faults.quarantine.any fun q => q.1 == kind && q.2.1 == index) then s
  else (s.takeFree).mapFaults fun f =>
    { f with quarantine := (f.quarantine ++ [(kind, index, Config.freeNat s.free % 65536, s.time)]).take 32 }

/-- An object leaves the quarantine record (R554). -/
def unquarantine (kind index : Nat) (s : State) : State :=
  s.mapFaults fun f => { f with quarantine := f.quarantine.filter fun q => !(q.1 == kind && q.2.1 == index) }

/-- The record of an ST_INTERNAL: opcode, SEQ and ring of the barge (R564). -/
def internalRecord (b : Barge) (s : State) : State :=
  faultRecord 13 0 4 0 (leBytes 2 b.opcode ++ leBytes 8 b.seq ++ leBytes 1 b.ring) s

/-! ### Classes (R294) -/

/-- Contract class of a pipe: the highest of its TOW_SET and its contracts (R294). -/
def contractClass (s : State) (p : Nat) : Nat :=
  let t := (s.pipe p).tow
  ((s.contracts.filter fun c => c.pipe == p).map (·.cls)).foldl max (if t.state = .off then 0 else t.cls)

/-- The pipe is of class CRITICAL. -/
def critical (s : State) (p : Nat) : Bool := contractClass s p == 2

/-- The pipe whose configuration names a link. -/
def pipeOfLink (s : State) (l : Nat) : Option Nat :=
  (s.pipes.zipIdx.find? fun x => decide (x.1.state ≠ .unconfigured) && x.1.cfg.linkList.contains l).map (·.2)

/-- The link that carries a half. -/
def linkOfHalf (c : PipeCfg) (h : Nat) : Nat := c.linkList.getD h 255

/-! ### FAULT_OUT# (R569) -/

/-- A condition of Table 18-7 arises. -/
def setCondition (i : Nat) (s : State) : State := s.mapFaults fun f => { f with conditions := f.conditions ||| 2 ^ i }

/-- A condition of Table 18-7 ends. -/
def clearCondition (i : Nat) (s : State) : State :=
  s.mapFaults fun f => { f with conditions := if bit f.conditions i then f.conditions - 2 ^ i else f.conditions }

/-- Condition 0: FROZEN with FREEZE_ACTION on a link of a CRITICAL pipe (R407). -/
def frozenCritical (s : State) : Bool :=
  s.sign.zipIdx.any fun x => x.1.frozen && x.1.freezeAction &&
    (match pipeOfLink s x.2 with | some p => critical s p | none => false)

/-- Condition 4: T_b above 125 °C, or T_j at 150 °C or above (R485). -/
def outOfRating (s : State) : Bool := decide (2000 < s.power.tb) || decide (2400 ≤ s.power.tj)

/-- The conditions that follow the state, and FAULT_OUT#, brought up to date (R569). -/
def syncFaultOut (s : State) : State :=
  let s := if frozenCritical s then setCondition 0 s else clearCondition 0 s
  let s := if outOfRating s then setCondition 4 s else clearCondition 4 s
  s.mapFaults fun f =>
    { f with faultOut := decide (s.mode.base ≠ .off) && decide (s.mode.base ≠ .keepalive) &&
        decide (f.conditions &&& (f.foMask ||| 1) ≠ 0) }

/-! ### Level sources (Table 14-1) -/

/-- HOLD has cause ELECTRICAL (R477, R478). -/
def electricalHold (s : State) : Bool := s.power.holdLow || s.power.holdHigh

/-- Level of the source of a link: its pipe is RUNNING and the link is not UP. -/
def linkLevel (s : State) (l : Nat) : Bool :=
  match pipeOfLink s l with
  | some p => decide ((s.pipe p).state = .running) && decide ((s.link l).state ≠ .up)
  | none => false

/-- The condition that a level source of the host concentrator carries (Tables 14-1, 15-8, 16-10, 17-12 and 18-9). -/
def sourceLevel (s : State) (n : Nat) : Bool :=
  if n < 40 then linkLevel s (n - 28)
  else if n < 60 then decide ((s.cam (n - 50)).state = .lost)
  else if n < 84 then (s.signBlock (n - 72)).frozen
  else match n with
    | 108 => !s.ledger.shortfalls.isEmpty
    | 110 => s.lanes.noSpare
    | 114 => s.recording.streams.any (·.live) && decide (s.recording.drive ≠ .own)
    | 131 => electricalHold s
    | 133 => decide (16 * s.ledger.tD < s.power.tb)
    | 147 => s.can.busOff || !s.can.valid
    | 165 => s.faults.faultOut
    | 166 => decide (faultSummary s % 64 ≠ 0)
    | _ => false

/-- One level source follows its condition (R416, R420). -/
def syncSource (s : State) (n : Nat) : State :=
  let high := sourceLevel s n
  if (s.source true n).level = high then s else setLevel n high s

/-- The shortfall of twin granules with one copy follows their number, and ends with the last of them (R546). -/
def syncMirrors (s : State) : State :=
  if !oneCopyShort s then s
  else if s.mem.remirror.isEmpty then memoryShort 0xFFFF 0 0 false s
  else s.mapLedger fun l => { l with shortfalls := l.shortfalls.map fun x =>
    if x.1 = 7 ∧ x.2.1 = 0xFFFF then (7, 0xFFFF, s.mem.remirror.length, 0) else x }

/-- FAULT_OUT# and every level source follow the state (R416, R569). -/
def syncLevels (s : State) : State := State.levelSources.foldl syncSource (syncFaultOut (syncMirrors s))

/-- The end of a command: the level sources follow the state. -/
def done (s : State) : Out := .next (syncLevels s)

/-- A barge opcode's command whose effect may move a level source. -/
def bargeSync (check : Barge → State → Option Reply) (apply : Barge → State → State) (b : Barge) (s : State) : Out :=
  done (runBarge check apply b s)

/-- MEM_FREE; R121: freed granules may end a shortfall of re-mirroring (R546). -/
def execMemFree (b : Barge) (s : State) : Out := bargeSync memFreeCheck memFreeApply b s

end Sys2Proof.Machine
end

