-- ==== Sys2Proof/Machine/Programme.lean ====
section
/-! DEFINITION. The standing programme as bytes: its header, tables and scenes, the stop state, and the scene that it selects
(file 15). -/
namespace Sys2Proof.Machine

open Sys2Proof

/-- A number of `n` bytes at an offset of a programme. -/
def Programme.num (g : Programme) (off n : Nat) : Nat := leNat (slice g.bytes off n)

/-- PIPES; Table 15-7. -/
def Programme.pipeCount (g : Programme) : Nat := g.num 6 1
/-- ASSETS; Table 15-7. -/
def Programme.assetCount (g : Programme) : Nat := g.num 8 2
/-- SCENES; Table 15-7. -/
def Programme.sceneCount (g : Programme) : Nat := g.num 0x0A 2
/-- STOPS; Table 15-7. -/
def Programme.stopCount (g : Programme) : Nat := g.num 0x0C 2
/-- DEFAULT_SCENE; Table 15-7. -/
def Programme.defaultScene (g : Programme) : Nat := g.num 0x0E 2
/-- CAN_ID with its extended bit; Table 15-7. -/
def Programme.canId (g : Programme) : Nat := g.num 0x10 4
/-- STOP_BYTE; Table 15-7. -/
def Programme.stopByte (g : Programme) : Nat := g.num 0x14 1
/-- DOOR_BYTE; Table 15-7. -/
def Programme.doorByte (g : Programme) : Nat := g.num 0x15 1
/-- DOOR_BIT; Table 15-7. -/
def Programme.doorBit (g : Programme) : Nat := g.num 0x16 1
/-- CAN_TIMEOUT_MS; Table 15-7. -/
def Programme.canTimeout (g : Programme) : Nat := g.num 0x18 2
/-- ASSET_BYTES; Table 15-7. -/
def Programme.assetBytes (g : Programme) : Nat := g.num 0x1C 4

/-- Offset of entry `i` of the pipe table; R463. -/
def Programme.pipeAt (i : Nat) : Nat := 0x40 + 16 * i
/-- Pipe of entry `i` of the pipe table. -/
def Programme.pipe (g : Programme) (i : Nat) : Nat := g.num (Programme.pipeAt i) 1
/-- Named slots of entry `i` of the pipe table. -/
def Programme.slots (g : Programme) (i : Nat) : List Nat :=
  (List.range (g.num (Programme.pipeAt i + 1) 1)).map fun k => g.num (Programme.pipeAt i + 2 + k) 1
/-- Offset of entry `i` of the asset table; R463. -/
def Programme.assetAt (g : Programme) (i : Nat) : Nat := 0x40 + 16 * g.pipeCount + 32 * i
/-- Named slots in pipe-table order, each with its pipe. -/
def Programme.named (g : Programme) : List (Nat × Nat) :=
  (List.range g.pipeCount).flatMap fun i => (g.slots i).map fun n => (g.pipe i, n)
/-- Offset of the layer entry of the `k`-th named slot in scene `i`; R463. -/
def Programme.entryAt (g : Programme) (i k : Nat) : Nat := g.assetAt g.assetCount + 32 * (i * g.named.length + k)
/-- Offset of entry `i` of the stop table; R463. -/
def Programme.stopAt (g : Programme) (i : Nat) : Nat := g.entryAt g.sceneCount 0 + 4 * i

/-- The pipe is a programme pipe. -/
def programmePipe (s : State) (p : Nat) : Bool :=
  match s.recording.programme with | some g => g.named.any fun x => x.1 == p | none => false

/-- The slot is named by the installed programme. -/
def namedSlot (s : State) (n : Nat) : Bool :=
  match s.recording.programme with | some g => g.named.any fun x => x.2 == n | none => false

/-- The scene that the stop state selects (R464). -/
def currentScene (s : State) : Nat :=
  match s.recording.programme with
  | none => 0
  | some g =>
    let r := s.recording
    if r.stopValid && decide (r.stop < g.stopCount) then g.num (g.stopAt r.stop + (if r.doors then 2 else 0)) 2 else g.defaultScene

/-- The layer state that a scene gives the `k`-th named slot, with the groups that it writes: all of them, or ENABLE alone for
a disabled layer (R463). -/
def sceneCfg (g : Programme) (scene k decimate : Nat) : Nat × LayerCfg :=
  let o := g.entryAt scene k
  let asset := g.num o 2
  if asset = 0xFFFF then (0x10, {})
  else
    (0x1FF,
     { kind := 0, input := 0, hasSource := true, handle := g.handles.getD asset 0
       zpos := g.num (o + 2) 1, blend := g.num (o + 3) 1, alpha := g.num (o + 4) 1
       enc := g.num (o + 5) 1, range := g.num (o + 6) 1, transfer := g.num (o + 7) 1
       srcX := g.num (o + 8) 2, srcY := g.num (o + 0x0A) 2, srcW := g.num (o + 0x0C) 2, srcH := g.num (o + 0x0E) 2
       dstX := signed 16 (g.num (o + 0x10) 2), dstY := signed 16 (g.num (o + 0x12) 2)
       dstW := g.num (o + 0x14) 2, dstH := g.num (o + 0x16) 2
       tapsH := g.num (o + 0x18) 1, tapsV := g.num (o + 0x19) 1, filter := g.num (o + 0x1A) 1
       toneMode := g.num (o + 0x1B) 1, toneCurve := g.num (o + 0x1C) 2
       decimate, enable := true })

/-- The layer state that a scene gives a slot, with DECIMATE of the slot's envelope (R463). -/
def sceneLayer (s : State) (g : Programme) (scene k slot : Nat) : Nat × LayerCfg := sceneCfg g scene k (s.layer slot).env.decimate

/-- A slot that the programme hides in QUIET: enabled at entry and not named (R465). -/
def quietHidden (s : State) (n : Nat) : Bool := (s.recording.saved.any fun x => x.1 == n) && !namedSlot s n

end Sys2Proof.Machine
end

