-- ==== Sys2Proof/Machine/Layers.lean ====
section
/-! DEFINITION. Opcodes of family 0x03 that write layers and pods, and the mapping of rectangles to the damage map
(file 04). -/
namespace Sys2Proof.Machine

open Sys2Proof

/-! ### Sources of a layer -/

/-- Stored format of a camera data type (Table 9-1). -/
def dtFormat (dt : Nat) : Nat := if dt = 0x1E then 0x12 else if dt = 0x1F then 0x13 else if dt = 0x22 then 0x04 else 0x02

/-- What LAYER_SET checks of a source. -/
structure SourceInfo where
  /-- Format. -/
  format : Nat := 0
  /-- Width. -/
  width : Nat := 0
  /-- Height. -/
  height : Nat := 0
  /-- Compressed. -/
  compressed : Bool := false
  deriving DecidableEq, Repr, Inhabited

/-- The source that a layer state names, none if it has none or a stale one. -/
def sourceInfo (s : State) (c : LayerCfg) : Option SourceInfo :=
  if !c.hasSource then none
  else if c.kind = 1 then
    let m := s.cam c.input
    if m.state = .undeclared then none
    else some { format := dtFormat m.decl.dt, width := m.decl.width, height := m.decl.height }
  else (s.surface c.handle).map fun x =>
    { format := x.format, width := x.width, height := x.height, compressed := x.compressed }

/-- Some slot of a pipe with a change that a pipe carries (R146). -/
def carries (s : State) (slot : Nat) : Bool :=
  s.pipes.any fun p => p.carried.any fun g => g.changes.any fun c => c.slot == slot

/-- Pod of a slot, none if it is in no pod (R141). -/
def podOf (s : State) (slot : Nat) : Option Nat :=
  (s.pods.zipIdx.find? fun x => x.1.live && x.1.members.contains slot).map (·.2)

/-- Code of a slot state (Table 4-1). -/
def SlotState.code : SlotState → Nat
  | .unassigned => 0 | .assigned => 1 | .releasePending => 2

/-! ### Envelopes (R128, R154, R156) -/

/-- Limits that a layer state may break under an envelope: the field of LAYER_ASSIGN (offset, size), the field of LAYER_SET,
and whether it is broken. A state without a source or rectangle breaks none of that part. -/
def envelopeFaults (e : Envelope) (c : LayerCfg) (src : Option SourceInfo) : List ((Nat × Nat) × (Nat × Nat) × Bool) :=
  let bpp := match src with | some i => fmtBpp i.format | none => 0
  let comp := match src with | some i => i.compressed | none => false
  let shaped := decide (0 < c.srcH) && decide (0 < c.dstH)
  [ ((2, 1), (4, 1), src.isSome && !bit e.kinds c.kind),
    ((3, 1), (8, 8), decide (e.maxBpp < bpp)),
    ((0x10, 1), (8, 8), comp && !e.compressed),
    ((4, 2), (0x14, 2), decide (e.maxSrcW < c.srcW)),
    ((6, 2), (0x16, 2), decide (e.maxSrcH < c.srcH)),
    ((8, 2), (0x1C, 2), decide (e.maxDstW < c.dstW)),
    ((0x0A, 2), (0x1E, 2), decide (e.maxDstH < c.dstH)),
    ((0x0F, 1), (0x2A, 1), shaped && c.decimate != e.decimate),
    ((0x0E, 1), (0x29, 1), shaped && decide (e.tapsV < c.tapsV)),
    ((0x0C, 2), (0x16, 2), shaped && decide (e.maxRv * c.dstH * c.decimate < 256 * c.srcH)) ]

/-! ### LAYER_ASSIGN (R154) -/

/-- The envelope of a LAYER_ASSIGN payload (Table 4-5). -/
def envelopeOf (b : Barge) : Envelope :=
  { kinds := b.pay 2 1, maxBpp := b.pay 3 1, maxSrcW := b.pay 4 2, maxSrcH := b.pay 6 2, maxDstW := b.pay 8 2
    maxDstH := b.pay 0x0A 2, maxRv := b.pay 0x0C 2, tapsV := b.pay 0x0E 1, decimate := b.pay 0x0F 1
    compressed := bit (b.pay 0x10 1) 0 }

/-- The layer after LAYER_ASSIGN: a new one starts disabled; a replaced envelope keeps the layer's states. DECIMATE of a
state without rectangles follows the envelope (log 9). -/
def assignLayer (b : Barge) (l : Layer) : Layer :=
  let e := envelopeOf b
  let fit := fun (c : LayerCfg) => if c.srcH = 0 ∨ c.dstH = 0 then { c with decimate := e.decimate } else c
  if l.state = .unassigned then
    { state := .assigned, pipe := b.pay 1 1, env := e, active := { decimate := e.decimate }, shadow := { decimate := e.decimate } }
  else { l with env := e, active := fit l.active, shadow := fit l.shadow }

/-- What LAYER_ASSIGN asks of the lock-keeper. -/
def assignRequest (b : Barge) (s : State) : Request :=
  let n := b.pay 0 1
  { rest := s.mapLayer n fun _ => {}, new := s.mapLayer n (assignLayer b), pipe := some (b.pay 1 1), env := some (envelopeOf b) }

/-- An envelope of a slot that the installed programme names contains every scene (R473). -/
def containsScenes (s : State) (slot : Nat) (e : Envelope) : Bool :=
  match s.recording.programme with
  | none => true
  | some g => (g.named.zipIdx.filter fun x => x.1.2 == slot).all fun x => (List.range g.sceneCount).all fun i =>
      let (_, c) := sceneCfg g i x.2 e.decimate
      !c.hasSource || (envelopeFaults e c (sourceInfo s c)).all fun f => !f.2.2

/-- Checks of LAYER_ASSIGN before admission; R127, R154, R473. -/
def layerAssignCheck (b : Barge) (s : State) : Option Reply :=
  let l := s.layer (b.pay 0 1)
  let p := b.pay 1 1
  let c := (s.pipe p).cfg
  firstFail ([ lenIs b 32, reservedBits b 2 0xF8, reservedBits b 0x10 0xFE, reservedBytes b 0x11 15,
    fieldIf b 0 1 (decide (63 < b.pay 0 1)), fieldIf b 1 1 (decide (7 < p)), fieldIf b 2 1 (b.pay 2 1 = 0),
    fieldIf b 3 1 (!([12, 16, 24, 32, 64].contains (b.pay 3 1))),
    fieldIf b 4 2 (b.pay 4 2 = 0 || decide (16384 < b.pay 4 2)), fieldIf b 6 2 (b.pay 6 2 = 0 || decide (16384 < b.pay 6 2)),
    fieldIf b 8 2 (b.pay 8 2 = 0), fieldIf b 0x0A 2 (b.pay 0x0A 2 = 0),
    fieldIf b 0x0C 2 (decide (b.pay 0x0C 2 < 0x0100) || decide (0x0800 < b.pay 0x0C 2)),
    fieldIf b 0x0E 1 (decide (b.pay 0x0E 1 < 2) || decide (6 < b.pay 0x0E 1)),
    fieldIf b 0x0F 1 (!([1, 2, 4].contains (b.pay 0x0F 1))),
    failIf (decide (l.state = .releasePending) || (decide (l.state = .assigned) && l.pipe != p)) (.err stBusy l.pipe),
    failIf (!containsScenes s (b.pay 0 1) (envelopeOf b)) (freeReply stBusy s),
    failIf (decide ((s.pipe p).state = .unconfigured)) (wrongState s 0),
    fieldIf b 8 2 (decide (c.hActive < b.pay 8 2)), fieldIf b 0x0A 2 (decide (c.vActive < b.pay 0x0A 2)) ] ++
    (if l.state = .assigned then
      [l.active, l.shadow].flatMap fun x =>
        (envelopeFaults (envelopeOf b) (if x.srcH = 0 ∨ x.dstH = 0 then { x with decimate := b.pay 0x0F 1 } else x)
          (sourceInfo s x)).map fun f => fieldIf b f.1.1 f.1.2 f.2.2
     else []) ++
    [ failIf (decide (l.state = .unassigned) && decide (8 ≤ (slotsOf s p).length)) (noResource 0x0010 0) ])

/-- Admission and effect of LAYER_ASSIGN; R154, R303, R322. -/
def layerAssignApply (b : Barge) (s : State) : State :=
  let q := assignRequest b s
  let (r, body) := runAdmission s q
  match r with
  | some r => complete b r s
  | none => complete b { report := some body } q.new

/-- LAYER_ASSIGN; R154. -/
def execLayerAssign (b : Barge) (s : State) : Out := barge layerAssignCheck layerAssignApply b s

/-! ### LAYER_RELEASE (R155) -/

/-- Checks of LAYER_RELEASE; R155, R473. -/
def layerReleaseCheck (b : Barge) (s : State) : Option Reply :=
  let n := b.pay 0 1
  firstFail [ lenIs b 8, reservedBytes b 1 7, fieldIf b 0 1 (decide (63 < n)),
    failIf (decide ((s.layer n).state = .unassigned)) (wrongState s 0),
    failIf (carries s n || namedSlot s n) (freeReply stBusy s) ]

/-- Effect of LAYER_RELEASE; R155. -/
def layerReleaseApply (b : Barge) (s : State) : State :=
  complete b .ok (s.mapLayer (b.pay 0 1) fun l => if l.state = .assigned then { l with state := .releasePending } else l)

/-- LAYER_RELEASE; R155. -/
def execLayerRelease (b : Barge) (s : State) : Out := barge layerReleaseCheck layerReleaseApply b s

/-! ### LAYER_SET (R156) -/

/-- CHANGE of a LAYER_SET. -/
def changeOf (b : Barge) : Nat := b.pay 2 2

/-- The groups of a LAYER_SET that CHANGE marks, written over a layer state (Table 4-6). -/
def mergeGroups (b : Barge) (c : LayerCfg) : LayerCfg :=
  let g := fun i => bit (changeOf b) i
  let c := if g 0 then { c with kind := b.pay 4 1, input := b.pay 5 1, handle := b.pay 8 8, hasSource := true } else c
  let c := if g 1 then { c with srcX := b.pay 0x10 2, srcY := b.pay 0x12 2, srcW := b.pay 0x14 2, srcH := b.pay 0x16 2 } else c
  let c := if g 2 then { c with dstX := signed 16 (b.pay 0x18 2), dstY := signed 16 (b.pay 0x1A 2),
                                dstW := b.pay 0x1C 2, dstH := b.pay 0x1E 2 } else c
  let c := if g 3 then { c with zpos := b.pay 6 1 } else c
  let c := if g 4 then { c with enable := bit (b.pay 7 1) 0 } else c
  let c := if g 5 then { c with blend := b.pay 0x20 1, alpha := b.pay 0x21 1 } else c
  let c := if g 6 then { c with enc := b.pay 0x22 1, range := b.pay 0x23 1, transfer := b.pay 0x24 1 } else c
  let c := if g 7 then { c with toneMode := b.pay 0x25 1, toneCurve := b.pay 0x26 2 } else c
  if g 8 then { c with tapsH := b.pay 0x28 1, tapsV := b.pay 0x29 1, decimate := b.pay 0x2A 1, filter := b.pay 0x2B 1 } else c

/-- Reserved bits and bytes of a LAYER_SET; of an unmarked group none is checked (R156). -/
def layerSetReserved (b : Barge) : List (Option Reply) :=
  let g := fun i r => if bit (changeOf b) i then r else none
  [ reservedBytes b 1 1, reservedBits b 3 0xFC, g 4 (reservedBits b 7 0xFE), g 7 (reservedBits b 0x26 0x0F),
    g 8 (reservedBits b 0x2B 0xFC), reservedBytes b 0x2E 2, reservedBytes b 0x38 8 ]

/-- The source rectangle satisfies R104. -/
def rectInside (i : SourceInfo) (c : LayerCfg) : Bool :=
  decide (c.srcX + c.srcW ≤ i.width) && decide (c.srcY + c.srcH ≤ i.height) &&
    (!fmtYcc i.format || (c.srcX % 2 == 0 && c.srcW % 2 == 0)) &&
    (!fmt420 i.format || (c.srcY % 2 == 0 && c.srcH % 2 == 0))

/-- The source's checks: handle, LOST, format and rectangle; R104, R156. -/
def layerSetSource (b : Barge) (s : State) (c : LayerCfg) : List (Option Reply) :=
  let src := bit (changeOf b) 0
  let rect := src || bit (changeOf b) 1
  let surf := s.surface c.handle
  [ failIf (src && c.kind != 1 && surf.isNone) (badHandle c.handle),
    failIf (src && c.kind != 1 && decide (surf.any fun x => decide (x.state = .lost))) (wrongState s 3),
    fieldIf b 8 8 (src && match sourceInfo s c with | some i => !fmtLayer i.format | none => false),
    fieldIf b 0x10 2 (rect && decide (0 < c.srcW) && match sourceInfo s c with | some i => !rectInside i c | none => false) ]

/-- Values of Table 4-6 by themselves; R156, R191. -/
def layerSetValues (b : Barge) (s : State) (e : Envelope) (c : LayerCfg) : List (Option Reply) :=
  let g := fun i bad off n => fieldIf b off n (bit (changeOf b) i && bad)
  let i := sourceInfo s c
  let ycc := match i with | some i => fmtYcc i.format | none => decide (2 ≤ c.enc)
  let cam := (s.cam c.input).decl
  let isCam := c.hasSource && c.kind == 1 && i.isSome
  [ g 0 (decide (2 < c.kind) || !bit e.kinds c.kind) 4 1,
    g 0 (if c.kind = 1 then decide (9 < c.input) else c.input != 0) 5 1,
    g 3 (decide (7 < c.zpos)) 6 1,
    g 0 (c.kind == 1 && c.handle != 0) 8 8,
    g 1 (c.srcW == 0) 0x14 2, g 1 (c.srcH == 0) 0x16 2,
    g 2 (decide (c.dstX < -16384) || decide (16383 < c.dstX)) 0x18 2,
    g 2 (decide (c.dstY < -16384) || decide (16383 < c.dstY)) 0x1A 2,
    g 2 (c.dstW == 0) 0x1C 2, g 2 (c.dstH == 0) 0x1E 2,
    g 5 (decide (2 < c.blend)) 0x20 1,
    g 6 (decide (4 < c.enc) || (ycc != decide (2 ≤ c.enc)) || (isCam && c.enc != cam.enc)) 0x22 1,
    g 6 (decide (1 < c.range) || (c.range == 1 && (match i with | some i => i.format == 5 | none => false)) ||
      (isCam && c.range != cam.range)) 0x23 1,
    g 6 (decide (5 < c.transfer) || (isCam && c.transfer != cam.transfer)) 0x24 1,
    g 7 (decide (2 < c.toneMode) || (c.toneMode == 2 && c.kind != 1)) 0x25 1,
    g 7 (decide (200 < c.toneCurve / 256)) 0x26 2,
    g 8 (decide (c.tapsH < 2) || decide (8 < c.tapsH)) 0x28 1,
    g 8 (decide (c.tapsV < 2) || decide (6 < c.tapsV) || decide (e.tapsV < c.tapsV)) 0x29 1,
    g 8 (c.decimate != e.decimate) 0x2A 1,
    g 8 (c.kernel == 3) 0x2B 1,
    g 9 (decide (255 < b.pay 0x2C 2)) 0x2C 2 ]

/-- Limits of Table 5-3 on the layer state that results; R167, R180. -/
def layerSetScaler (b : Barge) (s : State) (e : Envelope) (c : LayerCfg) : List (Option Reply) :=
  let marked := bit (changeOf b) 0 || bit (changeOf b) 1 || bit (changeOf b) 2 || bit (changeOf b) 8
  let shaped := decide (0 < c.srcW) && decide (0 < c.srcH) && decide (0 < c.dstW) && decide (0 < c.dstH)
  let f := fun off n bad => fieldIf b off n (marked && shaped && bad)
  let comp := match sourceInfo s c with | some i => i.compressed | none => false
  [ f 0x2B 1 (c.kernel == 0 && (decide (c.tapsH < 4) || decide (c.tapsV < 4))),
    f 0x14 2 (decide (16 * c.srcW < c.dstW) || decide (4 * c.dstW < c.srcW)),
    f 0x16 2 (decide (16 * c.hd < c.dstH) || decide (8 * c.dstH < c.hd) || decide (e.maxRv * c.dstH < 256 * c.hd)),
    f 8 8 (comp && !(c.bypassH && c.bypassV && c.kind == 0)) ]

/-- Pipes with a layer that names a stream in active or shadow state (R289). -/
def pipesNaming (s : State) (input : Nat) : List Nat :=
  (List.range 8).filter fun p => (slotsOf s p).any fun l =>
    [l.2.active, l.2.shadow].any fun c => c.hasSource && c.kind == 1 && c.input == input

/-- Pipes that may name a stream (R289, R291). -/
def pipesAllowed (m : Camera) : Nat :=
  if m.handles.isEmpty then m.slotsAdmitted - 2 - (if m.recorded then m.decl.recSlots else 0) else m.handles.length - 3

/-- The first pipe other than `p` on which a surface is raced-bound (R343). -/
def racedElsewhere (s : State) (p h : Nat) : Option Nat :=
  (s.layers.find? fun l => decide (l.state ≠ .unassigned) && l.pipe != p && l.active.has h && l.active.kind == 2).map (·.pipe)

/-- ADAPTIVE layers of a pipe other than a slot, in active or shadow state (R206). -/
def adaptiveOthers (s : State) (p slot : Nat) : Nat :=
  ((slotsOf s p).filter fun l => l.1 != slot && (l.2.active.toneMode == 2 || l.2.shadow.toneMode == 2)).length

/-- Checks of LAYER_SET that depend on other objects; R116, R142, R156, R206, R289, R291, R343. -/
def layerSetObjects (b : Barge) (s : State) (l : Layer) (c : LayerCfg) : List (Option Reply) :=
  let src := bit (changeOf b) 0
  let named := pipesNaming s c.input
  let allowed := pipesAllowed (s.cam c.input)
  [ failIf (src && c.kind != 0 && c.kind != 1 && (s.surface c.handle).any fun x => x.sealed) (wrongState s 1),
    failIf (src && c.kind == 1 && decide ((s.cam c.input).state = .undeclared)) (wrongState s 0),
    failIf (c.enable && !c.hasSource) (wrongState s 1),
    failIf (bit (changeOf b) 9 && (s.fence (b.pay 0x2C 2)).isNone) (.err stBadFence (b.pay 0x2C 2)),
    if src && c.kind == 2 then (racedElsewhere s l.pipe c.handle).map fun p => .err stBusy p else none,
    failIf (src && c.kind == 2 && bottomUpWrites s c.handle) (wrongState s 1),
    failIf (src && c.kind == 1 && !named.contains l.pipe && decide (allowed < named.length + 1))
      (noResource 0x0031 (allowed - named.length)),
    failIf (bit (changeOf b) 7 && c.toneMode == 2 && decide (2 ≤ adaptiveOthers s l.pipe (b.pay 0 1))) (noResource 0x0020 0) ]

/-- Checks of LAYER_SET, in the order of R156. -/
def layerSetCheck (b : Barge) (s : State) : Option Reply :=
  let l := s.layer (b.pay 0 1)
  let c := mergeGroups b l.shadow
  firstFail ([lenIs b 64] ++ layerSetReserved b ++
    [ fieldIf b 0 1 (decide (63 < b.pay 0 1)), fieldIf b 2 2 (changeOf b = 0),
      failIf (decide (l.state ≠ .assigned)) (wrongState s l.state.code) ] ++
    layerSetSource b s c ++ layerSetValues b s l.env c ++
    ((envelopeFaults l.env c (sourceInfo s c)).map fun f => fieldIf b f.2.1.1 f.2.1.2 f.2.2) ++
    layerSetScaler b s l.env c ++ layerSetObjects b s l c)

/-- Effect of LAYER_SET: the marked groups go to shadow state and are pending; R130, R142, R156. -/
def layerSetApply (b : Barge) (s : State) : State :=
  complete b .ok (refreshSurfaces (s.mapLayer (b.pay 0 1) fun l =>
    { l with
      shadow := mergeGroups b l.shadow
      pending := l.pending ||| changeOf b
      acquire := if bit (changeOf b) 9 then some (b.pay 0x2C 2, BitVec.ofNat 64 (b.pay 0x30 8)) else l.acquire }))

/-- LAYER_SET; R156. -/
def execLayerSet (b : Barge) (s : State) : Out := barge layerSetCheck layerSetApply b s

/-! ### Pods (R157, R158) -/

/-- Members of a POD_DEFINE payload. -/
def podMembers (b : Barge) : List Nat := (List.range 64).filter fun n => bit (b.pay 8 8) n

/-- Checks of POD_DEFINE; R157. -/
def podDefineCheck (b : Barge) (s : State) : Option Reply :=
  let k := b.pay 0 1
  let p := b.pay 1 1
  let x := s.pod k
  let members := podMembers b
  let moving := (members.filter fun n => !x.members.contains n) ++ x.members.filter fun n => !members.contains n
  firstFail [ lenIs b 16, reservedBytes b 3 5,
    fieldIf b 0 1 (decide (63 < k)), fieldIf b 1 1 (decide (7 < p)), fieldIf b 2 1 (decide (1 < b.pay 2 1)),
    fieldIf b 8 8 (b.pay 8 8 = 0),
    fieldIf b 1 1 (x.live && x.pipe != p),
    fieldIf b 8 8 (members.any fun n => decide ((s.layer n).state ≠ .assigned) || (s.layer n).pipe != p),
    (members.findSome? fun n => (podOf s n).filter (· != k)).map fun o => .err stBusy o,
    failIf ((s.pipes.any fun q => q.carried.any fun g => g.pod == k) || moving.any fun n => carries s n) (.err stBusy 0xFF) ]

/-- Effect of POD_DEFINE; R141, R157. -/
def podDefineApply (b : Barge) (s : State) : State :=
  complete b .ok (s.mapPod (b.pay 0 1) fun _ =>
    { live := true, pipe := b.pay 1 1, atomic := b.pay 2 1 == 0, members := podMembers b })

/-- POD_DEFINE; R157. -/
def execPodDefine (b : Barge) (s : State) : Out := barge podDefineCheck podDefineApply b s

/-- Checks of POD_DELETE; R158. -/
def podDeleteCheck (b : Barge) (s : State) : Option Reply :=
  let k := b.pay 0 1
  firstFail [ lenIs b 8, reservedBytes b 1 7, fieldIf b 0 1 (decide (63 < k)),
    failIf (!(s.pod k).live) (badHandle k),
    failIf (s.pipes.any fun q => q.carried.any fun g => g.pod == k) (freeReply stBusy s) ]

/-- Effect of POD_DELETE; R158. -/
def podDeleteApply (b : Barge) (s : State) : State := complete b .ok (s.mapPod (b.pay 0 1) fun _ => {})

/-- POD_DELETE; R158. -/
def execPodDelete (b : Barge) (s : State) : Out := barge podDeleteCheck podDeleteApply b s

/-! ### Rectangles and the damage map (R148 to R150) -/

/-- Integers from `a` to `b`, both included. -/
def intsUpTo (a b : Int) : List Nat := if b < a then [] else (List.range ((b - a).toNat + 1)).map (· + a.toNat)

/-- Tiles that a rectangle of pipe coordinates touches, clipped to the active area (R149). -/
def rectTiles (c : PipeCfg) (x0 x1 y0 y1 : Int) : List Nat :=
  let x0 := max 0 x0
  let y0 := max 0 y0
  let x1 := min ((c.hActive : Int) - 1) x1
  let y1 := min ((c.vActive : Int) - 1) y1
  if x1 < x0 ∨ y1 < y0 then []
  else
    (intsUpTo (y0 / 16) (y1 / 16)).flatMap fun r =>
      (intsUpTo (x0 / 64) (x1 / 64)).map fun t => r * tileCols c.hActive + t

/-- Tiles of a layer's destination rectangle. -/
def dstTiles (c : PipeCfg) (l : LayerCfg) : List Nat :=
  if l.dstW = 0 ∨ l.dstH = 0 then [] else rectTiles c l.dstX (l.dstX + l.dstW - 1) l.dstY (l.dstY + l.dstH - 1)

/-- Tiles of a rectangle in a layer's source coordinates (R150). -/
def srcTiles (c : PipeCfg) (l : LayerCfg) (sx0 sx1 sy0 sy1 : Int) : List Nat :=
  if l.dstW = 0 ∨ l.dstH = 0 ∨ l.srcW = 0 ∨ l.srcH = 0 then []
  else
    let th : Int := if l.bypassH then 0 else (ceilDiv l.tapsH 2 : Nat)
    let tv : Int := if l.bypassV then 0 else (ceilDiv l.tapsV 2 : Nat)
    let x0 := l.dstX + (sx0 - th - l.srcX) * l.dstW / (l.srcW : Int)
    let x1 := l.dstX + ceilDivI ((sx1 + 1 + th - l.srcX) * l.dstW) l.srcW - 1
    let y0 := l.dstY + (sy0 - tv - l.srcY) * l.dstH / (l.srcH : Int)
    let y1 := l.dstY + ceilDivI ((sy1 + 1 + tv - l.srcY) * l.dstH) l.srcH - 1
    rectTiles c (max x0 l.dstX) (min x1 (l.dstX + l.dstW - 1)) (max y0 l.dstY) (min y1 (l.dstY + l.dstH - 1))

/-- All tiles of a pipe. -/
def allTiles (c : PipeCfg) : List Nat := List.range (tileCols c.hActive * tileRows c.vActive)

/-- First tile column of a half (R163). -/
def halfCol (c : PipeCfg) (h : Nat) : Nat := if c.links = 2 then h * (c.wl / 64) else 0
/-- Tile columns of a half. -/
def halfCols (c : PipeCfg) : Nat := tileCols c.wl

/-- Damage bits set; a tile of the row that a lane is composing is remembered as marked again (R24, R25, R164). -/
def markDamage (p : Nat) (tiles : List Nat) (s : State) : State :=
  if tiles.isEmpty then s
  else s.mapPipe p fun x =>
    let cols := tileCols x.cfg.hActive
    { x with
      damage := x.damage.zipIdx.map fun d => d.1 || tiles.contains d.2
      halves := x.halves.map fun h =>
        if h.nextLine % 16 = 0 && !h.begun then h
        else { h with again := (h.again ++ (tiles.filter fun t => t / cols == h.nextLine / 16).map (· % cols)).eraseDups } }

/-- Every tile of a pipe set (R148). -/
def markAll (p : Nat) (s : State) : State :=
  let c := (s.pipe p).cfg
  let n := tileCols c.hActive * tileRows c.vActive
  markDamage p (allTiles c) (s.mapPipe p fun x => { x with damage := List.replicate n true })

/-! ### DAMAGE_DECLARE (R160) -/

/-- Rectangle `r` of a DAMAGE_DECLARE: X, Y, W, H. -/
def declareRect (b : Barge) (r : Nat) : Nat × Nat × Nat × Nat :=
  (b.pay (8 + 8 * r) 2, b.pay (10 + 8 * r) 2, b.pay (12 + 8 * r) 2, b.pay (14 + 8 * r) 2)

/-- Tiles that a DAMAGE_DECLARE sets, mapped with the layers as they stand at the lock (R149, R150). -/
def declareTiles (s : State) (b : Barge) : List Nat :=
  let c := (s.pipe (b.pay 0 1)).cfg
  ((List.range (b.pay 3 1)).flatMap fun r =>
    let (x, y, w, h) := declareRect b r
    if b.pay 1 1 = 1 then srcTiles c (s.layer (b.pay 2 1)).active x (x + w - 1 : Nat) y (y + h - 1 : Nat)
    else rectTiles c x (x + w - 1 : Nat) y (y + h - 1 : Nat)).eraseDups

/-- Checks of DAMAGE_DECLARE; R160. -/
def damageDeclareCheck (b : Barge) (s : State) : Option Reply :=
  let n := b.pay 2 1
  let rects := List.range (b.pay 3 1)
  firstFail ([ lenIs b (8 + 8 * b.pay 3 1), reservedBytes b 4 4,
    fieldIf b 0 1 (decide (7 < b.pay 0 1)), fieldIf b 1 1 (decide (1 < b.pay 1 1)),
    fieldIf b 2 1 (if b.pay 1 1 = 0 then n != 0
      else decide (63 < n) || decide ((s.layer n).state ≠ .assigned) || (s.layer n).pipe != b.pay 0 1),
    fieldIf b 3 1 (b.pay 3 1 = 0 || decide (32 < b.pay 3 1)) ] ++
    rects.map (fun r => fieldIf b (12 + 8 * r) 2 (b.pay (12 + 8 * r) 2 = 0)) ++
    rects.map (fun r => fieldIf b (14 + 8 * r) 2 (b.pay (14 + 8 * r) 2 = 0)))

/-- DAMAGE_DECLARE waits for the lock, or completes at once on a pipe that is not running; R160. -/
def damageDeclareApply (b : Barge) (s : State) : State :=
  if (s.pipe (b.pay 0 1)).state = .running then
    s.mapPipe (b.pay 0 1) fun p => { p with atLock := p.atLock ++ [.damage b] }
  else complete b .ok s

/-- DAMAGE_DECLARE; R160. -/
def execDamageDeclare (b : Barge) (s : State) : Out := barge damageDeclareCheck damageDeclareApply b s

/-! ### LAYER_QUERY (R161) -/

/-- Handle that a layer state names, 0 if none or a camera. -/
def LayerCfg.shownHandle (c : LayerCfg) : Nat := if c.hasSource && c.kind != 1 then c.handle else 0

/-- A slot has a change that no lock has applied and none carries: pending, or taken by a COMMIT. -/
def changePending (s : State) (n : Nat) : Bool :=
  (s.layer n).pending != 0 || s.pipes.any fun p =>
    (p.shadow.toList ++ p.waiting).any fun c => c.groups.any fun g => g.changes.any fun x => x.slot == n

/-- Report body of LAYER_QUERY (Table 4-9). -/
def layerBody (s : State) (n : Nat) : List Byte :=
  let l := s.layer n
  let un := decide (l.state = .unassigned)
  leBytes 1 l.state.code ++ leBytes 1 (if un then 0xFF else l.pipe) ++ leBytes 1 l.active.zpos ++
    leBytes 1 (b2n l.active.enable + 2 * b2n (changePending s n) + 4 * b2n (carries s n) + 8 * b2n (podOf s n).isSome) ++
    leBytes 1 ((podOf s n).getD 0xFF) ++ leBytes 1 l.active.kind ++ leBytes 2 0 ++
    leBytes 8 l.active.shownHandle ++ leBytes 8 l.shadow.shownHandle ++ leBytes 8 l.appliedTime ++ leBytes 4 l.deferrals ++
    leBytes 12 0

/-- Checks of LAYER_QUERY; R161. -/
def layerQueryCheck (b : Barge) (_ : State) : Option Reply :=
  firstFail [ lenIs b 8, reservedBytes b 1 7, fieldIf b 0 1 (decide (63 < b.pay 0 1)) ]

/-- Effect of LAYER_QUERY; R161. -/
def layerQueryApply (b : Barge) (s : State) : State :=
  complete b { report := some (layerBody s (b.pay 0 1)) } s

/-- LAYER_QUERY; R161. -/
def execLayerQuery (b : Barge) (s : State) : Out := barge layerQueryCheck layerQueryApply b s

end Sys2Proof.Machine
end

