-- ==== Sys2Proof/Machine/Basin.lean ====
section
/-! DEFINITION. The basin: row words and their code, reconstruction from the shadow bank, frames and probes, reads and line
writes (files 07 and 18). -/
namespace Sys2Proof.Machine

open Sys2Proof

/-! ### The code of a row word (R542) -/

/-- Position q_j of data bit j in its code lane (R542). -/
def lanePos (j : Nat) : Nat := [3, 5, 6, 7, 9, 10, 11, 12, 13, 14, 15, 17, 18, 19, 20, 21].getD j 0

/-- Wrong bits of code lane `i`: data bits j, and check bits k, of a row's error masks. -/
def laneErrors (i : Nat) (e : Nat × Nat) : List Nat × List Nat :=
  ((List.range 16).filter fun j => e.1.testBit (16 * j + i), (List.range 6).filter fun k => e.2.testBit (6 * i + k))

/-- What a code lane makes of its wrong bits (R542): none if uncorrectable, else the data bits that are wrong afterwards
and whether it corrected. -/
def laneDecode (l : List Nat × List Nat) : Option (List Nat × Bool) :=
  let s := (l.1.map lanePos ++ (l.2.filter (· < 5)).map (2 ^ ·)).foldl (· ^^^ ·) 0
  let odd := (l.1.length + l.2.length) % 2 = 1
  if odd then
    if 22 ≤ s then none
    else match (List.range 16).find? fun j => lanePos j == s with
      | some j => some (if l.1.contains j then l.1.filter (· != j) else j :: l.1, true)
      | none => some (l.1, true)
  else if s = 0 then some (l.1, false) else none

/-- A row word's decoding, lane by lane from lane `i`: the mask of the data bits that are wrong afterwards, and whether a
lane corrected; none if a lane is uncorrectable (R542). -/
def decodeLanes (e : Nat × Nat) : Nat → Option (Nat × Bool)
  | 0 => some (0, false)
  | n + 1 =>
    match laneDecode (laneErrors n e), decodeLanes e n with
    | some (l, c), some (m, d) => some (m + (l.map fun j => 2 ^ (16 * j + n)).sum, c || d)
    | _, _ => none

/-- Check bits that the code gives a mask of data bits (R542). -/
def checkOf (data : Nat) : Nat :=
  ((List.range 16).map fun i =>
    let js := (List.range 16).filter fun j => data.testBit (16 * j + i)
    let s := (js.map lanePos).foldl (· ^^^ ·) 0
    let ks := (List.range 5).filter fun k => s.testBit k
    (ks.map fun k => 2 ^ (6 * i + k)).sum + ((js.length + ks.length) % 2) * 2 ^ (6 * i + 5)).sum

/-- Stored error masks of a row. -/
def errOf (l : List (Nat × Nat × Nat)) (w : Nat) : Nat × Nat := ((l.find? fun x => x.1 == w).map (·.2)).getD (0, 0)

/-- The list of error masks with those of one row replaced. -/
def setErr (l : List (Nat × Nat × Nat)) (w : Nat) (e : Nat × Nat) : List (Nat × Nat × Nat) :=
  let l := l.filter fun x => x.1 != w
  if e = (0, 0) then l else (w, e) :: l

/-! ### Banks (R214 to R217, R543, R590) -/

/-- Logical bank of a row word (R215). -/
def bankOf (w : Nat) : Nat := w % 16
/-- Physical bank of a logical bank. -/
def physBank (s : State) (b : Nat) : Nat := s.basin.map.getD b 0
/-- A physical bank is out of service. -/
def bankDead (s : State) (p : Nat) : Bool := s.faults.bankBad.getD p false

/-- A fault of a physical bank is recorded and the bank is out of service; RESPONSE 2 (R554, R564). A rolling test of another
bank stops (R556). -/
def bankOut (p : Nat) (s : State) : State :=
  quarantine 2 p (faultRecord 4 p 2 (objectFlags s 2 p false) []
    (s.mapFaults fun f =>
      { f with bankBad := f.bankBad.set p true, tests := f.tests.filter fun t => !(t.kind == 2 && t.barge.isNone && !t.offline) }))

/-- The shadow bank is found failed: nothing is remapped, and no shadow is left (R590). -/
def shadowFails (s : State) : State :=
  match s.basin.shadow with
  | none => s
  | some p => raise 109 0x0D03 [0xFF] (bankOut p (s.mapBasin fun b => { b with shadow := none, shadowErrs := [] }))

/-- A logical bank fails: it is served by reconstruction while the shadow can still replace it (R217), else the fault is
beyond the guarantee (R553). -/
def bankFails (b : Nat) (s : State) : State :=
  if s.basin.failed.isNone && s.basin.shadow.isSome then
    bankOut (physBank s b) (s.mapBasin fun x => { x with failed := some b })
  else setCondition 1 s

/-- A row word with injected wrong bits stands as kind 21 among the injected objects; the bank that fails by it was taken out
by injection (R575). -/
def noteInjected (w : Nat) (s : State) : State :=
  if s.faults.injected.contains (21, w) then
    s.mapFaults fun f => { f with injected := f.injected ++ [(2, physBank s (bankOf w))] }
  else s

/-- What a read of one stored row gives: the mask of data bits that are wrong in what the reader receives, or nothing. The
corrected word is counted and rewritten (R543). -/
def readStored (shadow : Bool) (w : Nat) (s : State) : Option Nat × State :=
  let e := errOf (if shadow then s.basin.shadowErrs else s.basin.errs) w
  match decodeLanes e 16 with
  | none => (none, s)
  | some (m, false) => (some m, s)
  | some (m, true) =>
    let put := fun (l : List (Nat × Nat × Nat)) => setErr l w (if m = 0 then (0, 0) else (m, checkOf m))
    (some m, (s.mapBasin fun b =>
      if shadow then { b with shadowErrs := put b.shadowErrs } else { b with errs := put b.errs }).mapCtr fun c =>
        { c with basinCorrected := c.basinCorrected + 1 })

/-- The rows of one row number in the banks of a list: the sum of what is wrong in them, none if one cannot be read. -/
def readRows (r : Nat) : List Nat → State → Option Nat × State
  | [], s => (some 0, s)
  | b :: l, s =>
    if bankDead s (physBank s b) then (none, s)
    else
      let (m, s) := readStored false (16 * r + b) s
      let (n, s) := readRows r l s
      (match m, n with | some x, some y => some (x ^^^ y) | _, _ => none, s)

/-- Reconstruction of a row of the failed bank: the shadow row and the same row of the other fifteen (R217). -/
def reconstruct (w : Nat) (s : State) : Option Nat × State :=
  let (m, s) := readStored true (w / 16) s
  let (n, s) := readRows (w / 16) ((List.range 16).filter (· != bankOf w)) s
  (match m, n with | some x, some y => some (x ^^^ y) | _, _ => none, s)

/-- A read of a row word: the mask of wrong data bits of what the reader receives, none if it is driven as the bank returns
it (R217, R543). -/
def readRow (w : Nat) (s : State) : Option Nat × State :=
  let b := bankOf w
  let recover := fun (s : State) =>
    let (m, s) := reconstruct w s
    (m, if m.isNone then setCondition 1 s else s)
  if s.basin.failed = some b then recover s
  else if bankDead s (physBank s b) then (none, setCondition 1 s)
  else
    let (m, s) := readStored false w s
    match m with
    | some m => (some m, s)
    | none =>
      let s := bankFails b (noteInjected w s)
      if s.basin.failed = some b then recover s else (none, s)

/-- The colour word at a basin address. -/
def State.basinWord (s : State) (a : Nat) : Word32 := sparseRead 0 s.basin.cells a

/-- What a reader receives of an address, from its row's mask of wrong bits. -/
def wordWith (s : State) (a mask : Nat) : Word32 := s.basinWord a ^^^ BitVec.ofNat 32 (mask >>> (32 * (a % 8)))

/-- A run of basin addresses as a reader receives them, row word by row word: none for a word driven as the bank returns it;
`cur` is the row word last read. -/
def readBasin : List Nat → Option (Nat × Option Nat) → State → List (Option Word32) × State
  | [], _, s => ([], s)
  | a :: l, cur, s =>
    let w := a / 8
    let (m, s) : Option Nat × State := match cur with
      | some (v, m) => if v = w then (m, s) else readRow w s
      | none => readRow w s
    let here := m.map (wordWith s a)
    let (rest, s) := readBasin l (some (w, m)) s
    (here :: rest, s)

/-- The bits of a row word that the addresses of a list hold. -/
def writtenMask (l : List (Nat × Word32)) : Nat := (l.map fun x => (2 ^ 32 - 1) * 2 ^ (32 * (x.1 % 8))).sum

/-- Words of one row word written with the shadow's update in the same transaction (R216, R217). Of a row that cannot be
read, the other words keep undefined colours: free values. -/
def writeRow (w : Nat) (l : List (Nat × Word32)) (s : State) : State :=
  let (m, s) := readRow w s
  let b := bankOf w
  let mask := writtenMask l
  let put := fun (s : State) => s.mapBasin fun x => { x with cells := l.foldl (fun c y => sparseWrite 0 c y.1 y.2) x.cells }
  let s := match m with
    | some m =>
      let rest := m - (m &&& mask)
      put (if s.basin.failed = some b then s
        else s.mapBasin fun x => { x with errs := setErr x.errs w (if rest = 0 then (0, 0) else (rest, checkOf rest)) })
    | none =>
      let others := (List.range 8).filter fun i => !(l.any fun y => y.1 == 8 * w + i)
      let s' := s.mapBasin fun x =>
        { x with
          cells := others.foldl (fun c i => sparseWrite 0 c (8 * w + i) (Config.basinColour s.free (8 * w + i))) x.cells
          errs := setErr x.errs w (0, 0) }
      put s'.takeFree
  if s.basin.shadow.isNone then s
  else
    let (n, s) := readStored true (w / 16) s
    match n with
    | none => shadowFails s
    | some n =>
      let wrong := if s.basin.failed = some b then n else n ^^^ ((m.getD 0) &&& mask)
      s.mapBasin fun x => { x with shadowErrs := setErr x.shadowErrs (w / 16) (if wrong = 0 then (0, 0) else (wrong, checkOf wrong)) }

/-- Words written to the basin, row word by row word. -/
def writeBasinFuel : Nat → List (Nat × Word32) → State → State
  | 0, _, s => s
  | n + 1, l, s =>
    match l with
    | [] => s
    | (a, v) :: _ =>
      let same := l.filter fun x => x.1 / 8 == a / 8
      writeBasinFuel n (l.filter fun x => x.1 / 8 != a / 8) (writeRow (a / 8) (if same.isEmpty then [(a, v)] else same) s)

/-- Words written to the basin (R216). -/
def writeBasin (l : List (Nat × Word32)) (s : State) : State := writeBasinFuel l.length l s

/-- New wrong bits in stored rows. -/
def addBasinUpsets (l : List BasinUpset) (s : State) : State :=
  s.mapBasin fun b => { b with errs := l.foldl (fun e u =>
    let o := errOf e u.row
    setErr e u.row (o.1 ^^^ u.data % 2 ^ 256, o.2 ^^^ u.check % 2 ^ 96)) b.errs }

/-- BANK_REBUILD_COMPLETE (R217): the shadow bank has become the failed bank's replacement. A row that could not be
reconstructed keeps an undefined content: free values. -/
def execBankRebuildComplete (s : State) : Out :=
  match s.basin.failed, s.basin.shadow with
  | some b, some p =>
    done (raise 109 0x0D03 (leBytes 1 b) (s.mapBasin fun x =>
      { x with
        map := x.map.set b p, shadow := none, failed := none
        errs := (x.errs.filter fun e => bankOf e.1 != b) ++ x.shadowErrs.map fun e => (16 * e.1 + b, e.2)
        shadowErrs := [] }))
  | _, _ => done s

/-! ### Frames (R218 to R220, R237) -/

/-- Basin address of a frame offset (R220). -/
def frameAddr (p : Pipe) (f : Nat) : Nat := (p.units.getD (f / 128) 0) * 128 + f % 128

/-- Frame offset of pixel (x, y) (Table 7-1). -/
def pixelOffset (c : PipeCfg) (x y : Nat) : Nat :=
  let wl := c.wl
  let h := x / wl
  h * (wl * c.vActive) + y * wl + (x - h * wl)

/-- Addresses of the pixels of a line of a half, `n` of them from its pixel `x`. -/
def lineAddrs (p : Pipe) (h y x n : Nat) : List Nat :=
  (List.range n).map fun i => frameAddr p (pixelOffset p.cfg (h * p.cfg.wl + x + i) y)

/-- Addresses of the probe of a half (Table 7-1). -/
def probeAddrs (p : Pipe) (h : Nat) : List Nat :=
  (List.range 1280).map fun i => frameAddr p (p.cfg.hActive * p.cfg.vActive + 1280 * h + i)

/-- Word i of the probe of a link (R237). -/
def probeWord (l i : Nat) : Word32 :=
  BitVec.ofNat 32 ((i % 1024) * 2 ^ 20 + (1023 - i % 1024) * 2 ^ 10 + (5 * i + 97 * l) % 1024)

/-- CRC-32C of a run of words with tags cleared, from a register (R237, R239). -/
def crcWords (reg : Nat) (l : List Word32) : Nat :=
  crcRun 32 0x1EDC6F41 true reg (l.flatMap fun w => leBytes 4 (w.toNat % 2 ^ 30))

/-- The value of a CRC-32C register (R75). -/
def crcValue (reg : Nat) : Nat := crcOut 32 true true reg

/-- The value that firmware computed for the probe of a link (R237). -/
def probeCrc (l : Nat) : Nat := crcValue (crcWords 0xFFFFFFFF ((List.range 1280).map (probeWord l)))

/-- Tiles of a pipe that hold the pixels of a row word. -/
def tilesOfRow (p : Pipe) (w : Nat) : List Nat :=
  let c := p.cfg
  let size := c.hActive * c.vActive
  ((p.units.zipIdx.filter fun u => u.1 == w / 16).flatMap fun u =>
    (List.range 8).filterMap fun i =>
      let f := 128 * u.2 + 8 * (w % 16) + i
      if size ≤ f then none
      else
        let wl := c.wl
        let h := f / (wl * c.vActive)
        let g := f % (wl * c.vActive)
        some (g / wl / 16 * tileCols c.hActive + (h * wl + g % wl) / 64)).eraseDups

/-- Words driven as a bank returns them (R543): every tile they belong to is damaged, and one record for each bank in a
frame of the pipe. -/
def noteBadWord (p w : Nat) (s : State) : State :=
  let b := bankOf w
  let s := markDamage p (tilesOfRow (s.pipe p) w) s
  if s.basin.recorded.contains (p, b) then s
  else faultRecord 3 (physBank s b) 1 (objectFlags s 2 (physBank s b) true) []
    (s.mapBasin fun x => { x with recorded := (p, b) :: x.recorded })

/-- Rows of a read's addresses that were driven as the bank returned them. -/
def badRows (addrs : List Nat) (l : List (Option Word32)) : List Nat :=
  ((addrs.zip l).filterMap fun x => if x.2.isNone then some (x.1 / 8) else none).eraseDups

/-- Pixels of a pipe read for driving or for the tap: undefined colours of words that no bank can give are free values
(R543). -/
def readPixels (p : Nat) (addrs : List Nat) (s : State) : List Word32 × State :=
  let (l, s) := readBasin addrs none s
  let words := (addrs.zip l).map fun x => match x.2 with
    | some w => w
    | none => BitVec.ofNat 32 ((Config.basinColour s.free x.1).toNat % 2 ^ 30)
  (words, (badRows addrs l).foldl (fun s w => noteBadWord p w s) s.takeFree)

end Sys2Proof.Machine
end

