-- ==== Sys2Proof/Machine/Colour.lean ====
section
/-! DEFINITION. The colour stage, tone mapping, blending, the output stage and the write-back tap: integer arithmetic on
values and on tables that firmware derives in binary64 (file 06). -/
namespace Sys2Proof.Machine

open Sys2Proof

/-! ### Un-premultiply, range and matrix (R192, R193) -/

/-- Un-premultiply of one component (R192). -/
def unpremultiply (c alpha : Int) : Int :=
  if alpha = 0 then 0 else clampI (-32768) 32767 ((c * 4096 + alpha / 2) / alpha)

/-- Source bit depths of the three components of a format (Table 5-2). -/
def fmtDepths (f : Nat) : List Nat :=
  if f = 3 ∨ f = 0x11 ∨ f = 0x13 then [10, 10, 10] else if f = 4 then [5, 6, 5] else [8, 8, 8]

/-- 2^(n − 8) for a bit depth (R193). -/
def depthScale (n : Nat) : Rat := ((2 ^ n : Nat) : Rat) / 256

/-- s_Y and s_C (R193). -/
def rangeScales (limited : Bool) (n : Nat) : Rat × Rat :=
  if limited then
    (((2 ^ n - 1 : Nat) : Rat) / (219 * depthScale n), ((2 ^ n - 1 : Nat) : Rat) / (224 * depthScale n))
  else (1, 1)

/-- O_Y, and O_C of a YCbCr source (R193). -/
def rangeOffsets (limited : Bool) (n : Nat) : Int × Int :=
  let f := fun (v : Rat) => ratRoundAway (v * depthScale n * 4096 / ((2 ^ n - 1 : Nat) : Rat))
  (if limited then f 16 else 0, f 128)

/-- Kr and Kb of a COLOUR_ENC (R193). -/
def lumaWeights (enc : Nat) : Rat × Rat :=
  if enc = 3 then (2627 / 10000, 593 / 10000) else if enc = 4 then (299 / 1000, 114 / 1000) else (2126 / 10000, 722 / 10000)

/-- Coefficient as S2.13 (R193). -/
def coeff13 (q : Rat) : Int := ratRoundAway (q * 8192)

/-- Rows of M (R193) for a colour code, a range and the depths of the components. -/
def colourMatrix (enc : Nat) (limited : Bool) (depths : List Nat) : List (List Int) :=
  if enc < 2 then
    let d := fun i => coeff13 (rangeScales limited (depths.getD i 8)).1
    [[d 0, 0, 0], [0, d 1, 0], [0, 0, d 2]]
  else
    let (sy, sc) := rangeScales limited (depths.getD 0 8)
    let (kr, kb) := lumaWeights enc
    let kg := 1 - kr - kb
    [[coeff13 sy, 0, coeff13 (2 * (1 - kr) * sc)],
     [coeff13 sy, coeff13 (-(2 * (1 - kb) * kb / kg * sc)), coeff13 (-(2 * (1 - kr) * kr / kg * sc))],
     [coeff13 sy, coeff13 (2 * (1 - kb) * sc), 0]]

/-- O of each component (R193). -/
def colourOffsets (enc : Nat) (limited : Bool) (depths : List Nat) : List Int :=
  if enc < 2 then depths.map fun n => (rangeOffsets limited n).1
  else
    let (y, c) := rangeOffsets limited (depths.getD 0 8)
    [y, c, c]

/-- Sum of products of two lists. -/
def dot (a b : List Int) : Int := (List.zipWith (· * ·) a b).sum

/-- The range and matrix stage (R193). -/
def rangeMatrix (enc : Nat) (limited linear : Bool) (depths : List Nat) (c : List Int) : List Int :=
  let v := List.zipWith (· - ·) c (colourOffsets enc limited depths)
  (colourMatrix enc limited depths).map fun row =>
    let out := (dot row v + 4096) / 8192
    if linear then clampI (-32768) 32767 out else clampI 0 4096 out

/-! ### Linearisation (R195) -/

/-- m1, m2, c1, c2 and c3 of PQ (Table 6-3). -/
def pqM1 : Rat := 2610 / 16384
/-- m2. -/
def pqM2 : Rat := 128 * 2523 / 4096
/-- c1. -/
def pqC1 : Rat := 3424 / 4096
/-- c2. -/
def pqC2 : Rat := 32 * 2413 / 4096
/-- c3. -/
def pqC3 : Rat := 32 * 2392 / 4096

/-- Y_PQ(x) in cd/m² (Table 6-3). -/
def pqLuminance (x : Rat) : Rat :=
  let t := f64Pow x (f64Div 1 pqM2)
  f64Mul 10000 (f64Pow (f64Div (max (f64Sub t pqC1) 0) (f64Sub pqC2 (f64Mul pqC3 t))) (f64Div 1 pqM1))

/-- The inverse of Y_PQ at a luminance (R209). -/
def pqCode (l : Rat) : Rat :=
  let t := f64Pow (f64Div l 10000) pqM1
  f64Pow (f64Div (f64Add pqC1 (f64Mul pqC2 t)) (f64Add 1 (f64Mul pqC3 t))) pqM2

/-- F(x) of Table 6-3. -/
def linearF (transfer wSdr : Nat) (x : Rat) : Rat :=
  match transfer with
  | 0 => if x ≤ f64 (4045 / 100000) then f64Div x (f64 (1292 / 100))
         else f64Pow (f64Div (f64Add x (f64 (55 / 1000))) (f64 (1055 / 1000))) (f64 (24 / 10))
  | 1 => f64Pow x (f64 (24 / 10))
  | 2 => f64Pow x (f64 (22 / 10))
  | 4 => f64Div (pqLuminance x) wSdr
  | 5 =>
    let a := f64 (17883277 / 100000000)
    let b := f64 (28466892 / 100000000)
    let c := f64 (55991073 / 100000000)
    let e := if x ≤ 1 / 2 then f64Div (f64Mul x x) 3 else f64Div (f64Add (f64Exp (f64Div (f64Sub x c) a)) b) 12
    f64Div (f64Mul 1000 (f64Pow e (f64 (12 / 10)))) wSdr
  | _ => x

/-- T[k] (R195). -/
def linearEntry (transfer wSdr k : Nat) : Nat :=
  min (2 ^ 28 - 1) (ratRoundAway (f64Mul (2 ^ 20) (linearF transfer wSdr ((k : Rat) / 1024)))).toNat

/-- Linear light of a non-linear value (R195). -/
def linearise (transfer wSdr : Nat) (v : Int) : Nat :=
  if transfer = 3 then (max 0 v).toNat * 256
  else
    let n := v.toNat
    let t := linearEntry transfer wSdr (n / 4)
    let f := n % 4
    if f = 0 then t
    else ((t : Int) + ((((linearEntry transfer wSdr (n / 4 + 1) : Nat) : Int) - t) * f + 2) / 4).toNat

/-! ### Gamut (R196) -/

/-- The layer's primaries are BT.2020 (Table 6-2). -/
def encWide (enc : Nat) : Bool := enc == 1 || enc == 3

/-- Rows of Table 6-4: BT.2020 to BT.709, or BT.709 to BT.2020. -/
def gamutRows (toWide : Bool) : List (List Int) :=
  if toWide then [[5139, 2698, 355], [566, 7533, 93], [134, 721, 7337]]
  else [[13602, -4814, -596], [-1021, 9281, -68], [-149, -824, 9165]]

/-- Gamut conversion of a layer's linear light (R196). -/
def gamut (enc primaries : Nat) (l : List Nat) : List Nat :=
  if encWide enc == (primaries == 1) then l
  else
    let v := l.map fun (x : Nat) => (x : Int)
    (gamutRows (primaries == 1)).map fun row => (clampI 0 (2 ^ 28 - 1) ((dot row v + 4096) / 8192)).toNat

/-! ### Tone mapping (R197 to R203) -/

/-- P_out of an output stage: 2^20 × PIPE_PEAK / W_SDR, rounded. -/
def OutStage.pOut (o : OutStage) : Nat := (ratRoundAway (f64Div ((2 ^ 20 * o.peak : Nat) : Rat) o.wSdr)).toNat

/-- Table index s and remainder r of a value, with `k` bits of q in the index (R197: 2, R209: 4). -/
def logIndex (k m : Nat) : Nat × Nat :=
  let e := Nat.log2 m
  let q := (m - 2 ^ e) * 256 / 2 ^ e
  (2 ^ k * e + q / 2 ^ (8 - k), q % 2 ^ (8 - k))

/-- The gain of a tone table at a value (R197). -/
def toneGain (gt : List Nat) (m : Nat) : Int :=
  let (s, r) := logIndex 2 m
  let a : Int := (gt.getD s 32768 : Nat)
  a + (((gt.getD (s + 1) 32768 : Nat) - a) * r + 32) / 64

/-- m of a linear-light pixel: its largest component. -/
def peakOf (l : List Nat) : Nat := l.foldl max 0

/-- The tone stage (R197). -/
def toneMap (mode : Nat) (gt : List Nat) (pOut : Nat) (l : List Nat) : List Nat :=
  let m := peakOf l
  let g : Int := if mode = 0 ∨ m = 0 then 32768 else toneGain gt m
  l.map fun (c : Nat) => min ((((c : Int) * g + 16384) / 32768).toNat) pOut

/-- m_s of R198, relative to W_SDR. -/
def toneNode (s : Nat) : Rat := ((2 ^ (s / 4) * (4 + s % 4) : Nat) : Rat) / 4 / 1048576

/-- C(m) of R198. -/
def toneCurveAt (lin lout kn m : Rat) : Rat :=
  if lin ≤ lout then m
  else if m ≤ kn then m
  else if lin ≤ m then lout
  else
    let a := f64Sub m kn
    let b := f64Sub lin kn
    let c := f64Sub lout kn
    let d := f64Div (f64Mul b c) (f64Sub b c)
    f64Add kn (f64Div (f64Mul a d) (f64Add d a))

/-- The 113-entry tone table of a curve (R198). -/
def toneTable (lin lout kn : Rat) : List Nat :=
  (List.range 113).map fun s =>
    let m := toneNode s
    (ratRoundAway (f64Div (f64Mul 32768 (toneCurveAt lin lout kn m)) m)).toNat

/-- Lout of a pipe (R198). -/
def OutStage.lout (o : OutStage) : Rat := (o.pOut : Rat) / 1048576
/-- Kn of a seed curve code (R199). -/
def seedKnee (o : OutStage) (code : Nat) : Rat := f64Mul ((field code 7 4 : Nat) / 16) o.lout

/-- Lin of a seed curve code; `maxCll` is the stream's declared maximum, 0 for none or for no stream (R199). -/
def seedLin (o : OutStage) (code maxCll : Nat) : Rat :=
  let nits := if code / 256 = 0 then (if maxCll = 0 then 1000 else maxCll) else 50 * (code / 256)
  f64Div nits o.wSdr

/-- The seed table S (R199). -/
def seedTable (o : OutStage) (code maxCll : Nat) : List Nat := toneTable (seedLin o code maxCll) o.lout (seedKnee o code)

/-- The target table A of a peak bin (R202). -/
def targetTable (o : OutStage) (code b : Nat) : List Nat := toneTable (toneNode (2 * b + 2)) o.lout (seedKnee o code)

/-- The smallest bin above which at most floor(N / 1,024) samples lie (R202). -/
def peakBin (h : List Nat) : Nat :=
  let n := h.sum
  ((List.range 56).find? fun b => decide ((h.drop (b + 1)).sum ≤ n / 1024)).getD 55

/-- Sum of the histograms of a window, bin by bin. -/
def windowSum (w : List (List Nat)) : List Nat := (List.range 56).map fun b => (w.map fun h => h.getD b 0).sum

/-- A step of a table towards its target: `num` sixteenths (R203). -/
def towards (p a : List Nat) (num : Nat) : List Nat :=
  List.zipWith (fun (x y : Nat) => ((x : Int) + (((y : Int) - x) * num + 8) / 16).toNat) p a

/-- The table of R203 for j counted frames: the seed, a step of the ramp, or a step of the adaptation. -/
def adaptTable (o : OutStage) (code j : Nat) (seed previous : List Nat) (window : List (List Nat)) : List Nat :=
  if j ≤ 8 then seed
  else
    let a := targetTable o code (peakBin (windowSum window))
    if j ≤ 24 then towards seed a (j - 8) else towards previous a 4

/-- Bin of a sample (R201). -/
def toneBin (m : Nat) : Nat := if m = 0 then 0 else (logIndex 2 m).1 / 2

/-! ### Blending (R207) -/

/-- Effective alpha (R207). -/
def effectiveAlpha (blend alpha : Nat) (alphaPx : Int) : Nat :=
  let px : Int := if blend = 0 then 4096 else alphaPx
  ((px * expand alpha 8 + 2048) / 4096).toNat

/-- One layer's pixel blended over the accumulator (R207). -/
def blendOver (d : List Nat) (c : List Nat) (a : Nat) : List Nat :=
  List.zipWith (fun d c => (c * a + 2048) / 4096 + (d * (4096 - a) + 2048) / 4096) d c

/-! ### The output stage (R208 to R213) -/

/-- F_out(m) for a node of the panel table, m in units of 2^−20 W_SDR (R209). -/
def panelF (o : OutStage) (m : Rat) : Rat :=
  let x := min 1 (f64Div m o.pOut)
  match o.panelTf with
  | 0 => if x ≤ f64 (31308 / 10000000) then f64Mul (f64 (1292 / 100)) x
         else f64Sub (f64Mul (f64 (1055 / 1000)) (f64Pow x (f64Div 1 (f64 (24 / 10))))) (f64 (55 / 1000))
  | 1 => f64Pow x (f64Div 1 (f64 (24 / 10)))
  | 2 => f64Pow x (f64Div 1 (f64 (22 / 10)))
  | 3 => x
  | _ => pqCode (min (o.peak : Rat) (f64Div (f64Mul m o.wSdr) 1048576))

/-- P[s] for a component k (R209). -/
def panelEntry (o : OutStage) (k s : Nat) : Nat :=
  if o.panelTf = 5 then o.panelLut.getD (449 * k + s) 0
  else
    let m : Rat := ((2 ^ (s / 16) * (16 + s % 16) : Nat) : Rat) / 16
    (ratRoundAway (f64Mul 4095 (panelF o m))).toNat

/-- The panel encode of component k (R209). -/
def panelEncode (o : OutStage) (k m : Nat) : Nat :=
  if m = 0 then panelEntry o k 0
  else
    let (s, r) := logIndex 4 m
    let a : Int := (panelEntry o k s : Nat)
    (a + (((panelEntry o k (s + 1) : Nat) - a) * r + 8) / 16).toNat

/-- Component c of the node (i, j, k) of the 3D LUT (Table 6-5). -/
def lutNode (o : OutStage) (n : List Nat) (c : Nat) : Nat :=
  o.lut3d.getD (3 * (289 * n.getD 0 0 + 17 * n.getD 1 0 + n.getD 2 0) + c) 0

/-- Directions by falling fraction, R, G, B on ties (R210). -/
def lutOrder (f : List Nat) : List Nat :=
  ([0, 1, 2] : List Nat).inOrder fun a b => decide (f.getD b 0 ≤ f.getD a 0)

/-- A node stepped by one in a direction. -/
def lutStep (n : List Nat) (d : Nat) : List Nat := n.modify d (· + 1)

/-- Tetrahedral interpolation (R210). -/
def lut3dMap (o : OutStage) (c : List Nat) : List Nat :=
  let f := c.map (· % 256)
  let ord := lutOrder f
  let v0 := c.map (· / 256)
  let v1 := lutStep v0 (ord.getD 0 0)
  let v2 := lutStep v1 (ord.getD 1 1)
  let v3 := v0.map (· + 1)
  let f1 := f.getD (ord.getD 0 0) 0
  let f2 := f.getD (ord.getD 1 1) 0
  let f3 := f.getD (ord.getD 2 2) 0
  [0, 1, 2].map fun k =>
    ((256 - f1) * lutNode o v0 k + (f1 - f2) * lutNode o v1 k + (f2 - f3) * lutNode o v2 k + f3 * lutNode o v3 k + 128) / 256

/-- The colour of a basin word for a blended pixel: panel encode, 3D LUT, quantise (R209 to R212), tag 0. -/
def outputWord (o : OutStage) (d : List Nat) : Word32 :=
  let c := d.zipIdx.map fun x => panelEncode o x.2 x.1
  let c := if o.lut3dEn then lut3dMap o c else c
  let q := c.map fun x => min 1023 ((x + 2) / 4)
  BitVec.ofNat 32 (q.getD 0 0 * 2 ^ 20 + q.getD 1 0 * 2 ^ 10 + q.getD 2 0)

/-- The 10-bit codes R, G, B of a basin word (R212). -/
def wordCodes (w : Word32) : List Nat := [field w.toNat 29 20, field w.toNat 19 10, field w.toNat 9 0]

/-- A basin word with another tag (R212). -/
def withTag (w : Word32) (tag : Nat) : Word32 := BitVec.ofNat 32 (w.toNat % 2 ^ 30 + (tag % 4) * 2 ^ 30)

/-- Y, Cb, Cr of 10-bit codes (R213). -/
def tapYcc (c : List Nat) : List Int :=
  let r : Int := (c.getD 0 0 : Nat)
  let g : Int := (c.getD 1 0 : Nat)
  let b : Int := (c.getD 2 0 : Nat)
  [64 + (11931 * r + 40136 * g + 4052 * b + 32768) / 65536, 512 + (-6576 * r - 22123 * g + 28700 * b + 32768) / 65536,
   512 + (28700 * r - 26068 * g - 2632 * b + 32768) / 65536]

/-- Bytes of a captured line in a packed format (R213). -/
def tapPacked (format : Nat) (line : List Word32) : List Byte :=
  (line.map fun w =>
    if format = 3 then leBytes 4 (w.toNat % 2 ^ 30 + 3 * 2 ^ 30)
    else
      let c := (wordCodes w).map fun x => (x * 255 + 511) / 1023
      leBytes 4 (0xFF000000 + c.getD 0 0 * 2 ^ 16 + c.getD 1 0 * 2 ^ 8 + c.getD 2 0)).flatten

/-- Bytes of a captured line of P210: plane 0, and plane 1 (R213). -/
def tapP210 (line : List Word32) : List Byte × List Byte :=
  let px := line.map fun w => tapYcc (wordCodes w)
  let n := px.length
  let at' := fun (k i : Nat) => ((px.getD (min i (n - 1)) []).getD k 0)
  let chroma := fun (k i : Nat) => (at' k (2 * i - 1) + 2 * at' k (2 * i) + at' k (2 * i + 1) + 2) / 4
  ((px.map fun c => leBytes 2 ((c.getD 0 0).toNat * 64)).flatten,
   ((List.range ((n + 1) / 2)).map fun i => leBytes 2 ((chroma 1 i).toNat * 64) ++ leBytes 2 ((chroma 2 i).toNat * 64)).flatten)

end Sys2Proof.Machine
end

