-- ==== Sys2Proof/Machine/Compose.lean ====
section
/-! DEFINITION. A lane's pixels: the layers it takes, peeling, the fetch with its holds, the scaler, and the composed words of
a tile segment (files 03, 05 and 06). -/
namespace Sys2Proof.Machine

open Sys2Proof

/-! ### The layers that a lane takes -/

/-- A layer as a lane composes it. -/
structure Drawn where
  /-- Slot. -/
  slot : Nat := 0
  /-- Its active state. -/
  cfg : LayerCfg := {}
  /-- The source: a surface, or a ring slot described as one (R287). -/
  src : Surface := {}
  /-- Index of the source in the surface table, none for a private ring. -/
  index : Option Nat := none
  /-- Progress P of a raced source (R175), none for another. -/
  progress : Option Nat := none
  /-- Tone table in use (R203). -/
  table : List Nat := []
  /-- Sequence number of the camera frame bound (R290). -/
  seq : Nat := 0
  deriving DecidableEq, Repr, Inhabited

/-- A ring slot of a private ring as a surface (R287). -/
def ringSurface (m : Camera) (slot : Nat) : Surface :=
  let d := m.decl
  let base := m.ringBase * 61440 + ringHeader m.slots.length + slot * d.stride
  { base, width := d.width, height := d.height, format := dtFormat d.dt, pitch0 := d.pitch
    pitch1 := if d.dt = 0x1F then d.pitch else 0, offset1 := if d.dt = 0x1F then d.pitch * d.height else 0, live := true }

/-- Source of a camera layer: the ring slot bound for the frame, none before a binding. -/
def cameraSource (s : State) (l : Layer) : Option (Surface × Option Nat × Nat) :=
  let m := s.cam l.active.input
  match l.boundSlot with
  | none => none
  | some k =>
    let p := (m.slots.getD k {}).lines
    if m.handles.isEmpty then some (ringSurface m k, none, p)
    else (s.surface (m.handles.getD k 0)).map fun x => (x, some x.index, p)

/-- A visible layer as the lane composes it, none if it is invisible (R170, R286). -/
def drawnOf (s : State) (n : Nat) (l : Layer) : Option Drawn :=
  let c := l.active
  if !c.enable || c.alpha == 0 || l.hidden || !c.hasSource || c.dstW == 0 || c.dstH == 0 || c.srcW == 0 || c.srcH == 0 then none
  else if c.kind = 1 then
    (cameraSource s l).map fun x =>
      { slot := n, cfg := c, src := x.1, index := x.2.1, progress := some x.2.2, table := l.tone.table, seq := l.boundSeq }
  else (s.surface c.handle).map fun x =>
    { slot := n, cfg := c, src := x, index := some x.index, progress := if c.kind = 2 then some x.watermark else none
      table := l.tone.table }

/-- Visible layers of a pipe from the bottom of the stacking order to the top (R129). -/
def drawnLayers (s : State) (p : Nat) : List Drawn :=
  ((slotsOf s p).filterMap fun x => drawnOf s x.1 x.2).inOrder fun a b =>
    decide (a.cfg.zpos < b.cfg.zpos) || (a.cfg.zpos == b.cfg.zpos && decide (a.slot ≤ b.slot))

/-- The destination rectangle covers a pixel. -/
def Drawn.covers (d : Drawn) (x y : Nat) : Bool :=
  decide (d.cfg.dstX ≤ x) && decide ((x : Int) < d.cfg.dstX + d.cfg.dstW) &&
    decide (d.cfg.dstY ≤ y) && decide ((y : Int) < d.cfg.dstY + d.cfg.dstH)

/-- The layer is opaque (R170). -/
def Drawn.isOpaque (d : Drawn) : Bool := d.cfg.alpha == 255 && (d.cfg.blend == 0 || !fmtAlpha d.src.format)

/-- Pixels of group `g` of 8 columns in an active width. -/
def groupCols (width g : Nat) : List Nat := (List.range (min 8 (width - 8 * g))).map (8 * g + ·)

/-- The layers from the top down to the first that hides the group (R171). -/
def unpeeled (width g y : Nat) : List Drawn → List Drawn
  | [] => []
  | d :: l => if d.isOpaque && (groupCols width g).all fun x => d.covers x y then [d] else d :: unpeeled width g y l

/-- Layers that compose a pixel, from the bottom; `l` is in stacking order (R171, R207). -/
def layersAt (width x y : Nat) (l : List Drawn) : List Drawn :=
  ((unpeeled width (x / 8) y l.reverse).filter fun d => d.covers x y).reverse

/-! ### The samples that a pixel reads (R172, R179 to R183) -/

/-- Destination offsets of a pixel. -/
def Drawn.offset (d : Drawn) (x y : Nat) : Nat × Nat := (((x : Int) - d.cfg.dstX).toNat, ((y : Int) - d.cfg.dstY).toNat)

/-- Surface lines that destination offset v reads, tap by tap. -/
def Drawn.rows (d : Drawn) (v : Nat) : List Nat :=
  let c := d.cfg
  if c.bypassV then [c.srcY + v] else (scaleWindow c.kernel c.tapsV c.hd c.dstH v).map fun i => c.srcY + c.decimate * i

/-- Surface columns that destination offset u reads, tap by tap. -/
def Drawn.cols (d : Drawn) (u : Nat) : List Nat :=
  let c := d.cfg
  if c.bypassH then [c.srcX + u] else (scaleWindow c.kernel c.tapsH c.srcW c.dstW u).map (c.srcX + ·)

/-- Chroma samples (column, line) that a luma position reads (R169). -/
def chromaSpots (u : Surface) (x y : Nat) : List (Nat × Nat) :=
  let cols := (u.width + 1) / 2
  let rows := (u.height + 1) / 2
  let cx := if x % 2 = 0 then [x / 2] else [(x - 1) / 2, min ((x + 1) / 2) (cols - 1)]
  let cy := if fmt420 u.format then [y / 2, if y % 2 = 0 then y / 2 - 1 else min (y / 2 + 1) (rows - 1)] else [y]
  cy.flatMap fun b => cx.map fun a => (a, b)

/-- Codewords that a sample of an uncompressed surface reads, plane 0 and plane 1 (R119). -/
def sampleWords (u : Surface) (x y : Nat) : List Nat :=
  (u.pixelAt x y).1 / 128 ::
    (if fmtYcc u.format then (chromaSpots u x y).flatMap fun c => [(u.chromaAt 0 c.1 c.2).1 / 128, (u.chromaAt 1 c.1 c.2).1 / 128] else [])

/-- Source tiles that a sample reads, its chroma's included (R116). -/
def sampleTiles (u : Surface) (x y : Nat) : List Nat :=
  let n := tileCols u.width
  let step := if fmt420 u.format then 2 else 1
  (y / 16 * n + x / 64) ::
    (if fmtYcc u.format then (chromaSpots u x y).map fun c => (min (u.height - 1) (step * c.2)) / 16 * n + 2 * c.1 / 64 else [])

/-! ### Reading samples -/

/-- Bytes of a codeword as a reader gets them, without counting: none if it has no good copy. -/
def wordData (s : State) (w : Nat) : Option (List Byte) :=
  match primaryState s w with
  | .clean => some (wordBytes s w)
  | .corrected e => some (applyResidual (wordBytes s w) e)
  | .bad =>
    match mirrorState s w with
    | some .clean => some (wordBytes s w)
    | some (.corrected e) => some (applyResidual (wordBytes s w) e)
    | _ => none

/-- Bytes of device memory as a reader gets them, codeword by codeword; 0 where no copy is good. -/
def readDataFuel (s : State) : Nat → Nat → Nat → List Byte
  | 0, _, _ => []
  | fuel + 1, a, n =>
    if n = 0 then []
    else
      let k := min (128 - a % 128) n
      slice ((wordData s (a / 128)).getD []) (a % 128) k ++ readDataFuel s fuel (a + k) (n - k)

/-- Number of `n` bytes at an address as a reader gets it. -/
def readNum (s : State) (r : Nat × Nat) : Nat := leNat (readDataFuel s (r.2 / 128 + 2) r.1 r.2)

/-- A decoded tile of a compressed surface: 1,024 pixel words, all 0 if it is malformed. -/
def tilePixels (s : State) (u : Surface) (col row : Nat) : List Nat :=
  let (slot, ent) := u.tileAt col row
  (decodeTile u.format (readDataFuel s 2 ent 8) (readDataFuel s 34 slot 4096)).getD (List.replicate 1024 0)

/-- A sample of a source as four S3.12 components at full resolution (R168, R169). -/
def sampleAt (s : State) (u : Surface) (x y : Nat) : List Int :=
  if u.compressed then expandRgb u.format ((tilePixels s u (x / 64) (y / 16)).getD (64 * (y % 16) + x % 64) 0)
  else if fmtYcc u.format then
    let get := fun (r : Nat × Nat) => expandYcc u.format (readDataFuel s 2 r.1 r.2)
    let chroma := fun (m : Nat) => chromaFull u.format u.width u.height x y fun a b => get (u.chromaAt m a b)
    [get (u.pixelAt x y), chroma 0, chroma 1, 4096]
  else expandRgb u.format (readNum s (u.pixelAt x y))

/-! ### The scaler's passes (R185) -/

/-- One pass over the window of samples: the sum of products rounded, clamped (R185). -/
def scalePass (coeffs : List Int) (v : List (List Int)) : List Int :=
  (List.range 4).map fun k =>
    let out := ((List.zipWith (fun c x => c * x.getD k 0) coeffs v).sum + 512) / 1024
    if k = 3 then clampI 0 4096 out else clampI (-32768) 32767 out

/-- The sample that the vertical pass gives at a surface column for destination offset v. -/
def Drawn.vertical (d : Drawn) (s : State) (v col : Nat) : List Int :=
  let c := d.cfg
  if c.bypassV then sampleAt s d.src col (c.srcY + v)
  else scalePass (coefficients c.kernel c.tapsV (scalePhase c.hd c.dstH v)) ((d.rows v).map fun y => sampleAt s d.src col y)

/-- The scaler's output for a pixel: four S3.12 components. -/
def Drawn.scaled (d : Drawn) (s : State) (x y : Nat) : List Int :=
  let c := d.cfg
  let (u, v) := d.offset x y
  if c.bypassH then d.vertical s v (c.srcX + u)
  else scalePass (coefficients c.kernel c.tapsH (scalePhase c.srcW c.dstW u)) ((d.cols u).map fun a => d.vertical s v a)

/-! ### Colour and blending -/

/-- Linear light of a layer's pixel in the pipe's primaries, before the tone stage, and its alpha (R192 to R196). -/
def Drawn.light (d : Drawn) (o : OutStage) (s : State) (x y : Nat) : List Nat × Int :=
  let c := d.cfg
  let v := d.scaled s x y
  let alpha := v.getD 3 4096
  let rgb := if c.blend = 2 then (v.take 3).map (unpremultiply · alpha) else v.take 3
  let m := rangeMatrix c.enc (c.range == 1) (c.transfer == 3) (fmtDepths d.src.format) rgb
  (gamut c.enc o.primaries (m.map (linearise c.transfer o.wSdr)), alpha)

/-- The layers of a pixel blended from the bottom over the background (R197, R207). -/
def composePixel (o : OutStage) (s : State) (x y : Nat) (l : List Drawn) : List Nat :=
  l.foldl (fun acc d =>
    let (c, alpha) := d.light o s x y
    blendOver acc (toneMap d.cfg.toneMode d.table o.pOut c) (effectiveAlpha d.cfg.blend d.cfg.alpha alpha)) o.bg

/-- Composed word of a pixel, tag 0 (R207 to R212). -/
def composeWord (o : OutStage) (s : State) (width x y : Nat) (l : List Drawn) : Word32 :=
  outputWord o (composePixel o s x y (layersAt width x y l))

/-! ### Holds (R117 to R119) -/

/-- What an examination of sources has met so far: codewords read, good and bad, and the state. -/
structure Examined where
  /-- Codewords read with a good copy. -/
  good : List Nat := []
  /-- Codewords without a good copy. -/
  bad : List Nat := []
  /-- The state. -/
  s : State

/-- A codeword lies on lost memory without a copy (R101, R119). -/
def wordLost (s : State) (w : Nat) : Bool :=
  let g := granuleOf (128 * w)
  s.lostGranule g && (match s.mirrorOf g with | some m => s.lostGranule m | none => true)

/-- A codeword fetched by a lane: whether it can be used; one without a good copy raises EV_MEM_UNCORRECTABLE, lost memory
none (R119). -/
def examineWord (client w : Nat) (e : Examined) : Bool × Examined :=
  if e.good.contains w then (true, e)
  else if e.bad.contains w then (false, e)
  else if wordLost e.s w then (false, { e with bad := w :: e.bad })
  else
    match readWord client 3 w e.s with
    | (some _, t) => (true, { e with good := w :: e.good, s := t })
    | (none, t) => (false, { e with bad := w :: e.bad, s := raise 104 0x0205 (leBytes 8 (128 * w) ++ leBytes 1 client) t })

/-- Codewords fetched one after another: whether all can be used. -/
def examineWords (client : Nat) : List Nat → Examined → Bool × Examined
  | [], e => (true, e)
  | w :: l, e =>
    let (a, e) := examineWord client w e
    let (b, e) := examineWords client l e
    (a && b, e)

/-- Codewords of a byte run. -/
def runWords (r : Nat × Nat) : List Nat := if r.2 = 0 then [] else (List.range ((r.1 + r.2 - 1) / 128 - r.1 / 128 + 1)).map (r.1 / 128 + ·)

/-- Codewords of a whole source tile. -/
def tileWords (s : State) (u : Surface) (t : Nat) : List Nat :=
  if u.compressed then
    let (slot, ent) := u.tileAt (t % tileCols u.width) (t / tileCols u.width)
    let entry := readDataFuel s 2 ent 8
    let mode := leNat (slice entry 0 1)
    let n := if mode = 0 then 4096 else if mode = 2 then 256 * min 16 (leNat (slice entry 1 1)) else 0
    (runWords (ent, 8) ++ runWords (slot, n)).eraseDups
  else ((tileRuns u t).flatMap runWords).eraseDups

/-- EV_SEAL_BROKEN and EV_TILE_DECODE_ERROR name the handle and the tile. -/
def tileData (u : Surface) (t : Nat) : List Byte :=
  leBytes 8 u.handle ++ leBytes 2 (t % tileCols u.width) ++ leBytes 2 (t / tileCols u.width)

/-- The seal of a surface is broken at a tile: SEAL_BROKEN, and the event once for the tile (R117, R118). -/
def breakSeal (u : Surface) (t computed cause : Nat) (s : State) : State :=
  let s := s.mapSurface u.index fun x => { x with sealBroken := true, failedTiles := x.failedTiles ++ [t] }
  let s := if cause = 1 then faultRecord 10 u.index 3 0 [] s else s
  raise 103 0x0203 (tileData u t ++ leBytes 4 computed ++ leBytes 1 cause) s

/-- A source tile fetched whole: whether its pixels may be used (R108, R116 to R119). -/
def examineTile (client : Nat) (u : Surface) (t : Nat) (e : Examined) : Bool × Examined :=
  let x := (e.s.surfaceAt u.index).getD u
  if x.sealed && x.failedTiles.contains t then (false, e)
  else
    let (ok, e) := examineWords client (tileWords e.s u t) e
    if !ok then (false, e)
    else
      let bytes := if u.compressed then
          let (slot, ent) := u.tileAt (t % tileCols u.width) (t / tileCols u.width)
          (decodeTile u.format (readDataFuel e.s 2 ent 8) (readDataFuel e.s 34 slot 4096)).map (insideBytes u t)
        else some ((tileRuns u t).flatMap fun r => readDataFuel e.s (r.2 / 128 + 2) r.1 r.2)
      match bytes with
      | none =>
        (false, if x.decodeTiles.contains t then e
          else { e with s := raise 103 0x0204 (tileData u t) (e.s.mapSurface u.index fun x =>
            { x with decodeTiles := x.decodeTiles ++ [t] }) })
      | some b =>
        if !x.sealed then (true, e)
        else
          let crc := crc32c b
          if x.sealStoreBad.contains t then (false, { e with s := breakSeal u t crc 1 e.s })
          else if crc == (x.sealWords.getD t 0).toNat then (true, e)
          else (false, { e with s := breakSeal u t crc 0 e.s })

/-- Source tiles fetched one after another: whether all may be used. -/
def examineTiles (client : Nat) (u : Surface) : List Nat → Examined → Bool × Examined
  | [], e => (true, e)
  | t :: l, e =>
    let (a, e) := examineTile client u t e
    let (b, e) := examineTiles client u l e
    (a && b, e)

/-- Samples (column, line) that a layer needs for the unpeeled pixels of a tile segment on some lines (R172); of a raced
source only lines that are ready. -/
def neededSamples (width : Nat) (cols lines : List Nat) (l : List Drawn) (d : Drawn) : List (Nat × Nat) :=
  (lines.flatMap fun y =>
    let us := ((cols.filter fun x => (layersAt width x y l).contains d).flatMap fun x => d.cols (d.offset x y).1).eraseDups
    ((d.rows (d.offset 0 y).2).eraseDups.filter fun r => match d.progress with | some p => decide (r < p) | none => true).flatMap
      fun r => us.map fun c => (c, r)).eraseDups

/-- Whether a layer's sources of a tile segment on some lines may be used (R116, R119). -/
def examineLayer (client width : Nat) (cols lines : List Nat) (l : List Drawn) (d : Drawn) (e : Examined) : Bool × Examined :=
  let need := neededSamples width cols lines l d
  let live := (d.index.bind fun i => e.s.surfaceAt i).getD d.src
  if d.src.compressed || live.sealed then
    examineTiles client live (need.flatMap fun p => sampleTiles d.src p.1 p.2).eraseDups e
  else examineWords client (need.flatMap fun p => sampleWords d.src p.1 p.2).eraseDups e

/-- The layers of a tile segment examined: the source surface of the first that may not be used, with a surface number beyond
the table for a private ring. -/
def examineSegment (client width : Nat) (cols lines : List Nat) (all : List Drawn) : List Drawn → Examined → Option Nat × Examined
  | [], e => (none, e)
  | d :: l, e =>
    let (ok, e) := examineLayer client width cols lines all d e
    let (rest, e) := examineSegment client width cols lines all l e
    (if ok then rest else some (d.index.getD 65536), e)

/-! ### A line of a half -/

/-- Columns of the active area that tile column `t` of a pipe holds. -/
def tileColumns (c : PipeCfg) (t : Nat) : List Nat := (List.range (min 64 (c.hActive - 64 * t))).map (64 * t + ·)

/-- Lines from `y` to the end of its tile row. -/
def rowLines (c : PipeCfg) (y : Nat) : List Nat := (List.range (min (16 - y % 16) (c.vActive - y))).map (y + ·)

/-- Tile columns of the row of line `y` that the lane composes: latched, not failed, not held for a late layer. -/
def openCols (s : State) (p h y : Nat) : List Nat :=
  let x := s.half p h
  let n := tileCols (s.pipe p).cfg.hActive
  x.latch.filter fun t => !(x.failed.any fun f => f.1 == t) && !x.heldTiles.contains (y / 16 * n + t)

/-- Sources of the open tile segments examined, on the rest of the tile row (`all`) or on line `y` for raced sources alone;
a segment whose source may not be used is held (R117, R119). -/
def examineRow (p h y : Nat) (all : Bool) (s : State) : State :=
  let c := (s.pipe p).cfg
  let drawn := drawnLayers s p
  let client := 0x70 + s.lanes.map.getD ((s.pipe p).lanes.getD h 0) 0
  let lines := if all then rowLines c y else [y]
  let which := if all then drawn else drawn.filter fun d => d.progress.isSome
  let step := fun (acc : List (Nat × Nat) × Examined) (t : Nat) =>
    let (f, e) := examineSegment client c.hActive (tileColumns c t) lines drawn which acc.2
    (match f with | some i => acc.1 ++ [(t, i)] | none => acc.1, e)
  let (failed, e) := (openCols s p h y).foldl step ([], { s })
  e.s.mapHalf p h fun x => { x with failed := x.failed ++ failed }

/-- Tone samples of a line of open tile segments: slot and bin of each (R201). -/
def toneSamples (s : State) (p : Nat) (cols : List Nat) (y : Nat) : List (Nat × Nat) :=
  let x := s.pipe p
  let drawn := drawnLayers s p
  if y % 2 = 1 then []
  else (cols.filter fun c => c % 2 = 0).flatMap fun c =>
    ((layersAt x.cfg.hActive c y drawn).filter fun d => d.cfg.toneMode == 2).map fun d =>
      (d.slot, toneBin (peakOf (d.light x.ostage s c y).1))

/-- A sample added to a layer's histogram; counts are 24 bits and saturate (R201). -/
def addSample (s : State) (x : Nat × Nat) : State :=
  s.mapLayer x.1 fun l =>
    { l with tone := { l.tone with hist := l.tone.hist.modify x.2 fun n => satAdd 0xFFFFFF n 1, samples := l.tone.samples + 1 } }

/-- Sequence number of the frame that the lowest-numbered camera layer composes into a line's open segments, none if it
composes none (R239). -/
def cameraSeq (s : State) (p : Nat) (cols : List Nat) (y : Nat) : Option Nat :=
  let drawn := drawnLayers s p
  let cams := (drawn.filter fun d => d.cfg.kind == 1).inOrder fun a b => decide (a.slot ≤ b.slot)
  match cams with
  | [] => none
  | d :: _ => if cols.any fun c => (layersAt (s.pipe p).cfg.hActive c y drawn).contains d then some d.seq else none

/-- The segments of line `y` as the lane writes them (R164, R224): composed words, or held. -/
def composeSegs (s : State) (p h y : Nat) : List Seg :=
  let x := s.half p h
  let c := (s.pipe p).cfg
  let drawn := drawnLayers s p
  x.latch.map fun t =>
    match x.failed.find? fun f => f.1 == t with
    | some f => { col := t, held := true, heldBy := some f.2 }
    | none =>
      if x.heldTiles.contains (y / 16 * tileCols c.hActive + t) then { col := t, held := true }
      else { col := t, words := (tileColumns c t).map fun a => composeWord (s.pipe p).ostage s c.hActive a y drawn }

/-- Line `y` of a half composed: samples, the camera frame, and the segments (R164, R201, R239). -/
def composeLine (p h y : Nat) (s : State) : List Seg × State :=
  let c := (s.pipe p).cfg
  let cols := (openCols s p h y).flatMap (tileColumns c)
  let segs := composeSegs s p h y
  let t := (toneSamples s p cols y).foldl addSample s
  (segs, match cameraSeq s p cols y with
    | some q => t.mapHalf p h fun x => { x with camFrame := q }
    | none => t)

/-! ### Raced sources (R176, R177) -/

/-- Raced layers whose line is not ready for line `y` of a half: slot, L_need and P. -/
def racedShort (s : State) (p h y : Nat) : List (Nat × Nat × Nat) :=
  let c := (s.pipe p).cfg
  let drawn := drawnLayers s p
  let cols := (openCols s p h y).flatMap (tileColumns c)
  drawn.filterMap fun d =>
    match d.progress with
    | none => none
    | some q =>
      if cols.any fun x => (layersAt c.hActive x y drawn).contains d then
        let need := d.cfg.needAt (d.offset 0 y).2
        if need < q then none else some (d.slot, need, q)
      else none

end Sys2Proof.Machine
end

