-- ==== Sys2Proof/Machine/RecOps.lean ====
section
/-! DEFINITION. Recording as its sources see it: the segment buffer and its entries, gaps, and the frames that wait for the
encoders (file 15). -/
namespace Sys2Proof.Machine

open Sys2Proof

/-! ### The segment buffer (R451, R452) -/

/-- Bytes of the segment buffer. -/
def bufferSize : Nat := 536870912

/-- Bytes of a segment so far, header included. -/
def Segment.size (x : Segment) : Nat := 4096 + (x.entries.map (·.bytes.length)).sum

/-- Bytes buffered: the open segment and every closed one not yet written. -/
def buffered (s : State) : Nat := (s.recording.segments.map (·.size)).sum

/-- The open segment. -/
def openSegment (s : State) : Option Segment := (s.recording.segments.getLast?).filter fun x => !x.closed

/-- One entry of STREAMS (Table 15-3): an unused one is 0. -/
def streamBlock (s : State) (k : Nat) : List Byte :=
  let r := s.stream k
  let d := (s.cam r.source).decl
  let p := s.pipe r.source
  if !r.live then leBytes 32 0
  else
    leBytes 1 r.kind ++ leBytes 1 r.source ++
      (if r.kind = 0 then leBytes 2 d.width ++ leBytes 2 d.height ++ leBytes 1 (if d.dt = 0x1E then 8 else 10) ++ leBytes 1 d.transfer
       else leBytes 2 p.cfg.hActive ++ leBytes 2 p.cfg.vActive ++ leBytes 1 10 ++ leBytes 1 p.ostage.panelTf) ++
      leBytes 4 r.br ++ leBytes 4 r.brSust ++ leBytes 4 r.frames ++ leBytes 4 r.gaps ++ leBytes 8 0

/-- At a segment boundary each stream moves to the encoder that the last placement gave it (R317). -/
def swapEncoder (s : State) (k : Nat) : State :=
  let x := s.stream k
  if !x.live || x.encoder == x.encoderNext then s
  else (s.mapStream k fun x => { x with encoder := x.encoderNext }).mapQueue (64 + k) fun q => { q with producer := 0x30 + x.encoderNext }

/-- The open segment closes; its STREAMS are those of this instant (R451). -/
def closeOpen (s : State) : State :=
  let n := s.recording.segments.length
  (List.range 16).foldl swapEncoder <| s.mapRec fun r => { r with segments := r.segments.modify (n - 1) fun x =>
    if x.closed then x else { x with closed := true, streams := ((List.range 16).map (streamBlock s)).flatten } }

/-- An entry appended to the open segment, or to a new one; none if the buffer has no room for it (R451). -/
def appendEntry (e : SegEntry) (s : State) : Option State :=
  let s := match openSegment s with
    | some x => if 268435456 < x.size + e.bytes.length then closeOpen s else s
    | none => s
  let need := e.bytes.length + (if (openSegment s).isSome then 0 else 4096)
  if bufferSize < buffered s + need then none
  else
    let n := s.recording.segments.length
    some (s.mapRec fun r =>
      { r with segments := if (openSegment s).isSome then r.segments.modify (n - 1) fun x => { x with entries := x.entries ++ [e] }
        else r.segments ++ [{ entries := [e], openTime := s.time }] })

/-- An entry: its 64-byte header, and the payload padded to a multiple of 64 (Table 15-4). -/
def entryOf (kind stream eflags frame time sourceCrc payloadCrc : Nat) (payload : List Byte) (missing : Nat) : SegEntry :=
  { kind, stream, time, missing
    bytes := leBytes 1 kind ++ leBytes 1 stream ++ leBytes 2 eflags ++ leBytes 4 payload.length ++ leBytes 8 frame ++ leBytes 8 time ++
      leBytes 4 sourceCrc ++ leBytes 4 payloadCrc ++ leBytes 32 0 ++ padTo (64 * ceilDiv payload.length 64) payload }

/-! ### Gaps (R447) -/

/-- The run of lost frames of a stream is written as one GAP entry, with EV_REC_GAP, if there is room for it (R447). -/
def flushGap (k : Nat) (s : State) : State :=
  match (s.stream k).gap with
  | none => s
  | some (cause, first, n) =>
    match appendEntry (entryOf 3 k 0 first s.time n cause [] n) s with
    | none => s
    | some s =>
      raise 112 0x0801 (leBytes 1 k ++ leBytes 1 cause ++ leBytes 2 0 ++ leBytes 8 first ++ leBytes 4 n)
        (s.mapStream k fun r => { r with gap := none })

/-- The gaps of every stream written. -/
def flushGaps (s : State) : State := (List.range 16).foldl (fun s k => flushGap k s) s

/-- A frame of a stream is lost: causes 1 BACKLOG, 2 NO_DRIVE, 3 SOURCE, 4 MEMORY (R447, Table 15-4). -/
def noteGap (k cause frame : Nat) (s : State) : State :=
  let s := match (s.stream k).gap with
    | some g => if g.1 = cause then s else flushGap k s
    | none => s
  s.mapStream k fun r =>
    { r with
      gaps := inc32 r.gaps
      gap := match r.gap with | some g => some (g.1, g.2.1, g.2.2 + 1) | none => some (cause, frame, 1) }

/-- The open segment closes, with the gaps so far (R451). -/
def closeSegment (s : State) : State := if (openSegment s).isSome then closeOpen (flushGaps s) else s

/-! ### Source frames (R447, R467) -/

/-- The stream that records a source (R445). -/
def streamOf (s : State) (kind source : Nat) : Option Nat :=
  (s.recording.streams.zipIdx.find? fun x => x.1.live && x.1.kind == kind && x.1.source == source).map (·.2)

/-- The encoder's hold of a ring slot changes. -/
def holdSlot (input slot : Nat) (held : Bool) (s : State) : State :=
  s.mapCam input fun c => { c with slots := c.slots.modify slot fun x => { x with encHeld := held } }

/-- The oldest frame that waits for a stream's encoder is given up (R447). -/
def dropOldest (k : Nat) (s : State) : State :=
  let r := s.stream k
  match r.backlog with
  | [] => s
  | f :: l =>
    let s := s.mapStream k fun r => { r with backlog := l }
    noteGap k 1 f.1 (if r.kind = 0 then holdSlot r.source f.2.2 false s else s)

/-- A camera's encoder holds at most `limit` slots. -/
def heldSlots (s : State) (input : Nat) : Nat := ((s.cam input).slots.filter (·.encHeld)).length

/-- A source frame is complete: a REC_STREAM_ADD that waits for it completes, and the frame waits for the encoder; `limit`
is R of a camera's ring (R288, R447, R467). -/
def sourceFrame (kind source frame slot limit : Nat) (s : State) : State :=
  match streamOf s kind source with
  | none => s
  | some k =>
    let s := match (s.stream k).add with
      | some b => complete b .ok (s.mapStream k fun r => { r with add := none })
      | none => s
    let s := if kind = 0 then holdSlot source slot true (if limit ≤ heldSlots s source then dropOldest k s else s) else s
    s.mapStream k fun r => { r with backlog := r.backlog ++ [(frame, s.time, slot)] }

/-- The tap begins to overwrite a ring slot: a frame in it that is not encoded is lost (R447). -/
def overwriteSlot (pipe slot : Nat) (s : State) : State :=
  match streamOf s 1 pipe with
  | none => s
  | some k =>
    let lost := (s.stream k).backlog.filter fun f => f.2.2 == slot
    let s := s.mapStream k fun r => { r with backlog := r.backlog.filter fun f => f.2.2 != slot }
    lost.foldl (fun s f => noteGap k 1 f.1 s) s

/-- A source frame that never reaches the encoder (R447). -/
def sourceLost (kind source frame cause : Nat) (s : State) : State :=
  match streamOf s kind source with
  | none => s
  | some k => noteGap k cause frame s

end Sys2Proof.Machine
end

