-- ==== Sys2Proof/Machine/Tap.lean ====
section
/-! DEFINITION. The write-back tap: the ring of a recorded pipe, and the lines that the lanes write into a captured frame
(files 06 and 08). -/
namespace Sys2Proof.Machine

open Sys2Proof

/-! ### Rings (R273) -/

/-- Slots of a write-back ring: at least 1 s of frames and two more (R273; DESIGN CHOICE, log 18). -/
def wbSlots (c : PipeCfg) (rateDiv : Nat) : Nat := ceilDiv c.pixclk (c.ht * c.vt * rateDiv) + 2
/-- Stride of a write-back ring slot (log 18). -/
def wbStride (c : PipeCfg) : Nat := 4096 + 4096 * ceilDiv (wbFrameBytes c) 4096
/-- Granules of a write-back ring (log 18). -/
def wbGranules (c : PipeCfg) (rateDiv : Nat) : Nat := ceilDiv (wbSlots c rateDiv * wbStride c) 61440

/-- The write-back ring of a pipe. -/
def wbRegion (s : State) (p : Nat) : Option Region := s.mem.regions.find? fun r => decide (r.kind = .writeback p)

/-! ### A captured line (R213) -/

/-- Composed word of a pixel column in a line's segments, none if the tile was not recomposed or is held. -/
def segWord (segs : List Seg) (x : Nat) : Option Word32 :=
  (segs.find? fun g => g.col == x / 64 && !g.held).map fun g => g.words.getD (x % 64) 0

/-- The pixels of a line of one half as the tap writes them: new colours where the tile was composed, the basin's elsewhere. -/
def tapHalf (p h y : Nat) (segs : List Seg) (s : State) : List Word32 × State :=
  let x := s.pipe p
  let wl := x.cfg.wl
  let new := (List.range wl).map fun i => segWord segs (h * wl + i)
  if new.all Option.isSome then (new.map fun o => o.getD 0, s)
  else
    let (old, s) := readPixels p (lineAddrs x h y 0 wl) s
    (List.zipWith (fun o w => o.getD w) new old, s)

/-- The halves of a line one after another. -/
def tapHalves (p y : Nat) : Nat → List (List Seg) → State → List Word32 × State
  | _, [], s => ([], s)
  | h, g :: l, s =>
    let (a, s) := tapHalf p h y g s
    let (b, s) := tapHalves p y (h + 1) l s
    (a ++ b, s)

/-- Where a line of the frame being captured goes: the addresses of its two planes, none without a place for it. -/
def tapPlace (s : State) (p y : Nat) : Option (Nat × Nat) :=
  let x := s.pipe p
  let w := x.wb
  let c := x.cfg
  if w.dest = 0 then
    (wbRegion s p).map fun r =>
      let base := r.base * 61440 + w.next * wbStride c
      if w.format = 0x13 then (base + y * (2 * c.hActive), base + c.vActive * (2 * c.hActive) + y * (2 * c.hActive))
      else (base + y * (4 * c.hActive), 0)
  else (s.surface (w.handles.getD w.next 0)).map fun u => (u.base + y * u.pitch0, u.base + u.offset1 + y * u.pitch1)

/-- A captured line is written (R213). -/
def tapWrite (p y : Nat) (line : List Word32) (s : State) : State :=
  match tapPlace s p y with
  | none => s
  | some (a, b) =>
    if (s.pipe p).wb.format = 0x13 then
      let (luma, chroma) := tapP210 line
      devWrite b chroma (devWrite a luma s)
    else devWrite a (tapPacked (s.pipe p).wb.format line) s

/-- The last line of a captured frame is written: the frame is complete (R273, R447). -/
def tapDone (p : Nat) (s : State) : State :=
  let x := s.pipe p
  let w := x.wb
  let frame := x.compFrame
  if (w.frames.headD (0, 0, 0)).1 = frame ∧ w.frames ≠ [] then s
  else
    let n := if w.dest = 0 then w.slots else w.handles.length
    let s := s.mapPipe p fun x =>
      { x with wb := { x.wb with frames := ((frame, w.next, s.time) :: w.frames).take n, next := (w.next + 1) % max 1 n } }
    if w.dest = 0 then sourceFrame 1 p frame w.next 0 s
    else raise p 0x040D (leBytes 1 p ++ leBytes 3 0 ++ leBytes 8 frame ++ leBytes 8 (w.handles.getD w.next 0)) s

/-- A line of a captured frame that every half has composed or passed over is written by the tap; `segs` are the line's
segments, half by half (R213). -/
def tapLine (p y : Nat) (segs : List (List Seg)) (s : State) : State :=
  let x := s.pipe p
  if !x.capturing then s
  else
    let s := if y = 0 ∧ x.wb.dest = 0 then overwriteSlot p x.wb.next s else s
    let (line, s) := tapHalves p y 0 segs s
    let s := tapWrite p y line s
    if y + 1 = x.cfg.vActive then tapDone p s else s

end Sys2Proof.Machine
end

