-- ==== Sys2Proof/Machine/Lanes.lean ====
section
/-! DEFINITION. The lanes' work on a frame: releases, deadlines, line writes and their landing; handovers and takeovers
(files 01, 05, 07 and 18). -/
namespace Sys2Proof.Machine

open Sys2Proof

/-! ### Halves and their lanes -/

/-- Logical lane of a half of a pipe. -/
def halfLane (s : State) (p h : Nat) : Nat := (s.pipe p).lanes.getD h 255

/-- The handover in progress of a logical lane. -/
def handoverOf (s : State) (k : Nat) : Option Handover := s.lanes.handover.filter fun x => x.lane == k

/-- The lane of a half composes: it is not stopped, and its physical lane is in service or its replacement has begun. -/
def laneAlive (s : State) (p h : Nat) : Bool :=
  let k := halfLane s p h
  !s.lanes.stopped.getD k true &&
    (!s.lanes.bad.getD (s.lanes.map.getD k 0) false || (match handoverOf s k with | some x => x.takeover && x.composing | none => false))

/-- Half and pipe of a logical lane. -/
def placeOfLane (s : State) (k : Nat) : Option (Nat × Nat) :=
  (s.pipes.zipIdx.findSome? fun x => (x.1.lanes.zipIdx.find? fun l => l.1 == k).map fun l => (x.2, l.2))

/-- The record of a line of the frame being composed. -/
def lineRec (s : State) (p h y : Nat) : Option LineRec :=
  (s.half p h).lines.find? fun r => r.y == y && r.frame == (s.pipe p).compFrame

/-- The state with a line's record of a frame changed. -/
def mapLine (p h y frame : Nat) (f : LineRec → LineRec) (s : State) : State :=
  s.mapHalf p h fun x => { x with lines := x.lines.map fun r => if r.y == y && r.frame == frame then f r else r }

/-- Damage bits of a tile row within a half, as tile columns (R164). -/
def rowDamage (s : State) (p h r : Nat) : List Nat :=
  let x := s.pipe p
  let n := tileCols x.cfg.hActive
  ((List.range (halfCols x.cfg)).map (halfCol x.cfg h + ·)).filter fun t => x.damage.getD (r * n + t) false

/-! ### Landing (R224, R226, R234) -/

/-- The lane map after a logical lane has gone to another physical lane (R31). -/
def swapLanes (map : List Nat) (lane out inc : Nat) : List Nat :=
  map.zipIdx.map fun x => if x.2 = lane then inc else if x.1 = inc then out else x.1

/-- The lowest-numbered physical lane out of service (R30). -/
def lowestBad (bad : List Bool) : Nat := ((List.range 9).find? fun n => bad.getD n false).getD 8

/-- A handover is complete: LANE_MAP, SPARE and HANDOVERS change together, with the event (R234, R235). -/
def finishHandover (x : Handover) (s : State) : State :=
  let was := s.lanes.spare == x.inc && !s.lanes.noSpare
  let s := s.mapLanes fun l =>
    { l with
      map := swapLanes l.map x.lane x.out x.inc
      noSpare := l.noSpare || (x.takeover && was)
      spare := if x.takeover then lowestBad l.bad else x.out
      handovers := satAdd 0xFFFF l.handovers 1
      handover := none }
  let s := s.mapFaults fun f => { f with tests := f.tests.map fun t =>
    if x.test && t.kind == 1 && t.index == x.out then { t with preparing := false } else t }
  raise 109 (if x.takeover then 0x0D02 else 0x0D01) (leBytes 1 x.lane ++ leBytes 1 x.out ++ leBytes 1 x.inc) s

/-- Words that a line write puts into the basin: composed words with the frame's tag; of a held tile the tag alone (R221). -/
def lineWords (s : State) (p y : Nat) (r : LineRec) : List (Nat × Word32) :=
  let x := s.pipe p
  r.segs.flatMap fun g =>
    (tileColumns x.cfg g.col).zipIdx.map fun a =>
      let addr := frameAddr x (pixelOffset x.cfg a.1 y)
      (addr, withTag (if g.held then s.basinWord addr else g.words.getD a.2 0) r.frame)

/-- Every line of a tile row so far has landed in the frame. -/
def rowWhole (s : State) (p h y frame : Nat) : Bool :=
  (List.range (y % 16 + 1)).all fun k =>
    (s.half p h).lines.any fun r => r.y == y / 16 * 16 + k && r.frame == frame && r.landed

/-- Tiles of a row that are written or held (R139, R153): landings and areas of retiring surfaces shrink, and the holds of
the pipe are noted. -/
def tilesWritten (p y : Nat) (r : LineRec) (s : State) : State :=
  let n := tileCols (s.pipe p).cfg.hActive
  let tile := fun (g : Seg) => y / 16 * n + g.col
  let s := r.segs.foldl (fun s g => areaWritten p (tile g) r.frame s) s
  s.mapPipe p fun x =>
    { x with
      landings := x.landings.map fun w => { w with tiles := w.tiles.filter fun t => !(r.segs.any fun g => tile g == t) }
      holds := (x.holds.filter fun e => !(r.segs.any fun g => tile g == e.1)) ++
        r.segs.filterMap fun g => if g.held then g.heldBy.map fun i => (tile g, i) else none }

/-- COMMITs with LANDED whose tiles are all written or held complete (R139). -/
def finishLandings (p : Nat) (s : State) : State :=
  let ready := (s.pipe p).landings.filter (·.tiles.isEmpty)
  let s := s.mapPipe p fun x => { x with landings := x.landings.filter fun w => !w.tiles.isEmpty }
  ready.foldl (fun s w => complete w.barge { detail := w.detail, cflags := w.cflags } s) s

/-- The last line of its tile row. -/
def rowEnd (c : PipeCfg) (y : Nat) : Bool := y % 16 == 15 || y + 1 == c.vActive

/-- A line write lands: the basin has it, the landed record is set, and what follows from it (R224, R226, R234, R239). -/
def landLine (p h y : Nat) (r : LineRec) (s : State) : State :=
  let s := writeBasin (lineWords s p y r) s
  let s := mapLine p h y r.frame (fun r => { r with landed := true, waiting := false, issued := false }) s
  let s := s.mapHalf p h fun x =>
    { x with written :=
        if x.written.any fun w => w.1 == r.frame then x.written.map fun w => if w.1 = r.frame then (w.1, w.2 + 1) else w
        else x.written ++ [(r.frame, 1)] }
  let s := if rowEnd (s.pipe p).cfg y && rowWhole s p h y r.frame then
      finishLandings p (refreshSurfaces (tilesWritten p y r s)) else s
  if r.incoming then (match handoverOf s (halfLane s p h) with | some x => finishHandover x s | none => s) else s

/-! ### Beginning and composing lines (R164, R225) -/

/-- The incoming lane begins at the handover line (R234). -/
def reachHandover (p h y : Nat) (s : State) : State :=
  match handoverOf s (halfLane s p h) with
  | some x => if x.loaded && !x.takeover && !x.composing && x.line == y then
      s.mapLanes fun l => { l with handover := some { x with composing := true } } else s
  | none => s

/-- The lane begins line `y`: at the first line of a tile row it loads the row latch (R164). -/
def beginLine (p h y : Nat) (s : State) : State :=
  let s := reachHandover p h y s
  let s := if y % 16 = 0 then
      let l := rowDamage s p h (y / 16)
      s.mapHalf p h fun x => { x with latch := l, again := [], rowMissed := false, failed := [], begun := true }
    else s.mapHalf p h fun x => { x with begun := true }
  let inc := match handoverOf s (halfLane s p h) with | some x => x.composing | none => false
  let latch := (s.half p h).latch
  let s := mapLine p h y (s.pipe p).compFrame (fun r => { r with marked := latch, incoming := inc }) s
  if latch.isEmpty then s
  else examineRow p h y (y % 16 == 0) s

/-- The end of a tile row: the bits of its latched tiles are cleared unless they were set again, a late layer holds them, or
a line of the row is missing (R25, R164, R177, R225). -/
def endRow (p h y : Nat) (s : State) : State :=
  let x := s.half p h
  let n := tileCols (s.pipe p).cfg.hActive
  if x.rowMissed then s
  else
    let cleared := (x.latch.filter fun t => !x.again.contains t && !x.heldTiles.contains (y / 16 * n + t)).map (y / 16 * n + ·)
    s.mapPipe p fun q => { q with damage := q.damage.zipIdx.map fun d => d.1 && !cleared.contains d.2 }

/-- Every half has composed the line or passed it over, or its lane has stopped. -/
def lineReady (s : State) (p y : Nat) : Bool :=
  (List.range (s.pipe p).cfg.halfCount).all fun h =>
    s.lanes.stopped.getD (halfLane s p h) false || (match lineRec s p h y with | some r => r.done || r.skipped | none => false)

/-- The tap takes a line that is ready on every half (R213). -/
def tapReady (p y : Nat) (s : State) : State :=
  if (s.pipe p).capturing && lineReady s p y then
    tapLine p y ((List.range (s.pipe p).cfg.halfCount).map fun h => match lineRec s p h y with | some r => r.segs | none => []) s
  else s

/-- The lane goes on to the next line. -/
def nextLine (p h y : Nat) (s : State) : State :=
  let s := if rowEnd (s.pipe p).cfg y then endRow p h y s else s
  tapReady p y (s.mapHalf p h fun x => { x with nextLine := y + 1, begun := false })

/-- The open segments of a line have a source to fetch. -/
def lineFetches (s : State) (p h y : Nat) : Bool :=
  let c := (s.pipe p).cfg
  let drawn := drawnLayers s p
  ((openCols s p h y).flatMap (tileColumns c)).any fun x => !(layersAt c.hActive x y drawn).isEmpty

/-- A begun line is composed, and its line write issued, unless it has nothing to write (R164, R224). -/
def composeNow (p h y : Nat) (s : State) : State :=
  let frame := (s.pipe p).compFrame
  if (s.half p h).latch.isEmpty then
    let r := lineRec s p h y
    let s := mapLine p h y frame (fun r => { r with done := true, landed := true }) s
    let s := match r, handoverOf s (halfLane s p h) with
      | some r, some x => if r.incoming then finishHandover x s else s
      | _, _ => s
    nextLine p h y s
  else
    let (segs, s) := composeLine p h y s
    nextLine p h y (mapLine p h y frame (fun r => { r with done := true, issued := true, segs }) s)

/-- Released lines are begun in order while they can be composed without a fetch (R225); `fuel` bounds them. -/
def runLines (p h : Nat) : Nat → State → State
  | 0, s => s
  | n + 1, s =>
    let x := s.half p h
    let y := x.nextLine
    match lineRec s p h y with
    | none => s
    | some r =>
      if !laneAlive s p h then s
      else if r.landed || r.skipped || r.done then runLines p h n (s.mapHalf p h fun x => { x with nextLine := y + 1, begun := false })
      else
        let s := if x.begun then s else beginLine p h y s
        if (s.half p h).latch.isEmpty || !lineFetches s p h y then runLines p h n (composeNow p h y s) else s

/-- The lines of a half taken as far as they go. -/
def runHalf (p h : Nat) (s : State) : State := runLines p h ((s.pipe p).cfg.vActive + 1) s

/-! ### Binding at t_rel(0) (R259, R290) -/

/-- The slot is the tow layer of its towed pipe. -/
def isTowLayer (s : State) (p n : Nat) : Bool := decide ((s.pipe p).tow.state ≠ .off) && (s.pipe p).tow.slot == n

/-- The ring slot of the frame towed to: its stamp lies within 2 T_l of the predicted start, and phi_min or more before now
(R259). -/
def towChoice (s : State) (p : Nat) (m : Camera) : Option Nat :=
  let t := (s.pipe p).tow
  let c := (s.pipe p).cfg
  let near := t.stamps.find? fun x => decide (((x.1 : Int) - t.predicted).natAbs * c.pixclk ≤ 2 * c.lineX) && decide (x.1 + t.phiMin ≤ s.time)
  near.bind fun x =>
    (m.slots.zipIdx.find? fun k => k.1.seq == x.2 && (decide (k.1.fill = .filling) || decide (k.1.fill = .complete))).map (·.2)

/-- The ring slot that a camera layer binds at t_rel(0): a tow layer in LOCKED the frame towed to, another layer the FILLING
frame if it began phi_min ago; else the newest complete one (R259, R290). -/
def bindChoice (s : State) (p : Nat) (n : Nat) (l : Layer) : Option Nat :=
  let m := s.cam l.active.input
  let c := (s.pipe p).cfg
  if isTowLayer s p n then
    (if (s.pipe p).tow.state = .locked then towChoice s p m else none).or m.newest
  else
    match m.open_ with
    | some k =>
      let slot := m.slots.getD k {}
      if decide (slot.fill = .filling) &&
          decide ((slot.tSof : Int) * c.pixclk + phiMinX c l.active m.decl.linePeriod ≤ (s.time : Int) * c.pixclk) then some k
      else m.newest
    | none => m.newest

/-- A LOCKED frame bound to the last complete frame instead of the frame towed to (R259). -/
def towSlip (p n : Nat) (l : Layer) (s : State) : State :=
  let m := s.cam l.active.input
  if isTowLayer s p n && decide ((s.pipe p).tow.state = .locked) && (towChoice s p m).isNone then
    match m.newest with
    | some k => raise (8 + p) 0x0407 (leBytes 1 p ++ leBytes 1 0 ++ leBytes 2 (s.pipe p).compFrame ++ leBytes 4 (m.slots.getD k {}).seq) s
    | none => s
  else s

/-- A frame that binds a new camera frame is noted for the latency measurements of its layer (R293). -/
def notePend (p n seq tSof : Nat) (s : State) : State :=
  let e := ((s.pipe p).compFrame, seq, tSof)
  let s := { s with contracts := s.contracts.map fun (c : Contract) =>
    if c.pipe = p ∧ c.slot = n then { c with pend := c.pend ++ [e] } else c }
  if isTowLayer s p n then s.mapPipe p fun x => { x with tow := { x.tow with pend := x.tow.pend ++ [e] } } else s

/-- One camera layer bound: a binding to another frame damages the destination rectangle (R290). -/
def bindLayer (p n : Nat) (s : State) : State :=
  let l := s.layer n
  if l.pipe != p || decide (l.state = .unassigned) || !l.active.hasSource || l.active.kind != 1 || !l.active.enable then s
  else
    let s := towSlip p n l s
    match bindChoice s p n l with
    | none => s
    | some k =>
      let slot := (s.cam l.active.input).slots.getD k {}
      if l.boundSlot == some k && l.boundSeq == slot.seq then s
      else notePend p n slot.seq slot.tSof
        (markDamage p (dstTiles (s.pipe p).cfg l.active) (s.mapLayer n fun l => { l with boundSlot := some k, boundSeq := slot.seq }))

/-- The camera layers of a pipe bound at t_rel(0). -/
def bindLayers (p : Nat) (s : State) : State := (List.range 64).foldl (fun s n => bindLayer p n s) s

/-! ### Lane faults (R32, R235, R548, R553) -/

/-- A lane fault is detected with a cause of R548's list (R548). -/
def detectLane (lane cause : Nat) (s : State) : State :=
  if s.lanes.bad.getD lane true || s.lanes.detected.any (fun d => d.1 == lane) then s
  else s.mapLanes fun l => { l with detected := l.detected ++ [(lane, cause)] }

/-- LANE_FAULT_DETECTED (R548): causes 1 to 3 and 5 of the list of R548. -/
def execLaneFaultDetected (lane cause : Nat) (s : State) : Out := done (detectLane lane cause s)

/-- LANDING_CHECK (R548): line y of a half has not landed 2 × T_c + 10 µs after its release. A line that waits for its window
or for a raced source has not failed. -/
def execLandingCheck (p h y : Nat) (s : State) : Out :=
  done (match lineRec s p h y with
    | none => s
    | some r =>
      let raced := (s.half p h).nextLine == y && (s.half p h).begun && !(racedShort s p h y).isEmpty
      if r.landed || r.waiting || r.skipped || raced then s
      else detectLane (s.lanes.map.getD (halfLane s p h) 255) 4 s)

/-- The faulted lane of a half is fenced: its line writes that have not landed never will (R235). -/
def fenceLane (p h : Nat) (s : State) : State :=
  s.mapHalf p h fun x =>
    { x with lines := x.lines.map fun r => if r.landed then r else { r with issued := false, waiting := false, done := r.skipped, segs := [] } }

/-- The tests of a lane end without a result; a BIST_RUN then completes with ST_STATE, as no spare is left for it (R571). -/
def stopLaneTests (lane : Nat) (s : State) : State :=
  let mine := s.faults.tests.filter fun t => t.kind == 1 && t.index == lane
  let s := s.mapFaults fun f => { f with tests := f.tests.filter fun t => !(t.kind == 1 && t.index == lane) }
  (mine.filterMap (·.barge)).foldl (fun s b => complete b (wrongState s (Config.freeNat s.free % 256)) s) s

/-- A takeover of a logical lane by a physical lane begins (R235); a test of the incoming lane stops (Table 1-3). -/
def startTakeover (k out inc : Nat) (s : State) : State :=
  stopLaneTests inc (s.mapLanes fun l => { l with handover := some { lane := k, out, inc, takeover := true, loaded := true } })

/-- The lane fault meets no spare (R553): the pipe of class CRITICAL takes the highest-numbered lane of the highest-numbered
pipe of class NONE; otherwise the logical lane stops. -/
def beyondLane (k out : Nat) (s : State) : State :=
  let s := setCondition 1 s
  let stop := fun (j : Nat) (s : State) => s.mapLanes fun l => { l with stopped := l.stopped.set j true }
  let crit := match placeOfLane s k with | some (p, _) => critical s p | none => false
  let donor := ((List.range 8).reverse.find? fun q => !(s.pipe q).lanes.isEmpty && contractClass s q == 0).map fun q =>
    (s.pipe q).lanes.foldl max 0
  match crit, donor with
  | true, some j => startTakeover k out (s.lanes.map.getD j 0) (stop j s)
  | _, _ => stop k s

/-- A physical lane is out of service and its logical lane, if it has one, goes to the spare or stops (R235, R553). -/
def replaceLane (lane : Nat) (s : State) : State :=
  match (s.lanes.map.zipIdx.find? fun x => x.1 == lane).map (·.2) with
  | none => s
  | some k =>
    let s := match placeOfLane s k with | some (p, h) => fenceLane p h s | none => s
    if s.lanes.stopped.getD k false then s
    else if s.lanes.noSpare then beyondLane k lane s else startTakeover k lane s.lanes.spare s

/-- The spare goes out of service: none is left (R30, R33). -/
def loseSpare (s : State) : State := s.mapLanes fun l => { l with noSpare := true, spare := lowestBad l.bad }

/-- A declared lane fault meets a handover in progress as Table 1-3 says. -/
def routeLaneFault (lane : Nat) (s : State) : State :=
  match s.lanes.handover with
  | none => if lane = s.lanes.spare ∧ !s.lanes.noSpare then loseSpare s else replaceLane lane s
  | some x =>
    if x.out = lane then
      let s := match placeOfLane s x.lane with | some (p, h) => fenceLane p h s | none => s
      startTakeover x.lane x.out x.inc s
    else if x.inc = lane then
      let s := loseSpare (s.mapLanes fun l => { l with handover := none })
      if x.takeover then beyondLane x.lane x.out s else s
    else s.mapLanes fun l => { l with queue := l.queue ++ [lane] }

/-- A lane is declared faulty: out of service, recorded with its detection cause, and replaced; admission is made again
(R235, R323, R548). -/
def declareLane (lane cause : Nat) (s : State) : State :=
  if s.lanes.bad.getD lane true then s
  else
    let mapped := s.lanes.map.contains lane
    let beyond := mapped && s.lanes.noSpare
    let s := s.mapLanes fun l => { l with bad := l.bad.set lane true, detected := l.detected.filter fun d => d.1 != lane }
    let s := quarantine 1 lane (faultRecord 5 lane (if mapped && !beyond then 1 else 2) (objectFlags s 1 lane beyond) (leBytes 1 cause) s)
    readmit (routeLaneFault lane s)

/-- LANE_FAULT_DECLARED (R235): within 20 µs of its detection. -/
def execLaneFaultDeclared (lane : Nat) (s : State) : Out :=
  done (match s.lanes.detected.find? fun d => d.1 == lane with
    | some d => declareLane lane d.2 s
    | none => s)

/-- The lowest line of the frame being composed whose write has not landed (R235). -/
def lowestUnlanded (s : State) (p h : Nat) : Nat :=
  let l := (s.half p h).lines.filter fun r => r.frame == (s.pipe p).compFrame && !r.landed && !r.skipped && !r.closed
  (l.map (·.y)).foldl min (s.half p h).nextLine

/-- The spare of a takeover begins composing at the lowest line that has not landed, with the row latch of the arbiter
(R235). The frame is not counted for tone statistics. -/
def resumeHalf (p h : Nat) (s : State) : State :=
  let y := lowestUnlanded s p h
  let old := (s.half p h).latch
  let r := lineRec s p h y
  let s := s.mapHalf p h fun x =>
    { x with nextLine := y, begun := false, failed := if y / 16 = x.nextLine / 16 then x.failed else []
             latch := match r with | some r => if r.marked.isEmpty then old else r.marked | none => old }
  let s := (List.range 64).foldl (fun s n => if (s.layer n).pipe = p then
    s.mapLayer n fun l => { l with tone := { l.tone with spoiled := true } } else s) s
  runHalf p h s

/-- The handover in progress has ended: takeovers that waited for it begin (Table 1-3). -/
def nextTakeover (s : State) : State :=
  match s.lanes.handover, s.lanes.queue with
  | none, lane :: rest => replaceLane lane (s.mapLanes fun l => { l with queue := rest })
  | _, _ => s

/-- TAKEOVER_SPARE_START (R235): the loaded spare begins composing. A lane that composes for no running pipe has no line
whose landing could end the takeover: it ends here. -/
def execTakeoverSpareStart (s : State) : Out :=
  done (match s.lanes.handover with
    | none => nextTakeover s
    | some x =>
      if !x.takeover || x.composing then s
      else
        let s := s.mapLanes fun l => { l with handover := some { x with composing := true } }
        match placeOfLane s x.lane with
        | some (p, h) => if (s.pipe p).composing then nextTakeover (resumeHalf p h s) else nextTakeover (finishHandover x s)
        | none => nextTakeover (finishHandover x s))

/-- The handover line: the first multiple of 16 with t_rel at least 100 µs ahead, 0 of the next frame if none is left
(R234). -/
def handoverLine (s : State) (p : Nat) : Nat :=
  let x := s.pipe p
  let ahead := (s.time + 100000 - x.lockTime) * x.cfg.pixclk
  let h := 16 * ceilDiv ahead (16 * x.cfg.lineX)
  if x.cfg.vActive ≤ h then 0 else h

/-- HANDOVER_LOADED (R234): the incoming lane is loaded and the handover line chosen. -/
def execHandoverLoaded (s : State) : Out :=
  done (match s.lanes.handover with
    | none => s
    | some x =>
      if x.takeover || x.loaded then s
      else match placeOfLane s x.lane with
        | some (p, _) =>
          if (s.pipe p).composing then
            s.mapLanes fun l => { l with handover := some { x with loaded := true, line := handoverLine s p } }
          else nextTakeover (finishHandover x s)
        | none => nextTakeover (finishHandover x s))

/-! ### The events of a line -/

/-- Every line of a half of the frame being composed has landed. -/
def halfWhole (s : State) (p h : Nat) : Bool :=
  (List.range (s.pipe p).cfg.vActive).all fun y => (s.half p h).lines.any fun r => r.y == y && r.frame == (s.pipe p).compFrame && r.landed

/-- The first frame of which every line of every link has landed: EV_PIPE_FIRST_LIGHT (R233, R247, R252). -/
def noteWhole (p : Nat) (s : State) : State :=
  let x := s.pipe p
  if !x.composing || x.wholeFrame || x.lit then s
  else if (List.range x.cfg.halfCount).all fun h => halfWhole s p h then
    raise p 0x0401 (leBytes 1 p ++ leBytes 1 0 ++ leBytes 2 x.compFrame) (s.mapPipe p fun x => { x with wholeFrame := true })
  else s

/-- The end of a line's event: the frame may be whole, and a takeover that waited for a handover begins. -/
def endLine (p : Nat) (s : State) : Out := done (nextTakeover (noteWhole p s))

/-- LINE_RELEASE (R223, R225): line y of a half is released; with line 0 of the first half the camera layers bind. -/
def execLineRelease (p h y : Nat) (s : State) : Out :=
  let x := s.pipe p
  endLine p (if !x.composing || decide (x.cfg.halfCount ≤ h) || decide (x.cfg.vActive ≤ y) || (lineRec s p h y).isSome then s
    else
      let s := if y = 0 ∧ h = 0 then bindLayers p s else s
      runHalf p h (s.mapHalf p h fun q =>
        { q with lines := q.lines ++ [{ y, frame := x.compFrame, opened := decide (x.cfg.lead < x.cfg.vt) }] }))

/-- New symbol errors in device memory (R540). -/
def addUpsets (l : List Upset) (s : State) : State :=
  l.foldl (fun s u => s.mapMem fun m =>
    if u.mirror then { m with errsMirror := setPattern m.errsMirror u.word (addPattern (patternOf m.errsMirror u.word) u.syms) }
    else { m with errs := setPattern m.errs u.word (addPattern (patternOf m.errs u.word) u.syms) }) s

/-- Seal words that have become uncorrectable in the seal store (R118): surface and tile. -/
def addSealUpsets (l : List (Nat × Nat)) (s : State) : State :=
  l.foldl (fun s u => s.mapSurface u.1 fun x =>
    if x.sealed && decide (u.2 < x.sealWords.length) then { x with sealStoreBad := (x.sealStoreBad ++ [u.2]).eraseDups } else x) s

/-- FETCH_RETURN (R166, R176): the samples of a begun line have arrived; it is composed once the raced lines that it needs
are ready. Errors that the fetch meets come with it. -/
def execFetchReturn (p h y : Nat) (upsets : List Upset) (sealUpsets : List (Nat × Nat)) (s : State) : Out :=
  let s := addSealUpsets sealUpsets (addUpsets upsets s)
  let x := s.half p h
  endLine p (if x.nextLine != y || !x.begun || !laneAlive s p h || (lineRec s p h y).isNone then s
    else
      let s := examineRow p h y (!upsets.isEmpty || !sealUpsets.isEmpty) s
      if (racedShort s p h y).isEmpty then runHalf p h (composeNow p h y s) else s)

/-- A layer is late from line y to the end of the frame: the tiles of its destination that are not yet written are held with
their damage, and EV_RACE_LATE is raised once per layer and frame (R177). -/
def makeLate (p h y : Nat) (l : Nat × Nat × Nat) (s : State) : State :=
  let c := (s.pipe p).cfg
  let n := tileCols c.hActive
  let told := (s.pipe p).halves.any fun x => x.late.any fun e => e.1 == l.1
  let tiles := (dstTiles c (s.layer l.1).active).filter fun t =>
    decide (y / 16 ≤ t / n) && decide (halfCol c h ≤ t % n) && decide (t % n < halfCol c h + halfCols c)
  let s := s.mapHalf p h fun x => { x with late := x.late ++ [(l.1, y)], heldTiles := (x.heldTiles ++ tiles).eraseDups }
  let s := s.mapLayer l.1 fun x => { x with tone := { x.tone with spoiled := true } }
  if told then s
  else raise p 0x0303 (leBytes 1 p ++ leBytes 1 l.1 ++ leBytes 2 y ++ leBytes 2 l.2.1 ++ leBytes 2 (min 0xFFFF l.2.2)) s

/-- Layers whose fetch for a begun line is late: the raced ones that are not ready, else every layer of the line, whose P is
a free value (R166, R177). -/
def lateLayers (s : State) (p h y : Nat) : List (Nat × Nat × Nat) :=
  let short := racedShort s p h y
  if !short.isEmpty then short
  else
    let c := (s.pipe p).cfg
    let drawn := drawnLayers s p
    let cols := (openCols s p h y).flatMap (tileColumns c)
    (drawn.filter fun d => cols.any fun x => (layersAt c.hActive x y drawn).contains d).map fun d =>
      (d.slot, d.cfg.needAt (d.offset 0 y).2, Config.freeNat s.free % 65536)

/-- DEADLINE (R176, R177, R225): a begun line is composed with its late layers' tiles held; a line not begun is passed over
and its tile row keeps its damage. -/
def execDeadline (p h y : Nat) (s : State) : Out :=
  let x := s.half p h
  endLine p (if x.nextLine != y || (lineRec s p h y).isNone then s
    else if x.begun && laneAlive s p h then
      let s := (lateLayers s p h y).foldl (fun s l => makeLate p h y l s) s.takeFree
      runHalf p h (composeNow p h y s)
    else
      let s := if x.begun then s
        else if y % 16 = 0 then
          let l := rowDamage s p h (y / 16)
          s.mapHalf p h fun x => { x with latch := l, again := [], failed := [], rowMissed := false }
        else s
      let latch := (s.half p h).latch
      let s := mapLine p h y (s.pipe p).compFrame (fun r => { r with skipped := true, marked := latch }) s
      let s := s.mapHalf p h fun x => { x with rowMissed := x.rowMissed || !latch.isEmpty }
      runHalf p h (nextLine p h y s))

/-- LINE_WRITE (R224): a line write reaches the basin; inside its window it lands, before it it waits, after it it is
discarded. -/
def execLineWrite (p h y : Nat) (s : State) : Out :=
  endLine p (match (s.half p h).lines.find? fun r => r.y == y && r.issued && !r.closed with
    | none => s
    | some r => if r.opened then landLine p h y r s else mapLine p h y r.frame (fun r => { r with issued := false, waiting := true }) s)

/-- WINDOW_OPEN (R223, R224): the window of line y opens, and a line write that waits lands. -/
def execWindowOpen (p h y : Nat) (s : State) : Out :=
  endLine p (match (s.half p h).lines.find? fun r => r.y == y && !r.opened with
    | none => s
    | some r =>
      let s := mapLine p h y r.frame (fun r => { r with opened := true }) s
      if r.waiting then landLine p h y r s else s)

end Sys2Proof.Machine
end

