-- ==== Sys2Proof/Machine/Commit.lean ====
section
/-! DEFINITION. Commits: what a COMMIT takes, the shadow bank, groups and their fences, and the application of changes at a
lock with damage, retirement and tone state (files 04 and 06). -/
namespace Sys2Proof.Machine

open Sys2Proof

/-! ### What a COMMIT takes (R131, R143, R144) -/

/-- The pending change of a slot, none if nothing is pending or the slot is not ASSIGNED. -/
def pendingChange (n : Nat) (l : Layer) : Option Change :=
  if l.state = .assigned ∧ l.pending ≠ 0 then
    some { slot := n, mask := l.pending % 512, cfg := l.shadow, fence := if bit l.pending 9 then l.acquire else none }
  else none

/-- Groups of a list of changes: the changes of an ATOMIC pod together, every other change alone (R143). -/
def groupChanges (s : State) (b : Barge) (l : List Change) : List Group :=
  let podFor := fun (c : Change) => (podOf s c.slot).filter fun k => (s.pod k).atomic
  let pods := (l.filterMap podFor).eraseDups
  (pods.map fun k =>
    ({ pod := k, atomic := true, changes := l.filter fun c => podFor c == some k, ring := b.ring % imageRing, seq := b.seq } : Group)) ++
  (l.filter fun c => (podFor c).isNone).map fun c =>
    { pod := (podOf s c.slot).getD 255, changes := [c], ring := b.ring % imageRing, seq := b.seq }

/-- The commit that a COMMIT barge makes of a pipe's pending changes and releases (R131). -/
def takeCommit (b : Barge) (s : State) : Commit × State :=
  let p := b.pay 0 1
  let slots := slotsOf s p
  let changes := slots.filterMap fun x => pendingChange x.1 x.2
  let releases := (slots.filter fun x => decide (x.2.state = .releasePending) && !x.2.releaseWaits).map (·.1)
  let s' := { s with layers := s.layers.zipIdx.map fun x =>
    if releases.contains x.2 then { x.1 with releaseWaits := true }
    else if changes.any fun c => c.slot == x.2 then { x.1 with pending := 0, acquire := none } else x.1 }
  ({ barge := b, landed := bit (b.pay 1 1) 0, groups := groupChanges s b changes, releases }, s')

/-! ### Layer state (Tables 4-4 and 4-6) -/

/-- A layer state with the groups of a mask taken from another. -/
def mergeMask (mask : Nat) (n o : LayerCfg) : LayerCfg :=
  let g := fun i => bit mask i
  let c := if g 0 then { o with kind := n.kind, input := n.input, handle := n.handle, hasSource := n.hasSource } else o
  let c := if g 1 then { c with srcX := n.srcX, srcY := n.srcY, srcW := n.srcW, srcH := n.srcH } else c
  let c := if g 2 then { c with dstX := n.dstX, dstY := n.dstY, dstW := n.dstW, dstH := n.dstH } else c
  let c := if g 3 then { c with zpos := n.zpos } else c
  let c := if g 4 then { c with enable := n.enable } else c
  let c := if g 5 then { c with blend := n.blend, alpha := n.alpha } else c
  let c := if g 6 then { c with enc := n.enc, range := n.range, transfer := n.transfer } else c
  let c := if g 7 then { c with toneMode := n.toneMode, toneCurve := n.toneCurve } else c
  if g 8 then { c with tapsH := n.tapsH, tapsV := n.tapsV, decimate := n.decimate, filter := n.filter } else c

/-- Group `i` of two layer states differs (R148). -/
def groupDiffers (i : Nat) (n o : LayerCfg) : Bool := !decide (mergeMask (2 ^ i) n o = o)

/-- Tiles that a change from one active state to another damages (Table 4-4). -/
def changeTiles (c : PipeCfg) (o n : LayerCfg) : List Nat :=
  if [0, 1, 2, 3, 4].any fun i => groupDiffers i n o then (dstTiles c o ++ dstTiles c n).eraseDups
  else if [5, 6, 7, 8].any fun i => groupDiffers i n o then dstTiles c n else []

/-- A change is a seed point: the layer is enabled, or its SOURCE or TONE group changes (R204). -/
def seedsTone (o n : LayerCfg) : Bool := (n.enable && !o.enable) || groupDiffers 0 n o || groupDiffers 7 n o

/-- MAX_CLL of a layer's stream, 0 for a layer without one (R199). -/
def layerCll (s : State) (c : LayerCfg) : Nat := if c.hasSource && c.kind == 1 then (s.cam c.input).decl.maxCll else 0

/-- Tone state at a seed point (R199, R204). -/
def seededTone (s : State) (o : OutStage) (c : LayerCfg) : Tone :=
  if c.toneMode = 0 then {}
  else let t := seedTable o c.toneCurve (layerCll s c); { table := t, seed := t }

/-- The area of a surface that a layer's change detaches, on a running pipe (R112, R152). -/
def detachArea (p : Nat) (o n : LayerCfg) (s : State) : State :=
  let x := s.pipe p
  if !o.enable || !o.hasSource || o.kind == 1 || decide (x.state ≠ .running) then s
  else if n.enable && n.hasSource && n.kind != 1 && n.handle == o.handle then s
  else
    let tiles := dstTiles x.cfg o
    { s with surfaces := s.surfaces.map fun u =>
        if u.live && u.handle == o.handle then
          { u with areas := (u.areas.filter fun a => a.pipe != p) ++
              [{ pipe := p, frame := x.compFrame
                 tiles := ((u.areas.filter fun a => a.pipe == p).flatMap (·.tiles) ++ tiles).eraseDups }] }
        else u }

/-- A surface is raced-bound at a lock: P is the progress of a watermark job on it, or HEIGHT (R344). -/
def bindRaced (h : Nat) (s : State) : State :=
  match s.surface h with
  | some u => s.mapSurface u.index fun x => { x with watermark := (jobProgress s h).getD x.height }
  | none => s

/-- One change applied to its layer: the tiles it damages, and the state (R139, R148, R152, R204). -/
def applyChange (p : Nat) (c : Change) (s : State) : List Nat × State :=
  let o := (s.layer c.slot).active
  let n := mergeMask c.mask c.cfg o
  let x := s.pipe p
  let tiles := changeTiles x.cfg o n
  let s := detachArea p o n s
  let s := s.mapLayer c.slot fun l =>
    { l with
      active := n
      appliedTime := s.time
      tone := if seedsTone o n then seededTone s x.ostage n else l.tone
      boundSlot := if groupDiffers 0 n o then none else l.boundSlot
      boundSeq := if groupDiffers 0 n o then 0 else l.boundSeq }
  let s := if n.kind == 2 && n.hasSource && groupDiffers 0 n o then bindRaced n.handle s else s
  (tiles, if x.state = .running then markDamage p tiles s else s)

/-- A slot released at a lock: layer removed, surfaces detached, pod left, slot UNASSIGNED (R155). -/
def applyRelease (p n : Nat) (s : State) : List Nat × State :=
  let o := (s.layer n).active
  let x := s.pipe p
  let tiles := if o.enable then dstTiles x.cfg o else []
  let s := detachArea p o {} s
  let s := { s with pods := s.pods.map fun (k : Pod) => { k with members := k.members.filter (· != n) } }
  let s := s.mapLayer n fun _ => {}
  (tiles, if x.state = .running then markDamage p tiles s else s)

/-! ### Groups at a lock (R143 to R147) -/

/-- The first absent fence of a group. -/
def absentFence (s : State) (g : Group) : Option Nat :=
  (g.changes.filterMap (·.fence)).findSome? fun f => if (s.fence f.1).isNone then some f.1 else none

/-- Every fence of a group has reached its value (R143). -/
def groupReady (s : State) (g : Group) : Bool := (g.changes.filterMap (·.fence)).all fun f => s.fenceReached f.1 f.2

/-- Slot mask of a group. -/
def slotMask (g : Group) : Nat := (g.changes.map fun c => 2 ^ c.slot).sum

/-- DATA of EV_POD_APPLIED (fence byte 0) and EV_POD_DROPPED. -/
def podData (p : Nat) (g : Group) (fence : Nat) : List Byte :=
  leBytes 1 p ++ leBytes 1 g.pod ++ leBytes 1 g.ring ++ leBytes 1 fence ++ leBytes 8 (slotMask g) ++ leBytes 8 g.seq

/-- What a lock has done so far. -/
structure LockTally where
  /-- Layers applied, released slots included (R139). -/
  applied : Nat := 0
  /-- Layers deferred (R145). -/
  deferred : Nat := 0
  /-- ATOMIC pods deferred (R145). -/
  pods : Nat := 0
  /-- Tiles damaged by the commit (R139). -/
  tiles : List Nat := []
  /-- Groups carried on (R146). -/
  carried : List Group := []
  deriving DecidableEq, Repr, Inhabited

/-- Changes of a group applied one after another. -/
def applyChanges (p : Nat) : List Change → LockTally → State → LockTally × State
  | [], t, s => (t, s)
  | c :: l, t, s =>
    let (tiles, s) := applyChange p c s
    applyChanges p l { t with applied := t.applied + 1, tiles := t.tiles ++ tiles } s

/-- One group sampled at a lock: applied, dropped or deferred (R143, R145 to R147). -/
def lockGroup (p : Nat) (carried : Bool) (g : Group) (t : LockTally) (s : State) : LockTally × State :=
  match absentFence s g with
  | some f => (t, raise p 0x0302 (podData p g f) s)
  | none =>
    if groupReady s g then
      let (t, s) := applyChanges p g.changes t s
      (t, if carried then raise p 0x0301 (podData p g 0) s else s)
    else
      let s := s.mapPipeCtr p fun c => { c with deferredPods := inc32 c.deferredPods }
      let s := g.changes.foldl (fun s c => s.mapLayer c.slot fun l => { l with deferrals := inc32 l.deferrals }) s
      ({ t with deferred := t.deferred + g.changes.length, pods := t.pods + b2n g.atomic, carried := t.carried ++ [g] }, s)

/-- Groups sampled one after another. -/
def lockGroups (p : Nat) : List (Bool × Group) → LockTally → State → LockTally × State
  | [], t, s => (t, s)
  | x :: l, t, s =>
    let (t, s) := lockGroup p x.1 x.2 t s
    lockGroups p l t s

/-- Releases applied one after another. -/
def lockReleases (p : Nat) : List Nat → LockTally → State → LockTally × State
  | [], t, s => (t, s)
  | n :: l, t, s =>
    let (tiles, s) := applyRelease p n s
    lockReleases p l { t with applied := t.applied + 1, tiles := t.tiles ++ tiles } s

/-- The carried groups that go on beside a commit, with new groups of their ATOMIC pods joined to them, and the new groups
that stand alone (R144, R146). -/
def joinGroups (carried new : List Group) (gone : List Nat) : List (Bool × Group) :=
  let taken := (new.flatMap fun g => g.changes.map (·.slot)) ++ gone
  let kept := carried.filterMap fun g =>
    let rest := g.changes.filter fun c => !taken.contains c.slot
    let more := if g.atomic then (new.filter fun n => n.atomic && n.pod == g.pod).flatMap (·.changes) else []
    if rest.isEmpty && more.isEmpty then none else some (true, { g with changes := rest ++ more })
  let free := new.filter fun n => !(n.atomic && carried.any fun g => g.atomic && g.pod == n.pod)
  kept ++ free.map fun g => (false, g)

/-- The lock's part that applies a commit, or samples the carried groups alone (R136 to R147). -/
def lockCommit (p : Nat) (c : Option Commit) (s : State) : LockTally × State :=
  let (new, gone) := match c with | some c => (c.groups, c.releases) | none => ([], [])
  let (t, s) := lockGroups p (joinGroups (s.pipe p).carried new gone) {} s
  let (t, s) := lockReleases p gone t s
  (t, refreshSurfaces (s.mapPipe p fun x => { x with carried := t.carried }))

/-- Lines by which a commit missed its lock (R138). -/
def missedLines (x : Pipe) (c : Commit) : Nat :=
  min 0xFFFF (ceilDiv ((c.completeTime - c.targetTime) * x.cfg.pixclk) x.cfg.lineX)

/-- The outcome of a COMMIT at the lock that applies it (R138, R139, R145). -/
def commitReply (x : Pipe) (c : Commit) (t : LockTally) : Nat × Nat :=
  (t.applied % 65536 + (min 255 t.deferred) * 2 ^ 16 + (min 255 t.pods) * 2 ^ 24 +
     (if c.missed then missedLines x c else 0) * 2 ^ 32 + (x.compFrame % 65536) * 2 ^ 48,
   2 * b2n (decide (0 < t.deferred)) + 4 * b2n c.missed)

/-- A commit that a lock applied completes, or waits for its tiles with LANDED (R139). -/
def finishCommit (p : Nat) (c : Commit) (t : LockTally) (s : State) : State :=
  let x := s.pipe p
  let (detail, cflags) := commitReply x c t
  let s := if c.missed then s.mapPipeCtr p fun k => { k with missedLocks := inc32 k.missedLocks } else s
  if c.landed && decide (x.state = .running) && !t.tiles.isEmpty then
    s.mapPipe p fun x => { x with landings := x.landings ++ [{ barge := c.barge, tiles := t.tiles.eraseDups, detail, cflags }] }
  else complete c.barge { detail, cflags } s

/-- The bank's part of a lock: a complete shadow bank is swapped in and the next waiting COMMIT is built; an incomplete one
has missed the lock (R133, R136, R138). -/
def lockBank (p : Nat) (s : State) : State :=
  match (s.pipe p).shadow with
  | none => (lockCommit p none s).2
  | some c =>
    if c.complete then
      let (t, s) := lockCommit p (some c) s
      let s := finishCommit p c t s
      s.mapPipe p fun x => { x with shadow := x.waiting.head?, waiting := x.waiting.tail }
    else
      let s := (lockCommit p none s).2
      s.mapPipe p fun x => { x with shadow := some (if c.missed then c else { c with missed := true, targetTime := s.time }) }

/-! ### COMMIT and SHADOW_BANK_COMPLETE (R132 to R135, R159) -/

/-- Checks of COMMIT; R135, R159. -/
def commitCheck (b : Barge) (s : State) : Option Reply :=
  firstFail [ lenIs b 8, reservedBits b 1 0xFE, reservedBytes b 2 6, fieldIf b 0 1 (decide (7 < b.pay 0 1)),
    failIf (decide ((s.pipe (b.pay 0 1)).state = .unconfigured)) (wrongState s 0) ]

/-- Effect of COMMIT: applied at once on a pipe that is not running, else built for a lock (R131 to R135, R140). -/
def commitApply (b : Barge) (s : State) : State :=
  let p := b.pay 0 1
  let (c, s) := takeCommit b s
  if (s.pipe p).state = .configured then
    let (t, s) := lockCommit p (some c) s
    finishCommit p c t s
  else if c.groups.isEmpty && c.releases.isEmpty then s.mapPipe p fun x => { x with atLock := x.atLock ++ [.emptyCommit b] }
  else if (s.pipe p).shadow.isNone then s.mapPipe p fun x => { x with shadow := some c }
  else s.mapPipe p fun x => { x with waiting := x.waiting ++ [c] }

/-- COMMIT; R159. -/
def execCommit (b : Barge) (s : State) : Out := barge commitCheck commitApply b s

/-- The journal with a barge's effect committed (R79, R132). -/
def markCommitted (b : Barge) (s : State) : State :=
  s.mapRing b.ring fun r => { r with inflight := r.inflight.map fun f => if f.barge = b then { f with committed := true } else f }

/-- SHADOW_BANK_COMPLETE (R132): the shadow banks of a pipe are marked complete. Firmware does not run in CONTAIN. -/
def execShadowBankComplete (p : Nat) (s : State) : Out :=
  .next (match (s.pipe p).shadow with
    | none => s
    | some c =>
      if c.complete || s.mode.contain then s
      else markCommitted c.barge (s.mapPipe p fun x => { x with shadow := some { c with complete := true, completeTime := s.time } }))

/-- The changes that a commit took stay pending in shadow state when CONTAIN ends it (R132). -/
def returnCommit (c : Commit) (s : State) : State :=
  let s := c.releases.foldl (fun s n => s.mapLayer n fun l => { l with releaseWaits := false }) s
  (c.groups.flatMap (·.changes)).foldl (fun s x => s.mapLayer x.slot fun l =>
    { l with
      pending := l.pending ||| x.mask ||| (if x.fence.isSome then 512 else 0)
      acquire := if l.acquire.isSome then l.acquire else x.fence }) s

/-! ### Tone and visibility at a lock (R201 to R205, R286) -/

/-- Even positions of a layer's destination on a pipe (R201). -/
def evenPositions (c : PipeCfg) (l : LayerCfg) : Nat :=
  let evens := fun (a n : Int) (size : Nat) =>
    let lo := max 0 a
    let hi := min (size : Int) (a + n)
    if hi ≤ lo then 0 else ((hi + 1) / 2 - (lo + 1) / 2).toNat
  evens l.dstX l.dstW c.hActive * evens l.dstY l.dstH c.vActive

/-- One ADAPTIVE layer at a lock: the waiting table is applied, and the frame just composed is counted (R201 to R205). -/
def lockTone (p n : Nat) (s : State) : State :=
  let l := s.layer n
  let x := s.pipe p
  if l.pipe != p || decide (l.state = .unassigned) || l.active.toneMode != 2 then s
  else
    let t := l.tone
    let table := t.next.getD t.table
    let s := if table != t.table && l.active.enable then markDamage p (dstTiles x.cfg l.active) s else s
    let counted := !t.spoiled && decide (0 < t.samples) && decide (evenPositions x.cfg l.active ≤ 16 * t.samples)
    let window := if counted then (t.hist :: t.window).take 8 else t.window
    let j := if counted then t.j + 1 else t.j
    s.mapLayer n fun l =>
      { l with tone := { t with
          table, j, window, hist := List.replicate 56 0, samples := 0, spoiled := false
          next := if counted then some (adaptTable x.ostage l.active.toneCurve j t.seed table window) else none } }

/-- The tone state of the layers of a pipe at a lock. -/
def lockTones (p : Nat) (s : State) : State := (List.range 64).foldl (fun s n => lockTone p n s) s

/-- A layer is hidden: a camera layer by Table 9-4, any layer by the programme in QUIET (R286, R465). -/
def hiddenNow (s : State) (n : Nat) (c : LayerCfg) : Bool :=
  if quietHidden s n then true
  else if !c.hasSource || c.kind != 1 then false
  else
    let m := s.cam c.input
    match m.state with
    | .undeclared => true
    | .running => false
    | .lost => m.decl.hide
    | .declared | .waiting => if m.anyComplete then m.decl.hide else true

/-- Visibility of one layer at a lock: a change damages its destination (R286, R465). -/
def lockVisible (p n : Nat) (s : State) : State :=
  let l := s.layer n
  let h := hiddenNow s n l.active
  if l.pipe != p || decide (l.state = .unassigned) || l.hidden == h then s
  else
    let s := if l.active.enable then markDamage p (dstTiles (s.pipe p).cfg l.active) s else s
    s.mapLayer n fun l => { l with hidden := h }

/-- Visibility of the camera layers of a pipe at a lock. -/
def lockVisibility (p : Nat) (s : State) : State := (List.range 64).foldl (fun s n => lockVisible p n s) s

/-- Every tone state of a pipe's layers at a seed point: the output stage has changed (R202, R204). -/
def reseedPipe (p : Nat) (s : State) : State :=
  (List.range 64).foldl (fun s n =>
    let l := s.layer n
    if l.pipe = p ∧ l.state ≠ .unassigned then s.mapLayer n fun l => { l with tone := seededTone s (s.pipe p).ostage l.active } else s) s

end Sys2Proof.Machine
end

