-- ==== Sys2Proof/Machine/Pipes.lean ====
section
/-! DEFINITION. Opcodes of family 0x04: pipe configuration and its checks, enabling, disabling, timing changes, towing, link
status, EDID reads and the write-back tap (file 08). -/
namespace Sys2Proof.Machine

open Sys2Proof

/-! ### The payload of Table 8-2 -/

/-- The configuration at payload offset `o` (Table 8-2). -/
def cfgOf (b : Barge) (o : Nat) : PipeCfg :=
  let f := b.pay (o + 3) 1
  { linkKind := b.pay (o + 1) 1, links := b.pay (o + 2) 1, dsc := bit f 1, dither := bit f 2, alpm := bit f 3
    link0 := b.pay (o + 4) 1, link1 := b.pay (o + 5) 1, laneCount := b.pay (o + 6) 1, linkRate := b.pay (o + 7) 1
    pixclk := b.pay (o + 8) 4, hActive := b.pay (o + 0x0C) 2, hFp := b.pay (o + 0x0E) 2, hSync := b.pay (o + 0x10) 2
    hBp := b.pay (o + 0x12) 2, vActive := b.pay (o + 0x14) 2, vFp := b.pay (o + 0x16) 2, vSync := b.pay (o + 0x18) 2
    vBp := b.pay (o + 0x1A) 2, vtMin := b.pay (o + 0x1C) 2, vtMax := b.pay (o + 0x1E) 2, lead := b.pay (o + 0x20) 2
    bpc := b.pay (o + 0x22) 1, dscBpp := b.pay (o + 0x23) 1, dscSlices := b.pay (o + 0x24) 1, blackMin := b.pay (o + 0x25) 1
    syncPol := b.pay (o + 0x26) 1, ostage := b.pay (o + 0x28) 8 }

/-- Reserved bits of a Table 8-2 payload. -/
def cfgReserved (b : Barge) (o : Nat) : List (Option Reply) :=
  [ reservedBits b (o + 3) 0xF0, reservedBits b (o + 0x26) 0xFC, reservedBytes b (o + 0x27) 1 ]

/-- A link index of a kind (Table 8-3): D0 to D3, or a display-facing A-PHY port. -/
def linkFits (s : State) (kind l : Nat) : Bool :=
  if kind ≤ 2 then decide (l ≤ 3) else decide (4 ≤ l) && decide (l ≤ 11) && !bit s.aphyDir (l - 4)

/-- Rate codes of a link kind (Table 8-5). -/
def rateFits (kind rate : Nat) : Bool :=
  match kind with
  | 0 => rate == 0
  | 1 => [0x01, 0x04, 0x07, 0x08, 0x09].contains rate
  | 2 => decide (1 ≤ rate) && decide (rate ≤ 8)
  | _ => decide (0x11 ≤ rate) && decide (rate ≤ 0x14)

/-- DSC_SLICES with DSC (R264). -/
def slicesFit (c : PipeCfg) : Bool :=
  [1, 2, 4, 8].contains c.dscSlices && c.wl % c.dscSlices == 0 && (c.wl / c.dscSlices) % 2 == 0 &&
    decide (c.wl / c.dscSlices ≤ 2560)

/-- Link fields of a configuration; R242, R243, R264. -/
def cfgLinks (b : Barge) (o : Nat) (s : State) (c : PipeCfg) : List (Option Reply) :=
  [ fieldIf b (o + 1) 1 (decide (4 < c.linkKind)),
    fieldIf b (o + 2) 1 (if c.linkKind = 0 then c.links != 0 else c.links != 1 && c.links != 2),
    fieldIf b (o + 4) 1 (if c.links = 0 then c.link0 != 255 else !linkFits s c.linkKind c.link0),
    fieldIf b (o + 5) 1 (if c.links = 2 then !linkFits s c.linkKind c.link1 || c.link1 == c.link0 else c.link1 != 255),
    fieldIf b (o + 6) 1 (match c.linkKind with
      | 0 => c.laneCount != 0
      | 1 | 2 => !([1, 2, 4].contains c.laneCount)
      | _ => c.laneCount != 1),
    fieldIf b (o + 7) 1 (!rateFits c.linkKind c.linkRate) ]

/-- Timing fields of a configuration (Table 8-3). A broken sum names the first porch; the refresh limits name the vertical
total that breaks them. -/
def cfgTiming (b : Barge) (o : Nat) (c : PipeCfg) : List (Option Reply) :=
  let within := fun (v lo hi : Nat) => decide (lo ≤ v) && decide (v ≤ hi)
  [ fieldIf b (o + 8) 4 (!within c.pixclk 25000000 1200000000),
    fieldIf b (o + 0x0C) 2 (c.hActive % max 1 c.links != 0 || !within c.wl 320 8192 || c.wl % (if c.links = 2 then 64 else 8) != 0),
    fieldIf b (o + 0x0E) 2 (!within c.hFp 8 4095 || decide (c.hFp + c.hSync + c.hBp < 64)),
    fieldIf b (o + 0x10) 2 (!within c.hSync 8 4095), fieldIf b (o + 0x12) 2 (!within c.hBp 8 4095),
    fieldIf b (o + 0x14) 2 (!within c.vActive 64 8192),
    fieldIf b (o + 0x16) 2 (!within c.vFp 1 1023 || decide (c.vFp + c.vSync + c.vBp < ceilDiv 1280 c.ht + 2)),
    fieldIf b (o + 0x18) 2 (!within c.vSync 1 63), fieldIf b (o + 0x1A) 2 (!within c.vBp 1 1023),
    fieldIf b (o + 0x1C) 2 (decide (c.vt < c.vtMin) || decide (144 * c.ht * c.vtMin < c.pixclk)),
    fieldIf b (o + 0x1E) 2 (!within c.vtMax c.vt 16383 || decide (c.pixclk < 24 * c.ht * c.vtMax)),
    fieldIf b (o + 0x20) 2 (!within c.lead 8 c.vt) ]

/-- The other fields of a configuration; R242, R243, R264. -/
def cfgRest (b : Barge) (o : Nat) (s : State) (c : PipeCfg) : List (Option Reply) :=
  [ fieldIf b (o + 0x22) 1 (!([6, 8, 10].contains c.bpc) || (c.dsc && c.bpc == 6)),
    fieldIf b (o + 0x23) 1 (if c.dsc then !([8, 10, 12].contains c.dscBpp) || decide (3 * c.bpc ≤ c.dscBpp) else c.dscBpp != 0),
    fieldIf b (o + 0x24) 1 (if c.dsc then !slicesFit c else c.dscSlices != 0),
    fieldIf b (o + 0x25) 1 (decide (60 < c.blackMin)),
    fieldIf b (o + 0x28) 8 (c.ostage % 64 != 0 || (hostRegion s c.ostage 42056).isNone) ]

/-- Every field check of a Table 8-2 payload at offset `o`, in the order of the fields. -/
def cfgChecks (b : Barge) (o : Nat) (s : State) : List (Option Reply) :=
  let c := cfgOf b o
  cfgLinks b o s c ++ cfgTiming b o c ++ cfgRest b o s c

/-! ### The output-stage table (R208) -/

/-- ST_BAD_FIELD for a field of the output-stage table, its offset counted from the table's start (R208). -/
def tableField (off value : Nat) (bad : Bool) : Option Reply :=
  failIf bad (.checkFailed stBadField (off + value % 2 ^ 32 * 2 ^ 32))

/-- The first number of a list above a limit, with its place. -/
def firstAbove (limit : Nat) : Nat → List Nat → Option (Nat × Nat)
  | _, [] => none
  | i, v :: l => if limit < v then some (i, v) else firstAbove limit (i + 1) l

/-- 16-bit numbers of a byte string. -/
def words16 (n : Nat) (l : List Byte) : List Nat := (List.range n).map fun i => leNat (slice l (2 * i) 2)

/-- The three values of each LUT3D entry: entries of 8 bytes (Table 6-5). -/
def lutValues (l : List Byte) : List Nat :=
  (List.range 4913).flatMap fun i => (List.range 3).map fun k => leNat (slice l (8 * i + 2 * k) 2)

/-- The output stage that a table's bytes give, or why it is refused (Table 6-5): header, PANEL_LUT if CUSTOM, LUT3D if
enabled. -/
def parseOstage (head panel lut : List Byte) : OutStage ⊕ Reply :=
  let n := fun (off k : Nat) => leNat (slice head off k)
  let o : OutStage :=
    { wSdr := n 0 2, peak := n 2 2, primaries := n 4 1, panelTf := n 5 1, lut3dEn := bit (n 6 1) 0
      bg := [n 8 4, n 0x0C 4, n 0x10 4]
      panelLut := if n 5 1 = 5 then words16 1347 panel else [], lut3d := if bit (n 6 1) 0 then lutValues lut else [] }
  match firstFail
    [ tableField 0 o.wSdr (decide (o.wSdr < 80) || decide (1000 < o.wSdr)),
      tableField 2 o.peak (decide (o.peak < o.wSdr) || decide (10000 < o.peak)),
      tableField 4 o.primaries (decide (1 < o.primaries)), tableField 5 o.panelTf (decide (5 < o.panelTf)),
      tableField 8 (n 8 4) (decide (o.pOut < n 8 4)), tableField 0x0C (n 0x0C 4) (decide (o.pOut < n 0x0C 4)),
      tableField 0x10 (n 0x10 4) (decide (o.pOut < n 0x10 4)),
      (firstAbove 4095 0 o.panelLut).bind fun x => tableField (0x20 + 2 * x.1) x.2 true,
      (firstAbove 4095 0 o.lut3d).bind fun x => tableField (0xAC0 + 8 * (x.1 / 3) + 2 * (x.1 % 3)) x.2 true ] with
  | some r => .inr r
  | none => .inl o

/-- The output-stage table at an address as firmware copies it: the parts in use. A table that cannot be read ends the barge
with ST_INTERNAL and a record. -/
def readOstage (b : Barge) (a : Nat) (s : State) : (OutStage ⊕ Reply) × State :=
  let (head, bad, s) := devRead 0x02 4 a 0x20 s
  let custom := decide (leNat ((slice (head.map fun o => o.getD 0) 5 1)) = 5)
  let lutEn := bit (leNat (slice (head.map fun o => o.getD 0) 6 1)) 0
  let (panel, bad', s) := if custom then devRead 0x02 4 (a + 0x20) 2694 s else ([], [], s)
  let (lut, bad'', s) := if lutEn then devRead 0x02 4 (a + 0xAC0) 39304 s else ([], [], s)
  if bad.isEmpty && bad'.isEmpty && bad''.isEmpty then
    (parseOstage (head.map fun o => o.getD 0) (panel.map fun o => o.getD 0) (lut.map fun o => o.getD 0), s)
  else (.inr (.err stInternal s.faults.nextIndex), internalRecord b s)

/-! ### Lanes and frames (R218, R219) -/

/-- The lowest `n` logical lanes that no other pipe has and that compose. -/
def pickLanes (s : State) (p n : Nat) : List Nat :=
  let taken := (s.pipes.zipIdx.filter fun x => x.2 != p).flatMap fun x => x.1.lanes
  ((List.range 8).filter fun k => !taken.contains k && !s.lanes.stopped.getD k false).take n

/-- `n` units from the lowest address upwards around the used ones, which rise (R218). -/
def takeUnits (n lo : Nat) : List Nat → List Nat
  | [] => (List.range n).map (lo + ·)
  | u :: l =>
    let k := min n (u - lo)
    (List.range k).map (lo + ·) ++ (if n - k = 0 then [] else takeUnits (n - k) (max lo (u + 1)) l)

/-- Units for a frame of a pipe. -/
def placeFrame (s : State) (p : Nat) (c : PipeCfg) : List Nat :=
  let used := ((s.pipes.zipIdx.filter fun x => x.2 != p).flatMap fun x => x.1.units).inOrder fun a b => decide (a ≤ b)
  takeUnits c.units 0 used

/-- Code of a pipe state (Table 8-1). -/
def PipeState.code : PipeState → Nat
  | .unconfigured => 0 | .configured => 1 | .running => 2 | .retraining => 3

/-- The damage map full (R148). -/
def fullDamage (c : PipeCfg) : List Bool := List.replicate (tileCols c.hActive * tileRows c.vActive) true

/-- A pipe with a configuration: the frame is allocated, again only if its size changes (R219, R267). -/
def setConfig (p : Nat) (c : PipeCfg) (o : OutStage) (s : State) : State :=
  let x := s.pipe p
  let keep := decide (x.state ≠ .unconfigured) && x.cfg.frameSize == c.frameSize
  let lanes := pickLanes s p c.lanesNeeded
  let units := if keep then x.units else placeFrame s p c
  s.mapPipe p fun x => { x with state := .configured, cfg := c, ostage := o, lanes, units, damage := fullDamage c, halves := [{}, {}] }

/-! ### Write-back rings (R273) -/

/-- The state without the write-back ring of a pipe. -/
def freeWbRing (p : Nat) (s : State) : State := match wbRegion s p with | some r => freeRegion r.base s | none => s

/-- A write-back ring for a pipe of a configuration: the one it has if that is as large, else one placed in its stead. -/
def placeWbRing (p : Nat) (c : PipeCfg) (rateDiv : Nat) (s : State) : State ⊕ MemFail :=
  let n := wbGranules c rateDiv
  match wbRegion s p with
  | some r => if r.count = n then .inl s else
      (match placePrivate n false (.writeback p) (freeRegion r.base s) with | .inl x => .inl x.2 | .inr f => .inr f)
  | none => match placePrivate n false (.writeback p) s with | .inl x => .inl x.2 | .inr f => .inr f

/-- The ring of an enabled tap follows a new configuration of its pipe (log 18). -/
def fitWbRing (p : Nat) (c : PipeCfg) (s : State) : State ⊕ MemFail :=
  match (s.pipe p).wbHeld with
  | some w =>
    if w.dest = 0 then
      match placeWbRing p c w.rateDiv s with
      | .inl t => .inl (t.mapPipe p fun x => { x with wb := { x.wb with slots := wbSlots c w.rateDiv } })
      | .inr f => .inr f
    else .inl s
  | none => .inl s

/-! ### PIPE_CONFIG and PIPE_REMOVE (R249, R267) -/

/-- The pipe other than `p` whose configuration names one of the links of a configuration (R267). -/
def linkUser (s : State) (p : Nat) (c : PipeCfg) : Option Nat :=
  (c.linkList.filterMap fun l => (pipeOfLink s l).filter (· != p)).head?

/-- Checks of PIPE_CONFIG; R243, R267. -/
def pipeConfigCheck (b : Barge) (s : State) : Option Reply :=
  let p := b.pay 0 1
  let x := s.pipe p
  firstFail ([lenIs b 48] ++ cfgReserved b 0 ++ [fieldIf b 0 1 (decide (7 < p))] ++
    [failIf (decide (x.state = .running) || decide (x.state = .retraining)) (wrongState s x.state.code)] ++ cfgChecks b 0 s ++
    [(linkUser s p (cfgOf b 0)).map fun q => .err stBusy q])

/-- Effect of PIPE_CONFIG: the output-stage table is copied, the pipe admitted, its frame allocated; R208, R218, R267. -/
def pipeConfigApply (b : Barge) (s : State) : State :=
  let p := b.pay 0 1
  let c := cfgOf b 0
  match readOstage b c.ostage s with
  | (.inr r, s) => complete b r s
  | (.inl o, s) =>
    let new := setConfig p c o s
    let (new, fail) := match fitWbRing p c new with | .inl t => (t, none) | .inr f => (new, some f)
    let (r, body) := runAdmission s { rest := s.mapPipe p fun _ => {}, new, pipe := some p, memFail := fail }
    match r with
    | some r => complete b r s
    | none => complete b { report := some body } (readmitIf new)

/-- PIPE_CONFIG; R267. -/
def execPipeConfig (b : Barge) (s : State) : Out := bargeSync pipeConfigCheck pipeConfigApply b s

/-- Assigned slots of a pipe, as R249 counts them. -/
def slotCount (s : State) (p : Nat) : Nat := (slotsOf s p).length

/-- Towing or the write-back tap of a pipe is enabled (R249). -/
def towOrTap (x : Pipe) : Bool := x.towHeld.isSome || x.wbHeld.isSome

/-- Checks of PIPE_CONFIG with REMOVE: the fields after CFLAGS are ignored; R249. -/
def pipeRemoveCheck (b : Barge) (s : State) : Option Reply :=
  let p := b.pay 0 1
  let x := s.pipe p
  let kind := b.pay 1 1
  firstFail [ lenIs b 48, reservedBits b 3 0xF0, fieldIf b 0 1 (decide (7 < p)), fieldIf b 1 1 (decide (4 < kind)),
    fieldIf b 2 1 (if kind = 0 then b.pay 2 1 != 0 else b.pay 2 1 != 1 && b.pay 2 1 != 2),
    failIf (decide (x.state = .running) || decide (x.state = .retraining)) (wrongState s x.state.code),
    failIf (decide (x.state = .configured) && slotCount s p != 0) (.err stBusy (slotCount s p)),
    failIf (decide (x.state = .configured) && towOrTap x) (.err stBusy 0xFF) ]

/-- Effect of PIPE_CONFIG with REMOVE: the frame is released; R249. -/
def pipeRemoveApply (b : Barge) (s : State) : State :=
  let p := b.pay 0 1
  if (s.pipe p).state = .unconfigured then complete b .ok s
  else complete b .ok (readmitIf (s.mapPipe p fun _ => {}))

/-- PIPE_CONFIG with REMOVE; R249. -/
def execPipeRemove (b : Barge) (s : State) : Out := bargeSync pipeRemoveCheck pipeRemoveApply b s

/-! ### Links of a pipe -/

/-- Entry of a tow into FREE: the stamps taken before are discarded (R258). -/
def Tow.enterFree (t : Tow) : Tow := { t with state := .free, stamps := [], freeFrames := 0, streak := 0, dv := 0 }

/-- The tow of a pipe enters FREE, if the pipe is towed (R258). -/
def freeTow (p : Nat) (s : State) : State :=
  s.mapPipe p fun x => if x.tow.state = .off then x else { x with tow := x.tow.enterFree }

/-- The link waits for no HPD: A-PHY start-up comes first on an A-PHY port (R263). -/
def hasHpd (c : PipeCfg) (k : Link) : Bool := !c.isDp || k.hpd

/-- A link begins a training series: training, or DOWN with NO_SINK while HPD is low (R247, R265). -/
def trainLink (c : PipeCfg) (l : Nat) (s : State) : State :=
  s.mapLink l fun k =>
    let k := { k with seriesFails := 0, seriesTold := false, waitHpd := false, retrainDue := false, irqRetrain := false }
    if hasHpd c k then { k with state := .training } else { k with state := .down, failCode := 1 }

/-- Every link of a configuration begins training, with the counts that run since PIPE_ENABLE reset (Table 8-11). -/
def trainLinks (c : PipeCfg) (fresh : Bool) (s : State) : State :=
  c.linkList.foldl (fun s l => trainLink c l (if fresh then
    s.mapLink l fun k => { k with retrains := 0, trainFails := 0, losses := [], upTime := 0, failCode := 0 } else s)) s

/-- The status of a link that is not up (R247, R266). -/
def linkReply (s : State) (l : Nat) : Reply :=
  let k := s.link l
  if k.failCode = 1 then .err stDeviceAbsent (l + 0x100) else .err stLinkFailed (l + k.failCode * 2 ^ 16)

/-- Links of a pipe that are not up, rising. -/
def notUp (s : State) (p : Nat) : List Nat :=
  ((s.pipe p).cfg.linkList.filter fun l => decide ((s.link l).state ≠ .up)).inOrder fun a b => decide (a ≤ b)

/-- Every link of a pipe has come up or failed: none is training. -/
def linksSettled (s : State) (p : Nat) : Bool := (s.pipe p).cfg.linkList.all fun l => decide ((s.link l).state ≠ .training)

/-- PIPE_ENABLE barges of a pipe complete when a link has failed and none is training (R247). -/
def settleEnables (p : Nat) (s : State) : State :=
  match notUp s p with
  | [] => s
  | l :: _ =>
    if linksSettled s p then
      let r := linkReply s l
      (s.pipe p).enables.foldl (fun s b => complete b r s) (s.mapPipe p fun x => { x with enables := [] })
    else s

/-! ### PIPE_ENABLE and PIPE_DISABLE (R247, R248, R268) -/

/-- A half at the start of its pipe's timing generator: nothing composed, nothing driven; the probe stays written. -/
def Half.fresh (h : Half) : Half := { ({} : Half) with probeWritten := h.probeWritten }

/-- Checks of PIPE_ENABLE; R268. -/
def pipeEnableCheck (b : Barge) (s : State) : Option Reply :=
  let p := b.pay 0 1
  firstFail [ lenIs b 8, reservedBytes b 1 7, fieldIf b 0 1 (decide (7 < p)),
    failIf (decide ((s.pipe p).state = .unconfigured)) (wrongState s 0) ]

/-- The timing generator of a configured pipe starts: RUNNING, damage full, links training (R247). -/
def startPipe (b : Barge) (p : Nat) (s : State) : State :=
  let s := s.mapPipe p fun x =>
    { x with
      state := .running, damage := fullDamage x.cfg, lit := false, wholeFrame := false, firstFrame := none, composing := false
      compFrame := 0, black := none, enables := [b], trainedClk := x.cfg.pixclk, halves := x.halves.map (·.fresh)
      leadNext := none, timingNext := none, holds := [], capturing := false, frameTime := s.time }
  settleEnables p (freeTow p (trainLinks (s.pipe p).cfg true (markCommitted b s)))

/-- Effect of PIPE_ENABLE; R247, R268. -/
def pipeEnableApply (b : Barge) (s : State) : State :=
  let p := b.pay 0 1
  if (s.pipe p).state = .configured then startPipe b p s else complete b .ok s

/-- PIPE_ENABLE; R247, R268. -/
def execPipeEnable (b : Barge) (s : State) : Out := bargeSync pipeEnableCheck pipeEnableApply b s

/-- A link-class change of the pipe has started and not completed (Table 8-8). -/
def linkChanging (x : Pipe) : Bool := decide (x.state = .retraining) || (match x.retime with | some r => r.linkClass | none => false)

/-- Checks of PIPE_DISABLE; R248, R268, Table 8-8. -/
def pipeDisableCheck (b : Barge) (s : State) : Option Reply :=
  let p := b.pay 0 1
  let x := s.pipe p
  firstFail [ lenIs b 8, reservedBits b 1 0xFE, reservedBytes b 2 6, fieldIf b 0 1 (decide (7 < p)),
    failIf (linkChanging x) (freeReply stBusy s),
    failIf (decide (x.state = .running) && critical s p && !bit (b.pay 1 1) 0) (.err stCriticalPipe p) ]

/-- Effect of PIPE_DISABLE: it waits for the next t_s(0) of a running pipe; R248. -/
def pipeDisableApply (b : Barge) (s : State) : State :=
  let p := b.pay 0 1
  if (s.pipe p).state = .running then markCommitted b (s.mapPipe p fun x => { x with disables := x.disables ++ [b] })
  else complete b .ok s

/-- PIPE_DISABLE; R248, R268. -/
def execPipeDisable (b : Barge) (s : State) : Out := bargeSync pipeDisableCheck pipeDisableApply b s

/-! ### TIMING_CHANGE (R250 to R255, R269) -/

/-- D of R244. -/
def pllDivider (pixclk : Nat) : Nat := min 96 (ceilDiv 4800000000 pixclk - 1)

/-- N × 2^24 + F of R244. -/
def pllFactor (pixclk : Nat) : Nat := (2 * (pixclk * pllDivider pixclk * 2 ^ 24) + 25000000) / (2 * 25000000)

/-- The configuration in force with the changes that wait for the frame start and the next lock. -/
def Pipe.current (x : Pipe) : PipeCfg :=
  let c := x.timingNext.getD x.cfg
  match x.leadNext with | some (_, k) => { c with lead := k } | none => c

/-- The tow condition on the lead (R256). -/
def towLead (c : PipeCfg) : Bool := decide (c.lead + 5 ≤ c.vt - c.vActive)

/-- The PIXCLK condition of Table 8-6 for lock class. -/
def pixclkLock (x : Pipe) (n : PipeCfg) : Bool :=
  decide ((max n.pixclk x.trainedClk - min n.pixclk x.trainedClk) * 200 ≤ x.trainedClk) &&
    pllDivider n.pixclk == pllDivider x.current.pixclk && decide (200000 * n.pixclk ≤ n.lead * n.lineX)

/-- Whether a change to a configuration is of lock class: every field that differs is one of Table 8-6's lock-class fields,
and PIXCLK keeps its condition. -/
def lockClass (x : Pipe) (n : PipeCfg) : Bool :=
  let o := x.current
  let same : PipeCfg := { n with vFp := o.vFp, vtMin := o.vtMin, vtMax := o.vtMax, pixclk := o.pixclk, lead := o.lead, ostage := o.ostage }
  decide (same = o) && (n.pixclk == o.pixclk || pixclkLock x n)

/-- Lock-class conditions of V_FP, VT_MIN, VT_MAX and LEAD, each naming its field (R250, Table 8-6). -/
def timingConditions (b : Barge) (x : Pipe) (n : PipeCfg) : List (Option Reply) :=
  let o := x.current
  let outside := decide (o.vt < n.vtMin) || decide (n.vtMax < o.vt)
  [ fieldIf b (8 + 0x16) 2 (n.vFp != o.vFp && (decide (n.vt < n.vtMin) || decide (n.vtMax < n.vt) || decide (n.vt < n.lead))),
    fieldIf b (8 + 0x1C) 2 (n.vtMin != o.vtMin && outside), fieldIf b (8 + 0x1E) 2 (n.vtMax != o.vtMax && outside),
    fieldIf b (8 + 0x20) 2 (n.lead != o.lead &&
      (decide (n.lead < 8) || decide (n.vt < n.lead) || (decide (x.tow.state ≠ .off) && !towLead n))) ]

/-- SEQ of a TIMING_CHANGE of the pipe that has started and not completed (Table 8-8). -/
def timingBusy (x : Pipe) : Option Nat :=
  match x.retime with
  | some r => some r.barge.seq
  | none => x.atLock.findSome? fun a => match a with | .sameTiming b => some b.seq | _ => none

/-- Checks of TIMING_CHANGE before the output-stage table and admission; R250, R253, R255, R269. -/
def timingChangeCheck (b : Barge) (s : State) : Option Reply :=
  let p := b.pay 0 1
  let x := s.pipe p
  let o := x.current
  let n := cfgOf b 8
  firstFail ([ lenIs b 56, reservedBits b 1 0xFE, reservedBytes b 2 6 ] ++ cfgReserved b 8 ++
    [ fieldIf b 0 1 (decide (7 < p)), failIf (decide (x.state ≠ .running)) (wrongState s x.state.code),
      (timingBusy x).map fun q => .err stBusy q,
      fieldIf b 8 1 (b.pay 8 1 != p), fieldIf b 9 1 (n.linkKind != o.linkKind), fieldIf b 10 1 (n.links != o.links),
      fieldIf b 11 1 (bit (b.pay 11 1) 0), fieldIf b 12 1 (n.link0 != o.link0), fieldIf b 13 1 (n.link1 != o.link1) ] ++
    timingConditions b x n ++ cfgChecks b 8 s ++
    [ failIf (!lockClass x n && critical s p && !bit (b.pay 1 1) 0) (.err stCriticalPipe p) ])

/-- A TIMING_CHANGE with its output stage is admitted and waits for its lock (R250 to R252). -/
def startTiming (b : Barge) (p : Nat) (n : PipeCfg) (o : OutStage) (s : State) : State :=
  let x := s.pipe p
  let new := s.mapPipe p fun y =>
    { y with retime := some { barge := b, cfg := n, ostage := o, linkClass := !lockClass x n, startTime := s.time } }
  let (new, fail) := match fitWbRing p n new with | .inl t => (t, none) | .inr f => (new, some f)
  let (r, body) := runAdmission s { rest := s.mapPipe p fun y => { y with state := .unconfigured }, new, pipe := some p, memFail := fail }
  match r with
  | some r => complete b r s
  | none => noteReport b body new

/-- Effect of TIMING_CHANGE; R250 to R252. -/
def timingChangeApply (b : Barge) (s : State) : State :=
  let p := b.pay 0 1
  let x := s.pipe p
  let n := cfgOf b 8
  if n = x.current then s.mapPipe p fun y => { y with atLock := y.atLock ++ [.sameTiming b] }
  else if n.ostage = x.current.ostage then startTiming b p n x.ostage s
  else match readOstage b n.ostage s with
    | (.inr r, s) => complete b r s
    | (.inl o, s) => startTiming b p n o s

/-- TIMING_CHANGE; R250, R269. -/
def execTimingChange (b : Barge) (s : State) : Out := bargeSync timingChangeCheck timingChangeApply b s

/-! ### TOW_SET (R256, R257, R270) -/

/-- The settings of a TOW_SET payload (Table 8-10). -/
def towOf (b : Barge) : TowPending :=
  { barge := b, enable := bit (b.pay 1 1) 0, slot := b.pay 2 1, cls := b.pay 3 1, guardUs := b.pay 4 2, boundUs := b.pay 8 4 }

/-- The slot holds a camera layer of the pipe in active state (R256, R300). -/
def cameraLayerOf (s : State) (p n : Nat) : Bool :=
  let l := s.layer n
  decide (n < 64) && decide (l.state ≠ .unassigned) && l.pipe == p && l.active.hasSource && l.active.kind == 1 &&
    decide ((s.cam l.active.input).state ≠ .undeclared)

/-- The stream's declared frame period is within 3 line periods of the pipe's frame period (R256). -/
def periodsMatch (s : State) (c : PipeCfg) (n : Nat) : Bool :=
  let a := (s.cam (s.layer n).active.input).decl.framePeriod * c.pixclk
  let f := c.vt * c.lineX
  decide (max a f - min a f ≤ 3 * c.lineX)

/-- The conditions on pairing, lead and vertical timing (R256). -/
def towTiming (c : PipeCfg) : Bool :=
  c.links != 2 && towLead c && decide (5 ≤ c.vFp) && decide (c.vtMin + 4 ≤ c.vt) && decide (c.vt + 4 ≤ c.vtMax)

/-- Checks of TOW_SET; R256, R270. -/
def towSetCheck (b : Barge) (s : State) : Option Reply :=
  let p := b.pay 0 1
  let x := s.pipe p
  let t := towOf b
  let c := x.admitted.getD x.cfg
  firstFail [ lenIs b 16, reservedBits b 1 0xFE, reservedBytes b 6 2, reservedBytes b 0x0C 4,
    fieldIf b 0 1 (decide (7 < p)), fieldIf b 3 1 (decide (2 < t.cls)), fieldIf b 4 2 (decide (1000 < t.guardUs)),
    failIf (decide (x.state = .unconfigured)) (wrongState s 0),
    fieldIf b 2 1 (t.enable && !(cameraLayerOf s p t.slot && periodsMatch s c t.slot)),
    fieldIf b 0 1 (t.enable && !towTiming c) ]

/-- TOW_PHASE and phi_min of a towed pipe from its layer and configuration (R257). -/
def setPhase (p : Nat) (s : State) : State :=
  s.mapPipe p fun x =>
    if x.tow.state = .off then x
    else
      let l := (s.layer x.tow.slot).active
      let line := (s.cam l.input).decl.linePeriod
      { x with tow := { x.tow with phase := towPhase x.cfg l line x.tow.guardUs
                                   phiMin := (ceilDivI (phiMinX x.cfg l line) x.cfg.pixclk).toNat } }

/-- A TOW_SET takes effect: a new tow or another slot enters FREE; V_FP of a pipe no longer towed is the configured one
(R258, R270). -/
def applyTow (p : Nat) (t : TowPending) (s : State) : State :=
  setPhase p (s.mapPipe p fun x =>
    if !t.enable then { x with tow := {} }
    else
      let y := { x.tow with slot := t.slot, cls := t.cls, guardUs := t.guardUs, boundUs := t.boundUs }
      { x with tow := if x.tow.state = .off ∨ x.tow.slot ≠ t.slot then { y.enterFree with pend := [], meas := [] } else y })

/-- The state without the tow of a pipe. -/
def withoutTow (p : Nat) (s : State) : State :=
  s.mapPipe p fun x => { x with tow := {}, atLock := x.atLock.filter fun a => match a with | .tow _ => false | _ => true }

/-- Effect of TOW_SET: at once on a CONFIGURED pipe, else at the next lock; R270. -/
def towSetApply (b : Barge) (s : State) : State :=
  let p := b.pay 0 1
  let t := towOf b
  let atOnce := decide ((s.pipe p).state = .configured)
  let new := if atOnce then applyTow p t s else s.mapPipe p fun x => { x with atLock := x.atLock ++ [.tow t] }
  let (r, body) := runAdmission s { rest := withoutTow p s, new, pipe := some p }
  match r with
  | some r => complete b r s
  | none => if atOnce then complete b { report := some body } (readmitIf new) else markCommitted b (noteReport b body new)

/-- TOW_SET; R256, R270. -/
def execTowSet (b : Barge) (s : State) : Out := bargeSync towSetCheck towSetApply b s

/-! ### LINK_STATUS (R271) -/

/-- PIXCLK_UHZ: the synthesised clock in µHz, to the nearest (R244). -/
def synthesised (pixclk : Nat) : Nat :=
  let d := pllDivider pixclk * 2 ^ 24
  if pixclk = 0 then 0 else (2 * (25000000 * 1000000 * pllFactor pixclk) + d) / (2 * d)

/-- P_c as a fraction: the time between the newest and the oldest stamp held, and the intervals (R258). -/
def Tow.period (t : Tow) : Nat × Nat := ((t.stamps.headD (0, 0)).1 - (t.stamps.getLastD (0, 0)).1, t.stamps.length - 1)

/-- P_c in ns, to the nearest, 0 if there is none. -/
def Tow.periodNs (t : Tow) : Nat := let (d, n) := t.period; if n = 0 then 0 else (2 * d + n) / (2 * n)

/-- Code of a tow state (Table 8-11). -/
def TowState.code : TowState → Nat
  | .off => 0 | .free => 1 | .acquiring => 2 | .locked => 3

/-- Code of a link state (Table 8-11). -/
def LinkState.code : LinkState → Nat
  | .down => 0 | .training => 1 | .up => 2 | .black => 3 | .idle => 4

/-- One link entry of Table 8-11. -/
def linkEntry (s : State) (l : Option Nat) : List Byte :=
  match l with
  | none => leBytes 1 255 ++ leBytes 15 0
  | some l =>
    let k := s.link l
    leBytes 1 l ++ leBytes 1 k.state.code ++ leBytes 2 k.failCode ++ leBytes 1 k.rate ++ leBytes 1 k.lanes ++
      leBytes 2 k.retrains ++ leBytes 4 k.trainFails ++ leBytes 4 k.events

/-- Report body of LINK_STATUS (Table 8-11). -/
def linkStatusBody (s : State) (p : Nat) : List Byte :=
  let x := s.pipe p
  let t := x.tow
  leBytes 1 x.state.code ++ leBytes 1 t.state.code ++ leBytes 1 t.cls ++ leBytes 1 0 ++ leBytes 4 (unsigned 32 t.err) ++
    leBytes 8 (synthesised x.cfg.pixclk) ++ leBytes 4 t.periodNs ++ leBytes 4 (if t.state = .off then 0 else t.phase) ++ leBytes 8 0 ++
    linkEntry s (x.cfg.linkList[0]?) ++ linkEntry s (x.cfg.linkList[1]?)

/-- Checks of LINK_STATUS; R271. -/
def linkStatusCheck (b : Barge) (_ : State) : Option Reply :=
  firstFail [ lenIs b 8, reservedBytes b 1 7, fieldIf b 0 1 (decide (7 < b.pay 0 1)) ]

/-- Effect of LINK_STATUS; R271. -/
def linkStatusApply (b : Barge) (s : State) : State := complete b { report := some (linkStatusBody s (b.pay 0 1)) } s

/-- LINK_STATUS; R271. -/
def execLinkStatus (b : Barge) (s : State) : Out := barge linkStatusCheck linkStatusApply b s

/-! ### EDID_READ (R272) -/

/-- The AUX request for the next bytes of a link's first transaction: at most 16 bytes. -/
def sendAux (l : Nat) (s : State) : State :=
  match (s.link l).aux with
  | j :: _ => s.send (.aux l j.addr (min 16 j.left))
  | [] => s

/-- An AUX transaction joins a link's queue; the first is sent at once. -/
def queueAux (l : Nat) (j : AuxJob) (s : State) : State :=
  let idle := (s.link l).aux.isEmpty
  let s := s.mapLink l fun k => { k with aux := k.aux ++ [j] }
  if idle then sendAux l s else s

/-- Checks of EDID_READ; R272. -/
def edidReadCheck (b : Barge) (s : State) : Option Reply :=
  let l := b.pay 0 1
  let space := b.pay 1 1
  let dsi := match pipeOfLink s l with | some p => (s.pipe p).cfg.linkKind == 3 | none => false
  firstFail [ lenIs b 8, fieldIf b 0 1 (decide (11 < l) || (decide (4 ≤ l) && bit s.aphyDir (l - 4))), fieldIf b 1 1 (decide (1 < space)),
    fieldIf b 2 2 (b.pay 2 2 = 0 || decide (4064 < b.pay 2 2)),
    fieldIf b 4 4 (decide ((if space = 0 then 32767 else 0xFFFFF) < b.pay 4 4)),
    failIf dsi (wrongState s (Config.freeNat s.free % 256)) ]

/-- Effect of EDID_READ: the AUX transactions begin; R272. -/
def edidReadApply (b : Barge) (s : State) : State :=
  queueAux (b.pay 0 1) { barge := some b, space := b.pay 1 1, addr := b.pay 4 4, left := b.pay 2 2 } s

/-- EDID_READ; R272. -/
def execEdidRead (b : Barge) (s : State) : Out := barge edidReadCheck edidReadApply b s

/-- The whole 128-byte blocks within bytes that begin at an EDID offset each sum to 0 modulo 256 (RFLAGS [1]). -/
def blocksGood (off : Nat) (data : List Byte) : Bool :=
  let first := ceilDiv off 128
  (List.range ((off + data.length) / 128 - first)).all fun i =>
    ((slice data (128 * (first + i) - off) 128).map (·.toNat)).sum % 256 == 0

/-- Report body of EDID_READ (R272): the header, then the bytes read. -/
def edidBody (space off : Nat) (data : List Byte) : List Byte :=
  let head := decide (off = 0) && decide (8 ≤ data.length) && decide (slice data 0 8 = [0, 0xFF, 0xFF, 0xFF, 0xFF, 0xFF, 0xFF, 0])
  leBytes 2 data.length ++ leBytes 1 (if space = 0 then b2n head + 2 * b2n (blocksGood off data) else 0) ++ leBytes 13 0 ++ data

/-! ### WRITEBACK_SET (R213, R273) -/

/-- The settings of a WRITEBACK_SET payload (Table 8-12). -/
def wbOf (b : Barge) : Writeback :=
  let n := if b.pay 4 1 = 1 then b.pay 5 1 else 0
  { enable := bit (b.pay 1 1) 0, format := b.pay 2 1, rateDiv := b.pay 3 1, dest := b.pay 4 1
    handles := (List.range n).map fun i => b.pay (8 + 8 * i) 8 }

/-- Checks of one write-back surface: it is registered in FORMAT at the pipe's size, not sealed, not lost (R273). -/
def wbHandle (b : Barge) (s : State) (c : PipeCfg) (i : Nat) : List (Option Reply) :=
  let h := b.pay (8 + 8 * i) 8
  match s.surface h with
  | none => [some (badHandle h)]
  | some x =>
    [ failIf x.sealed (wrongState s 1), failIf (decide (x.state = .lost)) (wrongState s 3),
      fieldIf b (8 + 8 * i) 8 (x.format != b.pay 2 1 || x.width != c.hActive || x.height != c.vActive || x.compressed) ]

/-- Checks of WRITEBACK_SET; R213, R273. -/
def writebackSetCheck (b : Barge) (s : State) : Option Reply :=
  let p := b.pay 0 1
  let x := s.pipe p
  let w := wbOf b
  let n := b.pay 5 1
  firstFail ([ lenIs b 48, reservedBits b 1 0xFE, reservedBytes b 6 2, reservedBytes b 0x28 8,
    fieldIf b 0 1 (decide (7 < p)), fieldIf b 2 1 (!([0x02, 0x03, 0x13].contains w.format)),
    fieldIf b 3 1 (w.rateDiv = 0 || decide (60 < w.rateDiv)), fieldIf b 4 1 (decide (1 < w.dest)),
    fieldIf b 5 1 (if w.dest = 1 then decide (n < 2) || decide (4 < n) else n != 0) ] ++
    ((List.range 4).map fun i => fieldIf b (8 + 8 * i) 8 (decide (w.handles.length ≤ i) && b.pay (8 + 8 * i) 8 != 0)) ++
    [ failIf (decide (x.state = .unconfigured)) (wrongState s 0) ] ++
    (if w.enable then (List.range w.handles.length).flatMap (wbHandle b s (x.admitted.getD x.cfg)) else []))

/-- A write-back setting takes effect at a lock or at once: the tap starts afresh, the surfaces it no longer names are
unbound, and the ring of a tap that no longer has one is freed (R273). -/
def applyWriteback (p : Nat) (w : Writeback) (s : State) : State :=
  let s := s.mapPipe p fun x => { x with wb := { w with records := x.wb.records } }
  refreshSurfaces (if w.enable && w.dest == 0 then s else freeWbRing p s)

/-- The state without the write-back tap of a pipe. -/
def withoutTap (p : Nat) (s : State) : State :=
  freeWbRing p (s.mapPipe p fun x =>
    { x with wb := {}, atLock := x.atLock.filter fun a => match a with | .writeback _ _ => false | _ => true })

/-- Effect of WRITEBACK_SET: admission with the ring of DEST 0, then the lock, or at once on a CONFIGURED pipe; R273. -/
def writebackSetApply (b : Barge) (s : State) : State :=
  let p := b.pay 0 1
  let x := s.pipe p
  let c := x.admitted.getD x.cfg
  let w := if (wbOf b).dest = 0 then { wbOf b with slots := wbSlots c (b.pay 3 1) } else wbOf b
  let (placed, fail) : State × Option MemFail :=
    if w.enable && w.dest == 0 then
      match placeWbRing p c w.rateDiv s with | .inl t => (t, none) | .inr f => (s, some f)
    else (s, none)
  let atOnce := decide (x.state = .configured)
  let new := if atOnce then applyWriteback p w placed
    else refreshSurfaces (placed.mapPipe p fun y => { y with atLock := y.atLock ++ [.writeback b w] })
  let (r, body) := runAdmission s { rest := withoutTap p s, new, memFail := fail }
  match r with
  | some r => complete b r s
  | none => if atOnce then complete b { report := some body } (readmitIf new) else markCommitted b (noteReport b body new)

/-- WRITEBACK_SET; R273. -/
def execWritebackSet (b : Barge) (s : State) : Out := bargeSync writebackSetCheck writebackSetApply b s

end Sys2Proof.Machine
end

