-- ==== Sys2Proof/Machine/PoundOps.lean ====
section
/-! DEFINITION. The pound's cells and queues (file 12): allocation, the operations of Table 12-2, flush, marks, weir notices. -/
namespace Sys2Proof.Machine

open Sys2Proof

/-- LEVEL: cells a queue holds, the open item's included (R375). -/
def Queue.level (q : Queue) : Nat := ((q.held ++ q.items).map (·.cells.length)).sum

/-- Cells held by common queues, COMMON_HELD (R380). -/
def commonHeld (p : Pound) : Nat := ((p.queues.filter fun q => !q.reserved).map Queue.level).sum

/-- Sum of the reserved quotas, RESERVED_SUM (R380). -/
def reservedSum (p : Pound) : Nat :=
  ((p.queues.filter fun q => q.reserved && decide (q.state ≠ .absent)).map (·.quota)).sum

/-- The outstanding guarantee G (R362). -/
def guarantee (p : Pound) : Nat :=
  ((p.queues.filter fun q => q.reserved && decide (q.state ≠ .absent)).map fun q => q.quota - q.level).sum + (4096 - commonHeld p)

/-- Cells in use of quarter `k`. -/
def quarterUsed (p : Pound) (k : Nat) : Nat := (p.used.filter fun c => c / 4096 = k).length

/-- Quarter `k` is powered and in service. -/
def quarterOn (p : Pound) (k : Nat) : Bool := p.powered.getD k false && !p.faulted.getD k false

/-- Free cells of the powered, in-service quarters that satisfy a condition (R362). -/
def freeCellsOf (p : Pound) (c : Nat → Bool) : Nat :=
  (((List.range 4).filter fun k => quarterOn p k && c k).map fun k => 4096 - quarterUsed p k).sum

/-- FREE_CELLS (R380). -/
def freeCells (p : Pound) : Nat := freeCellsOf p fun _ => true

/-- The lowest cell of quarter `k` that is not in use, searched over `n` cells from `c`. -/
def freeCellFrom (used : List Nat) (c : Nat) : Nat → Option Nat
  | 0 => none
  | n + 1 => if used.contains c then freeCellFrom used (c + 1) n else some c

/-- Quarters in the order in which cells are taken (R363, R364): in service, then draining, then served from backing. -/
def quarterOrder (p : Pound) : List Nat :=
  let on := (List.range 4).filter fun k => quarterOn p k
  (on.filter fun k => !p.draining.getD k false && !p.underTest.getD k false) ++
  (on.filter fun k => p.draining.getD k false) ++
  ((List.range 4).filter fun k => p.faulted.getD k false)

/-- The next cell to allocate (R363). -/
def nextCell (p : Pound) : Option Nat :=
  ((quarterOrder p).filterMap fun k =>
    if quarterUsed p k < 4096 then freeCellFrom p.used (4096 * k) (quarterUsed p k + 1) else none).head?

/-- `n` cells taken, in order (R363). -/
def takeCells (p : Pound) : Nat → List Nat × Pound
  | 0 => ([], p)
  | n + 1 =>
    match nextCell p with
    | none => ([], p)
    | some c =>
      let (l, q) := takeCells { p with used := (c :: p.used).inOrder fun a b => decide (a ≤ b) } n
      (c :: l, q)

/-- Whether queue `q` may take `n` more cells (R361). -/
def mayTake (p : Pound) (q n : Nat) : Bool :=
  let x := at_ p.queues q
  decide (x.level + n ≤ x.quota) &&
    (x.reserved || decide (commonHeld p + n ≤ if q = 0 || q = 16 then 4096 else 3840))

/-- The quarter is empty and the others meet the guarantee: it is powered down (R363). -/
def trimQuarter (p : Pound) (k : Nat) : Pound :=
  if quarterOn p k && decide (quarterUsed p k = 0) && !p.underTest.getD k false &&
     decide (guarantee p ≤ freeCellsOf p fun j => j != k)
  then { p with powered := p.powered.set k false } else p

/-- Empty quarters are powered down, highest-numbered first (R363). -/
def trimQuarters (p : Pound) : Pound := [3, 2, 1, 0].foldl trimQuarter p

/-- Quarters are powered up, lowest first, until the free cells cover the guarantee (R362). -/
def powerQuarters (p : Pound) : Pound :=
  [0, 1, 2, 3].foldl (fun p k =>
    if freeCells p < guarantee p && !p.powered.getD k false then { p with powered := p.powered.set k true } else p) p

/-- A change of a queue's level is observed: crossings, extremes and the notice (R375, R376). -/
def levelChanged (q old : Nat) (s : State) : State :=
  let x := s.queue q
  let new := x.level
  let up := x.hiEn && decide (old < x.weirHi) && decide (x.weirHi ≤ new)
  let down := x.loEn && decide (x.weirLo < old) && decide (new ≤ x.weirLo)
  let s' := s.mapQueue q fun x =>
    { x with
      extHi := max x.extHi new
      extLo := min x.extLo new
      dirUp := x.dirUp || up
      dirDown := x.dirDown || down
      crossings := if up || down then satAdd 255 x.crossings 1 else x.crossings
      notice := x.notice || up || down }
  if (up || down) && !x.notice then
    let r : EvRec := { code := 0x0901, source := 105, time := s.time,
                       data := padTo 20 (leBytes 1 q ++ leBytes 1 (if up then 1 else 2) ++ leBytes 2 new) }
    let s' := if bit x.notify 1 then s'.mapSource true 105 (Source.assert r) else s'
    if bit x.notify 0 then s'.mapSource false 169 (Source.assert r) else s'
  else s'

/-- Cells are freed: the pool has them again, and a faulty cell's words are clean when it is next written (R368). -/
def freeCellsList (cells : List Nat) (s : State) : State :=
  s.mapPound fun p =>
    trimQuarters { p with used := p.used.filter (fun c => !cells.contains c)
                          badCells := p.badCells.filter (fun c => !cells.contains c) }

/-- Internal level source of a queue (Table 14-5), none if it has none. -/
def queueSource (q : Nat) : Option Nat :=
  if q ≤ 16 then some (32 + q) else if 80 ≤ q ∧ q ≤ 83 then some (q - 31) else none

/-- The queue's internal level source follows whether it holds a complete item (Table 14-5). -/
def queueLevelSource (q : Nat) (s : State) : State :=
  match queueSource q with
  | some n => s.mapSource false n (Source.setLevel ((s.queue q).items.any (·.complete)) s.time)
  | none => s

/-- A queue changed by `f`, then its level's change and its source observed, with the freed cells returned to the pool. -/
def changeQueue (q : Nat) (freed : List Nat) (f : Queue → Queue) (s : State) : State :=
  let old := (s.queue q).level
  queueLevelSource q (levelChanged q old (freeCellsList freed (s.mapQueue q f)))

/-- The result code of a client's operation. -/
def setCode (c : PoundCode) (s : State) : State := s.mapPound fun p => { p with code := c }

/-- The open item of a queue: the last one, if its END has not been given. -/
def Queue.openItem (q : Queue) : Option Item := (q.items.getLast?).filter fun i => !i.ended

/-- PUT (Table 12-2). -/
def qPut (q : Nat) (bytes : List Byte) (s : State) : State :=
  let x := s.queue q
  if x.voiding then setCode .discarded s
  else
    let cur := (x.openItem).getD {}
    let size := cur.bytes.length + bytes.length
    if 256 * x.maxItem < size then
      let drop := fun (x : Queue) =>
        { x with items := if x.openItem.isSome then x.items.dropLast else x.items, voiding := true, voided := inc32 x.voided }
      setCode .tooLong (changeQueue q cur.cells drop s)
    else
      let n := ceilDiv size 256 - cur.cells.length
      if !mayTake s.pound q n then setCode .full (s.mapQueue q fun x => { x with quotaRefusals := inc32 x.quotaRefusals })
      else
        let (cells, p) := takeCells s.pound n
        let item : Item := { cur with bytes := cur.bytes ++ bytes, cells := cur.cells ++ cells }
        let put := fun (x : Queue) =>
          { x with items := (if x.openItem.isSome then x.items.dropLast else x.items) ++ [item] }
        setCode .ok (changeQueue q [] put { s with pound := p })

/-- END (Table 12-2). -/
def qEnd (q : Nat) (s : State) : State :=
  let x := s.queue q
  if x.voiding then setCode .discarded (s.mapQueue q fun x => { x with voiding := false })
  else match x.openItem with
    | none => setCode .noItem s
    | some i => setCode .ok (s.mapQueue q fun x => { x with items := x.items.dropLast ++ [{ i with ended := true }] })

/-- CANCEL (Table 12-2): the producer's open item ends void and its cells are freed. -/
def qCancel (q : Nat) (s : State) : State :=
  let x := s.queue q
  if x.voiding then setCode .ok (s.mapQueue q fun x => { x with voiding := false })
  else match x.openItem with
    | none => setCode .noItem s
    | some i => setCode .ok (changeQueue q i.cells (fun x => { x with items := x.items.dropLast, voided := inc32 x.voided }) s)

/-- The oldest ended item becomes complete (R359). -/
def completeFirst (now : Nat) : List Item → List Item
  | [] => []
  | i :: l => if i.complete || !i.ended then i :: completeFirst now l else { i with complete := true, time := now } :: l

/-- An ended item becomes visible 4 control clocks after its END (R359, R369). -/
def qComplete (q : Nat) (s : State) : State :=
  if (s.queue q).items.any fun i => i.ended && !i.complete then
    queueLevelSource q (s.mapQueue q fun x => { x with items := completeFirst s.time x.items, itemsIn := inc32 x.itemsIn })
  else s

/-- The current item: the oldest complete item at the read position (R367). -/
def Queue.current (q : Queue) : Option Item := (q.items.head?).filter (·.complete)

/-- A consumer's operation after a flush returns FLUSHED and has no other effect (R371). -/
def afterFlush (q : Nat) (s : State) (op : State → State) : State :=
  if (s.queue q).flushPending then setCode .flushed (s.mapQueue q fun x => { x with flushPending := false }) else op s

/-- GET (Table 12-2, R374). -/
def qGet (q n : Nat) (s : State) : State :=
  afterFlush q s fun s =>
    let x := s.queue q
    match x.current with
    | none => setCode .empty s
    | some i =>
      if i.bytes.length ≤ x.readOff then setCode .endOfItem s
      else
        let data := (i.bytes.drop x.readOff).take n
        let touched := (List.range (ceilDiv (x.readOff + data.length) 256)).drop (x.readOff / 256)
        match touched.find? fun k => s.pound.badCells.contains (i.cells.getD k 0) with
        | some k =>
          let quarter := i.cells.getD k 0 / 4096
          setCode .poisoned (raise 105 0x0902 (leBytes 1 q ++ leBytes 1 quarter)
            (s.mapQueue q fun x => { x with poisoned := inc32 x.poisoned }))
        | none =>
          setCode .ok ((s.mapQueue q fun x => { x with readOff := x.readOff + data.length }).mapPound fun p => { p with got := data })

/-- NEXT (Table 12-2, R372): the current item is finished, and freed unless a mark holds it. -/
def qNext (q : Nat) (s : State) : State :=
  afterFlush q s fun s =>
    let x := s.queue q
    match x.current with
    | none => setCode .empty s
    | some i =>
      if x.markOff.isSome then
        setCode .ok (changeQueue q [] (fun x => { x with held := x.held ++ [i], items := x.items.tail, readOff := 0 }) s)
      else
        setCode .ok (changeQueue q i.cells (fun x => { x with items := x.items.tail, readOff := 0, itemsOut := inc32 x.itemsOut }) s)

/-- DROP_REMAINDER (R373). -/
def qDrop (q : Nat) (s : State) : State :=
  afterFlush q s fun s =>
    let x := s.queue q
    match x.current with
    | none => setCode .empty s
    | some i =>
      let inMark := x.markOff.isSome && x.held.isEmpty
      setCode (if inMark then .okMarkCleared else .ok)
        (changeQueue q i.cells (fun x =>
          { x with items := x.items.tail, readOff := 0, itemsOut := inc32 x.itemsOut,
                   markOff := if inMark then none else x.markOff }) s)

/-- MARK (R372). -/
def qMark (q : Nat) (s : State) : State :=
  afterFlush q s fun s =>
    let x := s.queue q
    match x.current with
    | none => setCode .empty s
    | some _ =>
      setCode .ok (changeQueue q ((x.held.map (·.cells)).flatten) (fun x =>
        { x with markOff := some x.readOff, itemsOut := satAdd top32 x.itemsOut x.held.length, held := [] }) s)

/-- REWIND (R372). -/
def qRewind (q : Nat) (s : State) : State :=
  afterFlush q s fun s =>
    match (s.queue q).markOff with
    | none => setCode .noMark s
    | some off => setCode .ok (changeQueue q [] (fun x => { x with items := x.held ++ x.items, held := [], readOff := off }) s)

/-- RELEASE (R372). -/
def qRelease (q : Nat) (s : State) : State :=
  afterFlush q s fun s =>
    let x := s.queue q
    match x.markOff with
    | none => setCode .noMark s
    | some _ =>
      setCode .ok (changeQueue q ((x.held.map (·.cells)).flatten) (fun x =>
        { x with markOff := none, itemsOut := satAdd top32 x.itemsOut x.held.length, held := [] }) s)

/-- What a flush freed: complete items, voided items, mark cleared, cells (R370, R385). -/
def flushCounts (x : Queue) : Nat × Nat × Bool × Nat :=
  ((x.held ++ x.items.filter (·.ended)).length, if x.openItem.isSome then 1 else 0, x.markOff.isSome, x.level)

/-- FLUSH (R370). -/
def qFlush (q : Nat) (s : State) : State :=
  let x := s.queue q
  let (items, voided, _, _) := flushCounts x
  let late := (x.items.filter fun i => i.ended && !i.complete).length
  changeQueue q (((x.held ++ x.items).map (·.cells)).flatten) (fun x =>
    { x with held := [], items := [], readOff := 0, markOff := none, flushPending := true,
             itemsIn := satAdd top32 x.itemsIn late, itemsOut := satAdd top32 x.itemsOut items,
             voided := satAdd top32 x.voided voided, voiding := x.voiding || decide (0 < voided) }) s

/-- A module queue comes into existence, bound (R365). -/
def createQueue (q producer consumer : Nat) (reserved : Bool) (quota maxItem : Nat) (s : State) : State :=
  (s.mapQueue q fun _ => { producer, consumer, reserved, quota, maxItem, state := .bound }).mapPound powerQuarters

/-- A queue is deleted: its cells are freed as by a flush, and it becomes ABSENT with its block at reset (R382). -/
def deleteQueue (q : Nat) (s : State) : State := (qFlush q s).mapQueue q fun _ => {}

/-- An item put, ended and complete in one operation of the module; none if no cell is allowed. -/
def putItem (q : Nat) (bytes : List Byte) (s : State) : Option State :=
  let s' := qPut q bytes s
  if s'.pound.code = .ok then some (qComplete q (qEnd q s')) else none

/-- Whether a queue exists and could take an item of a given size now. -/
def queueHasRoom (s : State) (q size : Nat) : Bool :=
  decide ((s.queue q).state ≠ .absent) && !(s.queue q).voiding && mayTake s.pound q (ceilDiv size 256)

/-- The current item taken by the module: its bytes, and the state after NEXT. -/
def takeItem (q : Nat) (s : State) : Option (List Byte × State) :=
  let s := if (s.queue q).flushPending then s.mapQueue q fun x => { x with flushPending := false } else s
  (s.queue q).current.map fun i => (i.bytes, qNext q s)

end Sys2Proof.Machine
end

