-- ==== Sys2Proof/Machine/Sign.lean ====
section
/-! DEFINITION. FRAME_SIGN_SET settings as they take effect at a frame record (file 13). -/
namespace Sys2Proof.Machine

open Sys2Proof

/-- Channel that signs a link: its privileged channel, the general channel that took over, or none (R389, R402). -/
def signerOf (s : State) (l : Nat) : Option Nat :=
  let j := l % 4
  if !(s.chan (12 + j)).failed then some (12 + j)
  else if (s.chan (8 + j)).privileged && !(s.chan (8 + j)).failed then some (8 + j) else none

/-- SIG_QUEUE of a FRAME_SIGN_SET. -/
def signQueue (b : Barge) : Nat := b.pay 3 1

/-- Host queues that a link's settings name: in force and waiting. -/
def signQueues (s : State) (l : Nat) : List Nat :=
  (s.signBlock l).sigQueue :: (s.signBlock l).sets.map fun p => signQueue p.barge

/-- The producer of a host queue is bound (R366, R405). -/
def bindProducer (q client : Nat) (s : State) : State :=
  if q = 0 then s else s.mapQueue q fun x => { x with producer := client, state := .bound }

/-- The producer binding of a host queue is removed when no setting of the link names it any more. -/
def unbindProducer (l q : Nat) (s : State) : State :=
  if q = 0 || (signQueues s l).contains q then s
  else s.mapQueue q fun x =>
    if x.state = .absent then x else { x with producer := 0, state := if x.consumer = 0 then .created else x.state }

/-- The settings of a FRAME_SIGN_SET take effect (R404, R414); LOG_NEXT restarts when the log moves (DEDUCED, log 23). -/
def applySign (l : Nat) (b : Barge) (s : State) : State :=
  let old := s.signBlock l
  let en := bit (b.pay 1 1) 0
  let s := s.mapSign l fun x =>
    { x with
      en, freezeAction := bit (b.pay 1 1) 1, freezeFrames := b.pay 2 1, sigQueue := signQueue b
      logEntries := b.pay 4 4, logAddr := b.pay 8 8
      logNext := if x.logEntries = b.pay 4 4 ∧ x.logAddr = b.pay 8 8 then x.logNext else 0
      epochDue := x.epochDue || (en && !x.en), sets := x.sets.tail }
  complete b .ok (unbindProducer l old.sigQueue s)

/-- The settings that wait and are due at a frame record handed over now, in order (R414). -/
def takeSigns (l : Nat) (s : State) : State :=
  let due := (s.signBlock l).sets.takeWhile fun p => decide (p.start + 100000 ≤ s.time)
  due.foldl (fun s p => applySign l p.barge s) s

end Sys2Proof.Machine
end

