-- ==== Sys2Proof/Machine/Scanout.lean ====
section
/-! DEFINITION. Scan-out: frame starts, the close of a line's window and hold-over, the output FIFO, frame records and probes,
black frames, and the tow decision (files 07, 08 and 18). -/
namespace Sys2Proof.Machine

open Sys2Proof

/-! ### What a pipe drives -/

/-- The timing generator of a pipe runs: RUNNING, or RETRAINING while it drives black (Table 8-1). -/
def generating (x : Pipe) : Bool :=
  decide (x.state = .running) || (decide (x.state = .retraining) && (match x.retime with | some r => r.step == 2 | none => false))

/-- The pipe drives black: before first light, or for a disable or a retraining (R233, R248, R252). -/
def drivesBlack (x : Pipe) : Bool := !x.lit || x.black.isSome

/-- A line of a link fetched from the basin into its FIFO (R228). -/
def fetchLine (p h y : Nat) (s : State) : State :=
  let x := s.pipe p
  if x.cfg.links ≤ h then s
  else
    let (words, s) := readPixels p (lineAddrs x h y 0 x.cfg.wl) s
    s.mapHalf p h fun q => { q with fifo := q.fifo ++ [(y, words)] }

/-! ### Scan-out read paths (R551) -/

/-- The scan-out path of a link in use is faulty (R238, R551): recorded and out of service; the link switches at the next
t_s(0), unless its other path is out of service too (R553). -/
def pathFault (l : Nat) (s : State) : State :=
  let k := s.link l
  let path := b2n k.standby
  let beyond := bit k.pathFaults (1 - path)
  if bit k.pathFaults path then s
  else
    let s := faultRecord 9 (2 * l + path) 2 (objectFlags s 8 (2 * l + path) beyond) [] s
    let s := quarantine 8 (2 * l + path) s
    let s := if beyond then setCondition 1 s else s
    s.mapLink l fun k => { k with pathFaults := k.pathFaults ||| 2 ^ path, switchDue := !beyond }

/-- A link goes to its standby path at t_s(0); a corruption injected into the path it leaves ends (R551, R575). -/
def switchPath (l : Nat) (s : State) : State :=
  if (s.link l).switchDue then
    (s.mapLink l fun k => { k with standby := !k.standby, switchDue := false }).mapFaults fun f =>
      { f with probeBad := f.probeBad.filter fun x => x.1 != l }
  else s

/-! ### FRAME_START (R221, R233, R240, R247, R248, R251, R252) -/

/-- The pipe's links are all up. -/
def allUp (s : State) (p : Nat) : Bool := (notUp s p).isEmpty

/-- PIPE_DISABLE takes effect: the PIPE_ENABLEs that wait complete, training stops, and black begins (R247, R248). -/
def takeDisable (p : Nat) (s : State) : State :=
  let x := s.pipe p
  let stopped := x.cfg.linkList.filter fun l => decide ((s.link l).state = .training)
  let s := stopped.foldl (fun s l => s.mapLink l fun k => { k with state := .down, failCode := 0x000A }) s
  let r : Reply := match notUp s p with
    | [] => .ok ((s.pipeCtr p).frames % 65536)
    | l :: _ => if (s.link l).failCode = 1 then .err stDeviceAbsent (l + 0x100) else .err stLinkFailed (l + 0x000A * 2 ^ 16)
  let s := x.enables.foldl (fun s b => complete b r s) (s.mapPipe p fun x => { x with enables := [] })
  s.mapPipe p fun x => { x with black := some (max 2 x.cfg.blackMin, .disable) }

/-- Links that are up drive black (Table 8-11). -/
def blackLinks (p : Nat) (s : State) : State :=
  (s.pipe p).cfg.linkList.foldl (fun s l => s.mapLink l fun k => if k.state = .up then { k with state := .black } else k) s

/-- Black frames begin, or one of them has been driven (R248, Table 8-7). -/
def countBlack (p : Nat) (s : State) : State :=
  let x := s.pipe p
  match x.black with
  | some (n, why) => s.mapPipe p fun x => { x with black := some (if 1 < n then n - 1 else n, why) }
  | none =>
    if !x.disables.isEmpty then blackLinks p (takeDisable p s)
    else if x.state = .retraining then blackLinks p (s.mapPipe p fun x => { x with black := some (max 2 x.cfg.blackMin, .retrain) })
    else s

/-- The first frame driven from the basin: lines whose window has closed are fetched now (R233). -/
def firstLight (p : Nat) (s : State) : State :=
  let x := s.pipe p
  if x.lit || !x.wholeFrame then s
  else
    let s := s.mapPipe p fun x => { x with lit := true }
    let v := (s.pipeCtr p).frames
    (List.range x.cfg.links).foldl (fun s h =>
      ((s.half p h).lines.filter fun r => r.closed && r.frame == v && !((s.half p h).fifo.any fun f => f.1 == r.y)).foldl
        (fun s r => fetchLine p h r.y s) s) s

/-- PIPE_ENABLE completes at the first frame driven with every link up; a link-class change at the first frame driven from the
basin (R247, R252). -/
def frameCompletions (p : Nat) (s : State) : State :=
  let v := (s.pipeCtr p).frames % 65536
  let x := s.pipe p
  let s := if allUp s p && x.black.isNone then
      x.enables.foldl (fun s b => complete b (.ok v) s) (s.mapPipe p fun x =>
        { x with enables := [], firstFrame := x.firstFrame.or (some (s.pipeCtr p).frames) })
    else s
  match (s.pipe p).retime with
  | some r =>
    if r.linkClass && r.step == 4 && (s.pipe p).lit then
      complete r.barge { detail := v * 2 ^ 48, cflags := if r.recovered then 16 else 0 } (s.mapPipe p fun x => { x with retime := none })
    else s
  | none => s

/-- First light: a frame driven from the basin on every link of every LIGHT pipe (R504). -/
def noteFirstLight (s : State) : State :=
  let m := s.mode
  if m.firstLightMs.isNone && m.lightDone && !m.lightPipes.isEmpty &&
      m.lightPipes.all fun p => (s.pipe p).lit && allUp s p && (s.pipe p).black.isNone then
    s.mapMode fun m => { m with firstLightMs := some ((s.time - m.bootTime) / 1000000) }
  else s

/-- t_s(0) of a pipe: FRAMES increases, and what changes at a frame boundary changes. -/
def frameStart (p : Nat) (s : State) : State :=
  if !generating (s.pipe p) then s
  else
    let s := s.mapPipeCtr p fun c => { c with frames := c.frames + 1 }
    let s := s.mapPipe p fun x =>
      { x with
        frameTime := s.time
        cfg := match x.timingNext with | some n => { x.cfg with vFp := n.vFp, pixclk := n.pixclk } | none => x.cfg
        timingNext := none }
    let s := (s.pipe p).cfg.linkList.foldl (fun s l => switchPath l s) s
    noteFirstLight (frameCompletions p (firstLight p (countBlack p s)))

/-- FRAME_START; R240. -/
def execFrameStart (p : Nat) (s : State) : Out := done (frameStart p s)

/-! ### WINDOW_CLOSE and hold-over (R224 to R228) -/

/-- A line is held over: counted once for both halves, its tile row stays damaged (R225, R226). -/
def holdLine (p h y : Nat) (marked : List Nat) (s : State) : State :=
  let n := tileCols (s.pipe p).cfg.hActive
  let other := (s.half p (1 - h)).heldLines.contains y
  let s := s.mapHalf p h fun x =>
    { x with heldLines := x.heldLines ++ [y], rowMissed := x.rowMissed || (y / 16 == x.nextLine / 16 && y % 16 != 15) }
  let s := if other then s else s.mapPipeCtr p fun c => { c with holdLines := inc32 c.holdLines }
  let s := markDamage p (marked.map fun t => y / 16 * n + t) s
  if critical s p then setCondition 3 (s.mapFaults fun f => { f with holdOverTime := s.time }) else s

/-- Tile columns that the row latch marks on a line: those of its record, else the latch of the row in progress. -/
def markedOf (x : Half) (r : LineRec) : List Nat :=
  if r.marked.isEmpty && x.nextLine / 16 == r.y / 16 && decide (r.y % 16 ≠ 0) then x.latch else r.marked

/-- The window of line y of a half closes: a line write that has not landed is discarded, the line is held over if it was to
be written, and the scan-out fetches it (R224, R226, R228). -/
def windowClose (p h y : Nat) (s : State) : State :=
  let x := s.pipe p
  let shown := (x.lit || x.wholeFrame) && x.black.isNone
  let s := match (s.half p h).lines.find? fun r => r.y == y && !r.closed with
    | none => s
    | some r =>
      let marked := markedOf (s.half p h) r
      let missed := !r.landed && !marked.isEmpty
      let held := missed && shown && decide (h < x.cfg.links)
      let s := mapLine p h y r.frame (fun r => { r with closed := true, issued := false, waiting := false, heldOver := held }) s
      if held then holdLine p h y marked s
      else if missed then markDamage p (marked.map fun t => y / 16 * tileCols x.cfg.hActive + t) s
      else s
  if shown then fetchLine p h y s else s

/-- WINDOW_CLOSE; R224, R226. Wrong bits that the fetch meets come with it. -/
def execWindowClose (p h y : Nat) (upsets : List BasinUpset) (s : State) : Out :=
  let s := addBasinUpsets upsets s
  done (if !generating (s.pipe p) || decide ((s.pipe p).cfg.halfCount ≤ h) || decide ((s.pipe p).cfg.vActive ≤ y) then s
    else windowClose p h y s)

/-! ### LAST_PIXEL_REPEAT (R229) -/

/-- The last pixel that a link drove before pixel x of line y. -/
def pixelBefore (q : Half) (y x : Nat) : Word32 :=
  if 0 < x then ((q.fifo.find? fun f => f.1 == y).map fun f => f.2.getD (x - 1) 0).getD q.lastPixel
  else match (q.fifo.filter fun f => decide (f.1 < y)).getLast? with
    | some f => f.2.getLastD q.lastPixel
    | none => q.lastPixel

/-- The pixels driven on a line from which pixel x on are repeats. -/
def repeated (wl x : Nat) (last : Word32) (l : List Word32) : List Word32 :=
  (l ++ List.replicate (wl - l.length) last).take x ++ List.replicate (wl - x) last

/-- LAST_PIXEL_REPEAT: from pixel x of line y on, the link drives the last pixel it drove (R229). -/
def lastPixelRepeat (p h y x : Nat) (s : State) : State :=
  let wl := (s.pipe p).cfg.wl
  let q := s.half p h
  let last := pixelBefore q y x
  let line := repeated wl x last (((q.fifo.find? fun f => f.1 == y).map (·.2)).getD [])
  let s := s.mapHalf p h fun q =>
    { q with
      fifo := (q.fifo.filter fun f => decide (f.1 < y)) ++ (y, line) :: q.fifo.filter fun f => decide (y < f.1)
      repFirst := if q.repCount = 0 then y else q.repFirst
      repCount := q.repCount + 1 }
  s.mapPipeCtr p fun c => { c with underrun := inc32 c.underrun }

/-- LAST_PIXEL_REPEAT; R229. Black frames do not count as repeat (R233). -/
def execLastPixelRepeat (p h y x : Nat) (s : State) : Out :=
  let q := s.pipe p
  .next (if !generating q || drivesBlack q || decide (q.cfg.links ≤ h) || decide (q.cfg.vActive ≤ y) || decide (q.cfg.wl ≤ x) then s
    else lastPixelRepeat p h y x s)

/-! ### VERTICAL_BLANKING (R226, R229, R237 to R239, R265, R293) -/

/-- PIXEL_CRC of the slot of a camera frame that a pipe composed, none for a host ring or an incomplete frame (R406). -/
def recordPc (s : State) (p q : Nat) : Option Nat :=
  ((slotsOf s p).filter fun l => l.2.active.hasSource && l.2.active.kind == 1).findSome? fun l =>
    let m := s.cam l.2.active.input
    if !m.handles.isEmpty then none
    else (m.slots.find? fun k => k.seq == q && decide (k.fill = .complete)).map (·.pixelCrc)

/-- The frame record of a link at the end of the active lines of a frame (Table 7-6). -/
def frameRecordOf (s : State) (p h : Nat) : FrameRecord :=
  let x := s.pipe p
  let q := s.half p h
  let v := (s.pipeCtr p).frames
  let black := drivesBlack x
  let reg := if black then crcWords 0xFFFFFFFF (List.replicate (x.cfg.wl * x.cfg.vActive) 0)
    else q.fifo.foldl (fun r f => crcWords r f.2) 0xFFFFFFFF
  { frame := v, time := x.frameTime, crc := crcValue reg, written := ((q.written.find? fun w => w.1 == v).map (·.2)).getD 0
    held := q.heldLines.length, repeated := q.repCount, link := linkOfHalf x.cfg h
    rflags := b2n q.probeOk + 2 * b2n q.probeValid + 4 * b2n black, camFrame := q.camFrame, pc := recordPc s p q.camFrame }

/-- The frame record of each link is handed to its signing block, and kept for recording (R239, R403, R452). -/
def handRecords (p : Nat) (s : State) : State :=
  (List.range (s.pipe p).cfg.links).foldl (fun t h =>
    let r := frameRecordOf s p h
    let t := takeSigns r.link t
    (t.mapSign r.link fun b => if b.en then { b with inbox := b.inbox ++ [r] } else b).mapPipe p fun x =>
      { x with wb := { x.wb with records := (r :: x.wb.records).take 128 } }) s

/-- Lines held over in the frame on either half. -/
def heldUnion (x : Pipe) : List Nat := (x.halves.flatMap (·.heldLines)).eraseDups

/-- EV_HOLD_OVER and EV_UNDERRUN of the frame that ends; the lowest-numbered link with a repeat is named (R226, R229). -/
def frameEvents (p : Nat) (s : State) : State :=
  let x := s.pipe p
  let held := heldUnion x
  let v := (s.pipeCtr p).frames
  let s := if held.isEmpty then s
    else raise p 0x0402 (leBytes 1 p ++ leBytes 1 0 ++ leBytes 2 v ++ leBytes 2 (held.foldl min (held.headD 0)) ++ leBytes 2 held.length) s
  let reps := (x.halves.zipIdx.filter fun q => decide (0 < q.1.repCount)).map fun q => (linkOfHalf x.cfg q.2, q.1)
  match reps.inOrder fun a b => decide (a.1 ≤ b.1) with
  | [] => s
  | (l, q) :: _ => raise p 0x0403 (leBytes 1 p ++ leBytes 1 l ++ leBytes 2 q.repFirst ++ leBytes 2 q.repCount) s

/-- The probe of a half read and compared; two mismatches in a row are a fault of the link's scan-out path (R237, R238). A
probe read that is corrupted by injection gives a CRC that is a free value. -/
def checkProbe (p h : Nat) (s : State) : State :=
  let x := s.pipe p
  let v := (s.pipeCtr p).frames
  match (s.half p h).probeWritten with
  | none => s.mapHalf p h fun q => { q with probeValid := false, probeOk := false }
  | some w =>
    if v ≤ w then s.mapHalf p h fun q => { q with probeValid := false, probeOk := false }
    else
      let l := linkOfHalf x.cfg h
      let (words, s) := readPixels p (probeAddrs x h) s
      let corrupt := s.faults.probeBad.any fun b => b.1 == l
      let crc := if corrupt then Config.freeNat s.free % 2 ^ 32 else crcValue (crcWords 0xFFFFFFFF words)
      let s := if corrupt then (s.takeFree).mapFaults fun f =>
          { f with probeBad := (f.probeBad.map fun b => if b.1 = l then (l, b.2 - 1) else b).filter fun b => b.2 != 0 } else s
      if !corrupt && crc == probeCrc l then
        s.mapHalf p h fun q => { q with probeValid := true, probeOk := true, probeFails := 0 }
      else
        let s := s.mapHalf p h fun q => { q with probeValid := true, probeOk := false, probeFails := q.probeFails + 1 }
        let s := raise (16 + l) 0x0404 (leBytes 1 l ++ leBytes 3 0 ++ leBytes 4 crc) s
        if (s.half p h).probeFails = 2 then pathFault l s else s

/-- Latency of a camera frame driven in the frame that ends: T_SOF to the last active pixel of y_last, ns rounded up (R293). -/
def measure (x : Pipe) (l : LayerCfg) (tSof : Nat) : Nat :=
  ceilDiv ((x.frameTime - tSof) * x.cfg.pixclk + yLast x.cfg l * x.cfg.lineX + x.cfg.wl * 1000000000) x.cfg.pixclk

/-- One measurement above its bound (R293). -/
def exceeded (p slot seq ns bound : Nat) (s : State) : State :=
  if bound = 0 ∨ ns ≤ 1000 * bound then s
  else raise p 0x0505 (leBytes 1 p ++ leBytes 1 slot ++ leBytes 2 0 ++ leBytes 4 seq ++ leBytes 4 (min (2 ^ 32 - 1) ns)) s

/-- The measurements of the contracts and the tow of a pipe for the frame that ends (R293). -/
def measureLatency (p : Nat) (s : State) : State :=
  let x := s.pipe p
  let v := (s.pipeCtr p).frames
  let driven := fun (l : List (Nat × Nat × Nat)) => if drivesBlack x then [] else l.filter fun e => e.1 == v
  let left := fun (l : List (Nat × Nat × Nat)) => l.filter fun e => decide (v < e.1)
  let nsOf := fun (slot : Nat) (e : Nat × Nat × Nat) => measure x (s.layer slot).active e.2.2
  let events := (s.contracts.filter fun (c : Contract) => c.pipe == p).flatMap (fun (c : Contract) =>
      (driven c.pend).map fun e => (c.slot, e.2.1, nsOf c.slot e, c.boundUs)) ++
    (driven x.tow.pend).map fun e => (x.tow.slot, e.2.1, nsOf x.tow.slot e, x.tow.boundUs)
  let t := { s with contracts := s.contracts.map fun (c : Contract) =>
    if c.pipe = p then { c with pend := left c.pend, meas := ((driven c.pend).reverse.map (nsOf c.slot) ++ c.meas).take 8 } else c }
  let t := t.mapPipe p fun y => { y with tow :=
    { y.tow with pend := left y.tow.pend, meas := ((driven y.tow.pend).reverse.map (nsOf y.tow.slot) ++ y.tow.meas).take 8 } }
  events.foldl (fun s e =>
    let input := (s.layer e.1).active.input
    exceeded p e.1 e.2.1 e.2.2.1 e.2.2.2 (s.mapCam input fun m => { m with latMax := max m.latMax (min top32 e.2.2.1) })) t

/-- What a half keeps of the frame that ends is cleared. -/
def Half.endFrame (v : Nat) (black : Bool) (q : Half) : Half :=
  { q with
    lines := q.lines.filter fun r => decide (v < r.frame), written := q.written.filter fun w => decide (v < w.1)
    heldLines := [], repFirst := 0, repCount := 0, crc := 0xFFFFFFFF, fifo := []
    lastPixel := if black then 0 else match q.fifo.getLast? with | some f => f.2.getLastD q.lastPixel | none => q.lastPixel }

/-- Retrainings that are due begin in the blanking (R265). -/
def startRetrain (l : Nat) (s : State) : State :=
  if (s.link l).retrainDue ∧ (s.link l).state = .up then
    s.mapLink l fun k => { k with state := .training, retrainDue := false, irqRetrain := true, seriesFails := 0, seriesTold := false }
  else s

/-- VERTICAL_BLANKING; R226, R229, R237 to R239, R265, R293. -/
def execVerticalBlanking (p : Nat) (s : State) : Out :=
  done (if !generating (s.pipe p) then s
    else
      let black := drivesBlack (s.pipe p)
      let v := (s.pipeCtr p).frames
      let s := frameEvents p (handRecords p s)
      let s := measureLatency p s
      let s := s.mapPipe p fun x => { x with halves := x.halves.map (Half.endFrame v black) }
      let s := (List.range (s.pipe p).cfg.links).foldl (fun s h => checkProbe p h s) s
      let s := (s.pipe p).cfg.linkList.foldl (fun s l => startRetrain l s) s
      s.mapBasin fun b => { b with recorded := b.recorded.filter fun r => r.1 != p })

/-! ### TOW_DECISION (R258) -/

/-- The line period of a configuration, ns. -/
def PipeCfg.lineNs (c : PipeCfg) : Rat := ((c.lineX : Nat) : Rat) / ((c.pixclk : Nat) : Rat)

/-- P_c, ns. -/
def Tow.periodRat (t : Tow) : Rat := let (d, n) := t.period; if n = 0 then 0 else ((d : Nat) : Rat) / ((n : Nat) : Rat)

/-- e and the predicted start of a decision at the start of line V_ACTIVE (R258). -/
def towError (x : Pipe) (now : Nat) : Rat × Rat :=
  let c := x.cfg
  let rel : Rat := ((now : Nat) : Rat) + (((c.vt - c.vActive : Nat) : Int) - (c.lead : Int) : Int) * c.lineNs
  let target := rel - ((x.tow.phase : Nat) : Rat)
  let last : Rat := (((x.tow.stamps.headD (0, 0)).1 : Nat) : Rat)
  let p := x.tow.periodRat
  let start := if p = 0 then last else last + p * ((ratRoundAway ((target - last) / p) : Int) : Rat)
  (target - start, start)

/-- The absolute value of a rational. -/
def ratAbs (q : Rat) : Rat := if q < 0 then -q else q

/-- DATA of EV_TOW_LOCKED and EV_TOW_UNLOCKED. -/
def towData (p : Nat) (e : Int) : List Byte := leBytes 1 p ++ leBytes 3 0 ++ leBytes 4 (unsigned 32 e)

/-- The change of state that a decision with error e makes (R258). -/
def towNext (p : Nat) (e : Rat) (now : Nat) (s : State) : State :=
  let x := s.pipe p
  let t := x.tow
  let tl := x.cfg.lineNs
  let ns := ratRoundAway e
  let count := fun (hit : Bool) => if hit then t.streak + 1 else 0
  match t.state with
  | .acquiring =>
    let k := count (decide (ratAbs e ≤ tl))
    if 2 ≤ k then raise (8 + p) 0x0405 (towData p ns) (s.mapPipe p fun x => { x with tow := { x.tow with state := .locked, streak := 0 } })
    else s.mapPipe p fun x => { x with tow := { x.tow with streak := k } }
  | .locked =>
    let k := count (decide (2 * tl < ratAbs e))
    let late := decide (t.periodRat + 4 * tl < ((now : Nat) : Rat) - (((t.stamps.headD (0, 0)).1 : Nat) : Rat))
    if 2 ≤ k ∨ late then
      raise (8 + p) 0x0406 (towData p ns) (s.mapPipe p fun x => { x with tow := { x.tow with state := .acquiring, streak := 0 } })
    else s.mapPipe p fun x => { x with tow := { x.tow with streak := k } }
  | _ => s

/-- A decision of a pipe that is ACQUIRING or LOCKED: V_FP is trimmed by at most 4 lines (R258). -/
def towTrim (p : Nat) (s : State) : State :=
  let x := s.pipe p
  let (e, start) := towError x s.time
  let dv := max (-4) (min 4 (-(ratRoundAway (e / x.cfg.lineNs))))
  let s := s.mapPipe p fun x => { x with tow := { x.tow with dv, err := ratRoundAway e, predicted := ratRoundAway start } }
  let s := if dv = 0 then s else s.mapPipeCtr p fun c => { c with towTrims := inc32 c.towTrims }
  towNext p e s.time s

/-- TOW_DECISION at the start of line V_ACTIVE (R258): in FREE nothing is trimmed, and the fourth frame from the first stamp on
leads to ACQUIRING. -/
def towDecision (p : Nat) (s : State) : State :=
  let x := s.pipe p
  let t := x.tow
  if x.state ≠ .running ∨ t.state = .off then s
  else if t.state = .free then
    s.mapPipe p fun x =>
      let n := if x.tow.stamps.isEmpty then 0 else x.tow.freeFrames + 1
      { x with tow := { x.tow with dv := 0, freeFrames := n, streak := 0
                                   state := if 4 ≤ n ∧ 2 ≤ x.tow.stamps.length then .acquiring else .free } }
  else if t.stamps.length < 2 then s.mapPipe p fun x => { x with tow := { x.tow with dv := 0 } }
  else towTrim p s

/-- TOW_DECISION; R258. -/
def execTowDecision (p : Nat) (s : State) : Out := .next (towDecision p s)

end Sys2Proof.Machine
end

