-- ==== Sys2Proof/Machine/Black.lean ====
section
/-! DEFINITION. What waits for a lock and is applied there or at the end of a pipe's run, the end of black frames, and the
steps of a link-class change that follow it (files 04, 06, 08 and 09). -/
namespace Sys2Proof.Machine

open Sys2Proof

/-! ### Settings that wait for a lock -/

/-- DETAIL [63:48] of what a lock applies: FRAMES of the frame it begins. -/
def frameDetail (x : Pipe) : Nat := x.compFrame % 65536 * 2 ^ 48

/-- A contract takes effect, or CLASS 0 removes it; a slot that is now the tow layer keeps what it has (R300). -/
def applyContract (c : Contract) (s : State) : State :=
  { s with contracts := if c.cls = 0 then s.contracts.filter fun d => !(d.pipe == c.pipe && d.slot == c.slot) else putContract s.contracts c }

/-- One setting applied, and its barge completed (R134, R160, R250, R270, R273, R300). -/
def applyAtLock (p : Nat) (a : AtLock) (s : State) : State :=
  match a with
  | .emptyCommit b => finishCommit p { barge := b } {} s
  | .damage b => complete b .ok (if (s.pipe p).state = .running then markDamage p (declareTiles s b) s else s)
  | .sameTiming b => complete b (.ok (frameDetail (s.pipe p))) s
  | .tow t => complete t.barge .ok (applyTow p t s)
  | .writeback b w => complete b .ok (applyWriteback p w s)
  | .contract b c => complete b .ok (applyContract c s)

/-- Every setting that waits for a pipe's lock applied, in the order in which the barges started; what a removal gives back
is offered to the shortfalls (R324). -/
def applyAtLocks (p : Nat) (s : State) : State :=
  let l := (s.pipe p).atLock
  if l.isEmpty then s
  else readmitIf (l.foldl (fun s a => applyAtLock p a s) (s.mapPipe p fun x => { x with atLock := [] }))

/-- The output stage of a pipe becomes another one: every tone state of its layers is at a seed point, and the whole pipe is
damaged (R202, R204, R208). -/
def setOstage (p : Nat) (o : OutStage) (s : State) : State :=
  if (s.pipe p).ostage = o then s
  else
    let s := reseedPipe p (s.mapPipe p fun x => { x with ostage := o })
    if (s.pipe p).state = .running then markAll p s else s

/-- A lock-class change is applied at a lock (R251): the limits and the output stage now, V_FP and PIXCLK at t_s(0), LEAD at
the next lock. -/
def applyLockClass (p : Nat) (r : Retime) (s : State) : State :=
  let n := r.cfg
  let s := s.mapPipe p fun x =>
    { x with
      cfg := { x.cfg with vtMin := n.vtMin, vtMax := n.vtMax, ostage := n.ostage }
      timingNext := if n.vFp = x.cfg.vFp ∧ n.pixclk = x.cfg.pixclk then none else some n
      leadNext := if n.lead = x.cfg.lead then none else some (1, n.lead)
      retime := none }
  complete r.barge (.ok (frameDetail (s.pipe p))) (setOstage p r.ostage s)

/-- The timing that waits for the frame start and the next lock takes effect now: the pipe has neither. -/
def settleTiming (p : Nat) (s : State) : State :=
  s.mapPipe p fun x =>
    let c := match x.timingNext with | some n => { x.cfg with vFp := n.vFp, pixclk := n.pixclk } | none => x.cfg
    { x with cfg := (match x.leadNext with | some (_, k) => { c with lead := k } | none => c), timingNext := none, leadNext := none }

/-! ### The end of a pipe's run (R248, R135) -/

/-- A TIMING_CHANGE that the pipe's stop overtakes: of lock class it is applied at once, of link class it ends with ST_STATE. -/
def stopRetime (p : Nat) (s : State) : State :=
  match (s.pipe p).retime with
  | none => s
  | some r =>
    if r.linkClass then complete r.barge (wrongState s PipeState.configured.code) (s.mapPipe p fun x => { x with retime := none })
    else applyLockClass p r s

/-- The commits of a pipe that has stopped apply at once, in order (R135). -/
def stopCommits (p : Nat) (s : State) : State :=
  let l := (s.pipe p).shadow.toList ++ (s.pipe p).waiting
  l.foldl (fun s c => let (t, s) := lockCommit p (some c) s; finishCommit p c t s)
    (s.mapPipe p fun x => { x with shadow := none, waiting := [] })

/-- COMMITs with LANDED whose tiles no frame will write complete. -/
def stopLandings (p : Nat) (s : State) : State :=
  finishLandings p (s.mapPipe p fun x => { x with landings := x.landings.map fun w => { w with tiles := [] } })

/-- A pipe is CONFIGURED and idle: its links send their idle pattern, what waited for a lock applies, and the PIPE_DISABLEs
complete (R112, R135, R248). -/
def stopPipe (p : Nat) (s : State) : State :=
  let x := s.pipe p
  let s := x.cfg.linkList.foldl (fun s l => s.mapLink l fun k => { k with state := .idle, retrainDue := false }) s
  let s := s.mapPipe p fun x =>
    { x with
      state := .configured, black := none, composing := false, halves := x.halves.map (·.fresh), lit := false
      wholeFrame := false, disables := [], capturing := false, tow := { x.tow with dv := 0 } }
  let s := stopLandings p (areasOfPipeDone p s)
  let s := settleTiming p (stopRetime p s)
  let s := setPhase p (applyAtLocks p (stopCommits p s))
  x.disables.foldl (fun s b => complete b .ok s) (refreshSurfaces s)

/-! ### Retraining (R252, Table 8-7) -/

/-- Step 4 of a link-class change: the new timing starts, with the damage map full. A link that is not up ends the barge with
its status (R252). -/
def resumePipe (p : Nat) (r : Retime) (s : State) : State :=
  let s := s.mapPipe p fun x =>
    { x with
      state := .running, composing := false, compFrame := 0, damage := fullDamage x.cfg, lit := false, wholeFrame := false
      frameTime := s.time, halves := x.halves.map (·.fresh) }
  match notUp s p with
  | [] => s.mapPipe p fun x => { x with retime := some { r with step := 4 } }
  | l :: _ =>
    complete r.barge { linkReply s l with cflags := if r.recovered then 16 else 0 } (s.mapPipe p fun x => { x with retime := none })

/-- A link-class change in step 3 goes on when every link is up or has failed; firmware resumes it, so not during CONTAIN
(R252). -/
def settleRetime (p : Nat) (s : State) : State :=
  match (s.pipe p).retime with
  | some r =>
    if decide ((s.pipe p).state = .retraining) && r.step == 3 && linksSettled s p && !s.mode.contain then resumePipe p r s else s
  | none => s

/-- Step 3 of a link-class change: the timing generator stops, the frame is allocated again if its size changes, and the links
train at the new rate and lanes (R219, R252). -/
def beginRetrain (p : Nat) (r : Retime) (s : State) : State :=
  let x := s.pipe p
  let moved := x.cfg.frameSize != r.cfg.frameSize
  let units := if moved then placeFrame s p r.cfg else x.units
  let s := s.mapPipe p fun x =>
    { x with
      cfg := r.cfg, units, black := none, lit := false, wholeFrame := false, trainedClk := r.cfg.pixclk
      timingNext := none, leadNext := none, damage := fullDamage r.cfg
      halves := x.halves.map fun h => if moved then {} else h.fresh
      retime := some { r with step := 3 } }
  settleRetime p (trainLinks r.cfg false (setOstage p r.ostage s))

/-- BLACK_FRAMES_END (R248, R252): the last black frame has been driven. During CONTAIN a retraining pipe goes on driving
black. -/
def execBlackFramesEnd (p : Nat) (s : State) : Out :=
  done (match (s.pipe p).black with
    | some (n, .disable) => if n ≤ 1 then stopPipe p s else s
    | some (n, .retrain) =>
      (match (s.pipe p).retime with
        | some r => if n ≤ 1 && !s.mode.contain then beginRetrain p r s else s
        | none => s)
    | none => s)

end Sys2Proof.Machine
end

