-- ==== Sys2Proof/Machine/Links.lean ====
section
/-! DEFINITION. Output links and their partners: hot plug, AUX transactions, training and loss of lock (file 08). -/
namespace Sys2Proof.Machine

open Sys2Proof

/-! ### What a link belongs to -/

/-- Configuration of the pipe that has a link. -/
def cfgOfLink (s : State) (l : Nat) : PipeCfg :=
  match pipeOfLink s l with | some p => (s.pipe p).cfg | none => {}

/-- Links of the pipe are to be trained: it is RUNNING, or its link-class change has reached step 3. -/
def wantsLinks (x : Pipe) : Bool :=
  (decide (x.state = .running) && x.black.isNone) ||
    (decide (x.state = .retraining) && (match x.retime with | some r => r.step == 3 | none => false))

/-- What waits for a pipe's links goes on: PIPE_ENABLE, and step 4 of a link-class change (R247, R252). -/
def settleLinks (l : Nat) (s : State) : State :=
  match pipeOfLink s l with
  | some p => settleRetime p (settleEnables p s)
  | none => s

/-- An event of a link (Table 14-3). -/
def linkEvent (l code : Nat) (s : State) : State := raise (16 + l) code (leBytes 1 l) s

/-- LINK_EVENTS rises by `n` (Table 8-11). -/
def countEvents (l n : Nat) (s : State) : State := s.mapLink l fun k => { k with events := satAdd top32 k.events n }

/-! ### Hot plug (R263, R265) -/

/-- Counts edges of HPD; more than 16 in 1 s are a storm: HPD is ignored (R265). LINK_EVENTS counts edges of DP and eDP. -/
def countEdges (l n : Nat) (s : State) : State :=
  let s := if l < 4 then countEvents l n s else s
  let edges := List.replicate n s.time ++ (s.link l).edges.filter fun t => decide (s.time < t + 1000000000)
  let s := s.mapLink l fun k => { k with edges }
  if 16 < edges.length then linkEvent l 0x040B (s.mapLink l fun k => { k with storm := true, edges := [], failCode := 7 }) else s

/-- HPD has been low for 2 ms: the link is DOWN, with its transmitter off (R265). -/
def linkDown (l : Nat) (s : State) : State :=
  let was := (s.link l).state
  let s := s.mapLink l fun k => { k with hpd := false, state := .down, failCode := 1, retrainDue := false, irqRetrain := false }
  let s := if was = .down ∨ was = .idle then s else linkEvent l 0x0408 s
  settleLinks l s

/-- HPD has been high for 100 ms: training begins, if the link's pipe wants it (R265). -/
def linkHigh (l : Nat) (s : State) : State :=
  let s := s.mapLink l fun k => { k with hpd := true, waitHpd := false }
  match pipeOfLink s l with
  | some p =>
    if wantsLinks (s.pipe p) && decide ((s.link l).state ≠ .up) && decide ((s.link l).state ≠ .training) then
      trainLink (s.pipe p).cfg l s else s
  | none => s

/-- HPD_LOW; R265. -/
def execHpdLow (l : Nat) (s : State) : Out :=
  done (if (s.link l).storm then s
    else
      let s := countEdges l (b2n (s.link l).hpd) s
      if (s.link l).storm then s else linkDown l s)

/-- HPD_HIGH; R265. -/
def execHpdHigh (l : Nat) (s : State) : Out :=
  done (if (s.link l).storm then s
    else
      let s := countEdges l (b2n !(s.link l).hpd) s
      if (s.link l).storm then s else linkHigh l s)

/-- HPD_STORM_END: HPD is no longer ignored, and its level is taken (R265). -/
def execHpdStormEnd (l : Nat) (level : Bool) (s : State) : Out :=
  done (if !(s.link l).storm then s
    else
      let s := s.mapLink l fun k => { k with storm := false }
      if level then linkHigh l s else linkDown l s)

/-- IRQ_HPD: the link status is read over AUX, DPCD 0x00202 and 0x00203 (R265; the addresses are PRESUMED of DisplayPort, log 19).
A pulse has two edges. The DSI-2 PAL has no IRQ_HPD (R263). -/
def execIrqHpd (l : Nat) (s : State) : Out :=
  done (if (s.link l).storm || (cfgOfLink s l).linkKind == 3 then s
    else
      let s := countEdges l 2 s
      if (s.link l).storm ∨ (s.link l).state ≠ .up then s
      else queueAux l { space := 1, addr := 0x202, left := 2 } s)

/-! ### AUX (R265, R272) -/

/-- The first AUX transaction of a link leaves, and the next one is sent. -/
def nextAux (l : Nat) (s : State) : State := sendAux l (s.mapLink l fun k => { k with aux := k.aux.tail })

/-- The bytes at the front of an EDID_READ's transaction begin at its OFFSET. -/
def auxOffset (j : AuxJob) : Nat := j.addr - j.data.length

/-- A transaction has failed: counted, and an EDID_READ ends with the bytes read before the failure (R265, R272). -/
def failAux (l : Nat) (j : AuxJob) (s : State) : State :=
  let s := countEvents l 1 (s.mapLink l fun k => { k with failCode := 2 })
  let s := match j.barge with
    | some b => complete b { status := stLinkFailed, detail := l + 2 * 2 ^ 16, report := some (edidBody j.space (auxOffset j) j.data) } s
    | none => s
  nextAux l s

/-- A lane of the trained link has lost lock: its clock, equalisation or symbol bit is 0 (PRESUMED of DisplayPort, log 19). -/
def laneLost (k : Link) (status : List Byte) : Bool :=
  (List.range k.lanes).any fun i => (leNat (slice status (i / 2) 1) >>> (4 * (i % 2))) % 8 != 7

/-- A transaction is done: an EDID_READ completes; a link status may call for retraining at the next vertical blanking (R265,
R272). -/
def finishAux (l : Nat) (j : AuxJob) (s : State) : State :=
  let s := match j.barge with
    | some b => complete b { report := some (edidBody j.space (auxOffset j) j.data) } s
    | none => s.mapLink l fun k => { k with retrainDue := k.retrainDue || (decide (k.state = .up) && laneLost k j.data) }
  nextAux l s

/-- The first AUX transaction of a link changed. -/
def mapAux (l : Nat) (f : AuxJob → AuxJob) (s : State) : State :=
  s.mapLink l fun k => { k with aux := k.aux.modify 0 f }

/-- AUX_REPLY (R265): bytes are taken and the next ones asked for; a DEFER is retried at most 7 times; a NACK fails. -/
def execAuxReply (l : Nat) (reply : AuxAnswer) (s : State) : Out :=
  .next (match (s.link l).aux with
    | [] => s
    | j :: _ =>
      match reply with
      | .ack bytes =>
        let n := min (min 16 j.left) bytes.length
        let j := { j with data := j.data ++ bytes.take n, addr := j.addr + n, left := j.left - n, timeouts := 0, defers := 0 }
        if j.left = 0 then finishAux l j s else sendAux l (mapAux l (fun _ => j) s)
      | .defer => if j.defers = 7 then failAux l j s else sendAux l (mapAux l (fun j => { j with defers := j.defers + 1 }) s)
      | .nack => failAux l j s)

/-- AUX_TIMEOUT (R265): no reply in 400 µs; 3 retries, then the transaction fails. -/
def execAuxTimeout (l : Nat) (s : State) : Out :=
  .next (match (s.link l).aux with
    | [] => s
    | j :: _ => if j.timeouts = 3 then failAux l j s else sendAux l (mapAux l (fun j => { j with timeouts := j.timeouts + 1 }) s))

/-! ### Training (R265, R266) -/

/-- A link has come up: EV_LINK_RETRAINED after a loss of lock, else EV_LINK_UP (R265). -/
def linkUp (l rate lanes : Nat) (s : State) : State :=
  let k := s.link l
  let s := s.mapLink l fun k =>
    { k with
      state := .up, rate, lanes, seriesFails := 0, seriesTold := false, irqRetrain := false, resends := 0
      retrains := if k.upTime = 0 then k.retrains else satAdd 0xFFFF k.retrains 1
      upTime := max 1 s.time }
  let s := match pipeOfLink s l with
    | some p => s.mapPipe p fun x => { x with trainedClk := x.cfg.pixclk }
    | none => s
  linkEvent l (if k.irqRetrain then 0x040A else 0x0409) s

/-- An attempt has failed: three at once, then one every 2 s; EV_LINK_TRAIN_FAILED once a series, with its third failure
(R265). -/
def linkFailed (l code : Nat) (s : State) : State :=
  let k := s.link l
  let n := k.seriesFails + 1
  let tell := decide (3 ≤ n) && !k.seriesTold
  let s := s.mapLink l fun k =>
    { k with
      failCode := code, trainFails := inc32 k.trainFails, seriesFails := n, seriesTold := k.seriesTold || tell
      state := if 3 ≤ n then .down else .training, irqRetrain := k.irqRetrain && decide (n < 3) }
  if tell then raise (16 + l) 0x040C (leBytes 1 l ++ leBytes 1 0 ++ leBytes 2 code) s else s

/-- TRAINING_ATTEMPT_END (R265): a sink without the configured capabilities is not trained until HPD rises again. -/
def execTrainingAttemptEnd (l : Nat) (result : TrainResult) (s : State) : Out :=
  done (if (s.link l).state ≠ .training then s
    else match result with
      | .up rate lanes => settleLinks l (linkUp l rate lanes s)
      | .failed 3 => settleLinks l (s.mapLink l fun k => { k with state := .down, failCode := 3, waitHpd := true, irqRetrain := false })
      | .failed code => settleLinks l (linkFailed l code s))

/-- TRAINING_RETRY (R265): 2 s after its last attempt a link that is DOWN is tried again, in the same series. -/
def execTrainingRetry (l : Nat) (s : State) : Out :=
  done (match pipeOfLink s l with
    | some p =>
      let k := s.link l
      if decide ((s.pipe p).state = .running) && (s.pipe p).black.isNone && decide (k.state = .down) && hasHpd (s.pipe p).cfg k &&
          !k.waitHpd && !k.storm then
        s.mapLink l fun k => { k with state := .training }
      else s
    | none => s)

/-! ### Loss of lock (R265) -/

/-- Symbol lock of a DisplayPort or eDP link is lost: it is trained again, at most once every 2 s after the fourth loss within 1 s
of training in 10 s (R265). -/
def symbolLost (l : Nat) (s : State) : State :=
  let k := s.link l
  let early := decide (s.time ≤ k.upTime + 1000000000)
  let losses := (if early then [s.time] else []) ++ k.losses.filter fun t => decide (s.time < t + 10000000000)
  let limited := early && decide (4 ≤ losses.length)
  s.mapLink l fun k =>
    { k with
      losses, state := if limited then .down else .training, failCode := if limited then 8 else 6
      irqRetrain := !limited, seriesFails := 0, seriesTold := false }

/-- LINK_LOST (R265): a link that drives black for its pipe is not trained again. An A-PHY link goes DOWN and starts up again. -/
def execLinkLost (l : Nat) (s : State) : Out :=
  let k := s.link l
  done (if k.state = .black then s.mapLink l fun k => { k with state := .down, failCode := 6 }
    else if k.state ≠ .up then s
    else if (cfgOfLink s l).isDp then symbolLost l s
    else
      let s := linkEvent l 0x0408 (s.mapLink l fun k => { k with failCode := 6 })
      s.mapLink l fun k => { k with state := .training, seriesFails := 0, seriesTold := false })

/-- APHY_RETRANSMIT_REQUEST (R263, R265): a packet is sent again at most 4 times, then dropped and counted. -/
def execAphyRetransmitRequest (l : Nat) (s : State) : Out :=
  .next (if decide (l < 4) || decide ((s.link l).state ≠ .up) then s
    else if (s.link l).resends < 4 then s.mapLink l fun k => { k with resends := k.resends + 1 }
    else countEvents l 1 (s.mapLink l fun k => { k with resends := 0 }))

end Sys2Proof.Machine
end

