-- ==== Sys2Proof/Machine/CamOps.lean ====
section
/-! DEFINITION. What happens to camera frames: slots and pins, lines in device memory, completion, drops, loss and the ring
(file 09). -/
namespace Sys2Proof.Machine

open Sys2Proof

/-- The receiver of a stream is on (Table 9-2). -/
def Camera.receiving (m : Camera) : Bool := decide (m.state = .waiting) || decide (m.state = .running) || decide (m.state = .lost)

/-- Event source of an input (Table 14-1). -/
def camSource (i : Nat) : Nat := 40 + i
/-- Staging queue of an input (Table 12-1). -/
def camQueue (i : Nat) : Nat := 32 + i

/-! ### Wire and stored formats (Table 9-1) -/

/-- Bytes of a line on the wire. -/
def CamDecl.wireBytes (d : CamDecl) : Nat :=
  match d.dt with | 0x1F => 5 * d.width / 2 | 0x24 => 3 * d.width | _ => 2 * d.width

/-- YUV422 8-bit groups of 4 bytes as they are stored: Y0, Cb, Y1, Cr. -/
def storeYuyv : List Byte → List Byte
  | cb :: y0 :: cr :: y1 :: l => y0 :: cb :: y1 :: cr :: storeYuyv l
  | _ => []

/-- A 10-bit sample in bits [15:6] of its word: bits [9:2] from one byte, [1:0] from field `k` of another. -/
def sample10 (hi low : Byte) (k : Nat) : List Byte := leBytes 2 ((4 * hi.toNat + low.toNat / 4 ^ k % 4) * 64)

/-- YUV422 10-bit groups of 5 bytes as the two planes of P210. -/
def storeP210 : List Byte → List Byte × List Byte
  | cb :: y0 :: cr :: y1 :: low :: l =>
    let (a, c) := storeP210 l
    (sample10 y0 low 1 ++ sample10 y1 low 3 ++ a, sample10 cb low 0 ++ sample10 cr low 2 ++ c)
  | _ => ([], [])

/-- RGB888 bytes as XRGB8888. -/
def storeXrgb : List Byte → List Byte
  | b :: g :: r :: l => b :: g :: r :: 0xFF :: storeXrgb l
  | _ => []

/-- A line as it is stored: plane 0, then plane 1. -/
def CamDecl.storeLine (d : CamDecl) (wire : List Byte) : List Byte :=
  match d.dt with
  | 0x1E => storeYuyv wire
  | 0x1F => let (a, c) := storeP210 wire; a ++ c
  | 0x24 => storeXrgb wire
  | _ => wire

/-! ### Places in memory (R287, R291) -/

/-- Bytes of a stored line in plane 0. -/
def CamDecl.plane0 (d : CamDecl) : Nat := (dtBytes d.dt).1 * d.width

/-- A ring slot as the surface that it is. -/
def slotSurface (s : State) (m : Camera) (k : Nat) : Option Surface :=
  if m.handles.isEmpty then some (ringSurface m k) else s.surface (m.handles.getD k 0)

/-- A stored line written to its slot position (R281). -/
def writeLine (m : Camera) (k line : Nat) (stored : List Byte) (s : State) : State :=
  match slotSurface s m k with
  | none => s
  | some u =>
    let n := m.decl.plane0
    let s := devWrite (u.base + line * u.pitch0) (stored.take n) s
    if m.decl.dt = 0x1F then devWrite (u.base + u.offset1 + line * u.pitch1) (stored.drop n) s else s

/-- PIXEL_CRC: the stored pixel lines, plane 0 then plane 1, without padding (Table 9-5). -/
def pixelCrc (s : State) (m : Camera) (k : Nat) : Nat :=
  match slotSurface s m k with
  | none => 0
  | some u =>
    let n := m.decl.plane0
    let lines := List.range m.decl.height
    let a := lines.flatMap fun y => devPeek s (u.base + y * u.pitch0) n
    let c := if m.decl.dt = 0x1F then lines.flatMap fun y => devPeek s (u.base + u.offset1 + y * u.pitch1) n else []
    crc32c (a ++ c)

/-- Code of a slot's STATE (Table 9-5). -/
def SlotFill.code : SlotFill → Nat
  | .free => 0 | .filling => 1 | .complete => 2 | .dropped => 3

/-- A slot record's first 32 bytes; PIXEL_CRC of complete frames only (Table 9-5). -/
def slotRecord (k : CamSlot) : List Byte :=
  let isOver := decide (k.fill = .complete) || decide (k.fill = .dropped)
  leBytes 4 k.seq ++ leBytes 1 k.fill.code ++ leBytes 1 k.cause ++ leBytes 2 (if isOver then k.lines else 0) ++ leBytes 8 k.tSof ++
    leBytes 8 k.tDone ++ leBytes 2 k.csiFrame ++ leBytes 2 k.embBytes ++ leBytes 4 (if k.fill = .complete then k.pixelCrc else 0)

/-- The slot record of a private ring written at its place in the ring (R287). -/
def writeRecordOf (i k : Nat) (s : State) : State :=
  let m := s.cam i
  if m.handles.isEmpty then devWrite (m.ringBase * 61440 + 64 * k) (slotRecord (m.slots.getD k {}) ++ List.replicate 32 0) s else s

/-- A slot changed, with its record. -/
def mapSlot (i k : Nat) (f : CamSlot → CamSlot) (s : State) : State :=
  writeRecordOf i k (s.mapCam i fun m => { m with slots := m.slots.modify k f })

/-! ### Pins and the choice of a slot (R289, R291) -/

/-- A pipe binds the slot. -/
def slotBound (s : State) (i k : Nat) : Bool :=
  s.layers.any fun l => decide (l.state ≠ .unassigned) && l.active.hasSource && l.active.kind == 1 && l.active.input == i &&
    l.boundSlot == some k

/-- The slot of a host ring lies within its read window: COUNT − 2 − B frame periods from its event (R291). -/
def inWindow (s : State) (i : Nat) (k : CamSlot) : Bool :=
  let m := s.cam i
  !m.handles.isEmpty && decide (k.fill = .complete) &&
    decide (s.time < k.tDone + (m.handles.length - 2 - (pipesNaming s i).length) * m.decl.framePeriod)

/-- The slot is pinned (R289). -/
def slotPinned (s : State) (i k : Nat) : Bool :=
  let x := (s.cam i).slots.getD k {}
  slotBound s i k || x.encHeld || inWindow s i x

/-- The slot that an opening frame takes: a FREE or DROPPED one, else the oldest COMPLETE one that is not the newest (R289). -/
def pickSlot (s : State) (i : Nat) : Option Nat :=
  let m := s.cam i
  let loose := (m.slots.zipIdx.filter fun x => !slotPinned s i x.2)
  match loose.find? fun x => decide (x.1.fill = .free) || decide (x.1.fill = .dropped) with
  | some x => some x.2
  | none =>
    let old := loose.filter fun x => decide (x.1.fill = .complete) && m.newest != some x.2
    (old.foldl (fun best x => match best with
      | none => some x
      | some y => if x.1.tDone < y.1.tDone then some x else best) none).map (·.2)

/-! ### Drops and loss (R282 to R285) -/

/-- A malformed packet is counted, with its class: 0 WRONG_VC, 1 WRONG_DT, 2 HEADER_ECC, 3 LENGTH, 4 CRC, 5 EXCESS (R283). -/
def countMalformed (i cls : Nat) (s : State) : State :=
  (s.mapCam i fun m => { m with malformed := m.malformed.modify cls inc32 }).mapCamCtr i fun c => { c with malformed := inc32 c.malformed }

/-- Pipes towed to a stream. -/
def towedTo (s : State) (i : Nat) : List Nat :=
  (List.range 8).filter fun p =>
    let t := (s.pipe p).tow
    let l := (s.layer t.slot).active
    decide (t.state ≠ .off) && l.hasSource && l.kind == 1 && l.input == i

/-- The tows of a stream enter FREE (R258). -/
def freeTows (i : Nat) (s : State) : State := (towedTo s i).foldl (fun s p => freeTow p s) s

/-- Camera loss is declared (R285). The SEQ of a stream without a complete frame is a free value. -/
def declareLoss (i : Nat) (s : State) : State :=
  let m := s.cam i
  let seq := match m.newest with | some k => (m.slots.getD k {}).seq | none => Config.freeNat s.free % 2 ^ 32
  let s := (s.takeFree).mapCam i fun m => { m with state := .lost, losses := inc32 m.losses }
  freeTows i (raise (camSource i) 0x0503
    (leBytes 1 i ++ leBytes 3 0 ++ leBytes 4 seq ++ (m.runDrops.map fun n => leBytes 1 (min 255 n)).flatten) s)

/-- EV_CAMERA_DROP at the first drop, then at most once per 100 ms (R285). -/
def tellDrop (i : Nat) (s : State) : State :=
  let m := s.cam i
  let due := match m.dropTime with | none => true | some t => decide (t + 100000000 ≤ s.time)
  if due then
    raise (camSource i) 0x0502 (leBytes 1 i ++ leBytes 3 0 ++ leBytes 4 m.dropsTold)
      (s.mapCam i fun m => { m with dropsTold := 0, dropTime := some s.time })
  else s

/-- One drop counted, with its cause (R283, R285). -/
def countDrop (i cause : Nat) (s : State) : State :=
  let s := s.mapCamCtr i fun c => { c with dropped := inc32 c.dropped }
  let s := s.mapCam i fun m =>
    { m with
      drops := m.drops.modify (cause - 1) inc32, runDrops := m.runDrops.modify (cause - 1) inc32
      consec := m.consec + 1, dropsTold := inc32 m.dropsTold }
  let s := tellDrop i s
  let m := s.cam i
  if m.consec = m.decl.lossFrames ∧ (m.state = .waiting ∨ m.state = .running) then declareLoss i s else s

/-- Complete items of a queue freed one after another. -/
def drainQueue (q : Nat) : Nat → State → State
  | 0, s => s
  | n + 1, s => match takeItem q s with | some (_, s) => drainQueue q n s | none => s

/-- The lines that wait in the staging queue of an input are given up. -/
def dropStaged (i : Nat) (s : State) : State :=
  let n := (s.cam i).staged.length
  drainQueue (camQueue i) n (s.mapCam i fun m => { m with staged := [] })

/-- A frame with a SEQ is dropped: it never reaches the encoder (R447). -/
def lostToRecording (i seq cause : Nat) (s : State) : State := sourceLost 0 i seq (if cause = 11 then 4 else 3) s

/-- The open frame is dropped (R282). -/
def dropOpen (i cause : Nat) (s : State) : State :=
  match (s.cam i).open_ with
  | none => s
  | some k =>
    let seq := ((s.cam i).slots.getD k {}).seq
    let s := mapSlot i k (fun x => { x with fill := .dropped, cause, tDone := s.time }) s
    countDrop i cause (lostToRecording i seq cause (dropStaged i (s.mapCam i fun m => { m with open_ := none })))

/-! ### Completion (R281, R285, R296) -/

/-- After a loss the first complete frame is a seed point: the seed waits for the next lock (R204, R285). -/
def reseedCamera (i : Nat) (s : State) : State :=
  (List.range 64).foldl (fun s n =>
    let l := s.layer n
    let c := l.active
    if l.state ≠ .unassigned ∧ c.hasSource ∧ c.kind = 1 ∧ c.input = i ∧ c.toneMode = 2 then
      let t := seededTone s (s.pipe l.pipe).ostage c
      s.mapLayer n fun l => { l with tone := { t with table := l.tone.table, next := some t.seed, spoiled := true } }
    else s) s

/-- The open frame is complete (R281, R285, R291, R296, R447). -/
def completeFrame (i k : Nat) (s : State) : State :=
  let m := s.cam i
  let was := m.state
  let crc := pixelCrc s m k
  let s := mapSlot i k (fun x => { x with fill := .complete, tDone := s.time, pixelCrc := crc }) s
  let x := (s.cam i).slots.getD k {}
  let s := s.mapCamCtr i fun c => { c with frames := inc32 c.frames }
  let s := s.mapCam i fun m =>
    { m with
      open_ := none, newest := some k, anyComplete := true, consec := 0, runDrops := List.replicate 11 0
      state := .running, starts := [] }
  let s := if was = .running then s else raise (camSource i) 0x0504 (leBytes 1 i ++ leBytes 3 0 ++ leBytes 4 x.seq) s
  let s := if was = .lost then reseedCamera i s else s
  let s := m.starts.foldl (fun s b => complete b (.ok x.seq) s) s
  if m.handles.isEmpty then sourceFrame 0 i x.seq k m.decl.recSlots s
  else raiseAt x.tSof (camSource i) 0x0501 (leBytes 1 i ++ leBytes 3 0 ++ leBytes 4 x.seq ++ leBytes 8 (m.handles.getD k 0)) s

/-- The oldest staged line lands: progress rises, and the frame is complete at HEIGHT (R281). -/
def landOne (i line k : Nat) (stored : List Byte) (s : State) : State :=
  let m := s.cam i
  let s := writeLine m k line stored s
  let s := s.mapCam i fun m =>
    { m with staged := m.staged.tail, slots := m.slots.modify k fun x => { x with lines := line + 1 } }
  if line + 1 = m.decl.height then completeFrame i k s else s

/-- The staging writer takes the oldest line of an input (R281). A flush has lost the lines that waited, and their frame with
them (Table 12-3); a poisoned line is one whose CRC failed (R374). -/
def landLineOf (i : Nat) (s : State) : State :=
  let m := s.cam i
  let q := camQueue i
  match m.open_, m.staged with
  | some k, line :: _ =>
    if (s.queue q).flushPending then dropOpen i 8 (s.mapQueue q fun x => { x with flushPending := false })
    else
      match (s.queue q).current with
      | none => s
      | some item =>
        if item.cells.any s.pound.badCells.contains then dropOpen i 3 (qGet q 1 s)
        else match takeItem q s with
          | some (bytes, s) => landOne i line k bytes s
          | none => s
  | _, _ => s

/-- Every staged line of an input lands; `n` bounds them. -/
def landAll (i : Nat) : Nat → State → State
  | 0, s => s
  | n + 1, s => if (s.cam i).staged.isEmpty then s else landAll i n (landLineOf i s)

/-! ### Rings (R287, R288, R292) -/

/-- Region of a private camera ring. -/
def camRegion (s : State) (i : Nat) : Option Region := s.mem.regions.find? fun r => decide (r.kind = .camera i)

/-- The slots of a ring are new: nothing in it is complete, and no layer has a slot bound. -/
def freshSlots (i n : Nat) (s : State) : State :=
  let s := s.mapCam i fun m =>
    { m with slots := List.replicate n {}, open_ := none, newest := none, anyComplete := false, staged := [], ringLost := false }
  { s with layers := s.layers.map fun l =>
      if l.active.hasSource && l.active.kind == 1 && l.active.input == i then { l with boundSlot := none } else l }

/-- A private ring for a stream of `n` slots is placed; the one that it replaces is freed after that (R100, R315). -/
def placeRing (i n : Nat) (s : State) : State ⊕ MemFail :=
  let d := (s.cam i).decl
  let old := camRegion s i
  let same := match old with | some r => r.count == d.ringGranules n && r.mirror.isEmpty == !d.twin | none => false
  if same then .inl s
  else match placePrivate (d.ringGranules n) d.twin (.camera i) s with
    | .inl (r, t) =>
      let t := match old with | some o => freeRegion o.base t | none => t
      .inl (t.mapCam i fun m => { m with ringBase := r.base })
    | .inr f => .inr f

/-- The staging queue of a declared stream (R284, Table 12-1). -/
def createStaging (i : Nat) (s : State) : State :=
  let cells := ceilDiv (s.cam i).decl.lineBytes 256
  createQueue (camQueue i) (0x10 + i) 0x60 true (4 * cells) cells s

/-- A lost ring is replaced at an FS: placed, or the shortfall is reported (R292). -/
def replaceRing (i : Nat) (s : State) : State :=
  let m := s.cam i
  let n := m.decl.ringGranules m.slots.length
  let s' := match camRegion s i with | some r => freeRegion r.base s | none => s
  match placeRegion n m.decl.twin (.camera i) s' with
  | some (r, t) =>
    let t := freshSlots i m.slots.length (t.mapCam i fun m => { m with ringBase := r.base, ringShort := false })
    memoryShort i n (longestRun s) false (t.mapCam i fun x => { x with anyComplete := m.anyComplete })
  | none => memoryShort i n (longestRun s) true (s.mapCam i fun m => { m with ringShort := true })

/-- The memory of a ring is lost: of a private ring a granule, of a host ring a surface (R292). -/
def ringGone (s : State) (i : Nat) : Bool :=
  let m := s.cam i
  m.ringLost || m.handles.any fun h => match s.surface h with | some u => decide (u.state = .lost) | none => true

end Sys2Proof.Machine
end

