-- ==== Sys2Proof/Machine/TrustOps.lean ====
section
/-! DEFINITION. Signed objects and keys, the configuration image's header, the vehicle state, and changes of mode (file 17). -/
namespace Sys2Proof.Machine

open Sys2Proof

/-! ### Signed objects (R518 to R521) -/

/-- A little-endian field of an object. -/
def objNum (o : List Byte) (off n : Nat) : Nat := leNat (slice o off n)
/-- BODY of an object; Table 17-7. -/
def objBody (o : List Byte) : List Byte := slice o 0x2280 (objNum o 0x14 4)
/-- The part of an object that is signed: bytes 0x0000 to 0x023F. -/
def objSigned (o : List Byte) : List Byte := slice o 0 0x240
/-- LEVEL. -/
def objLevel (o : List Byte) : Nat := objNum o 0x10 4
/-- GEN. -/
def objGen (o : List Byte) : Nat := objNum o 8 8
/-- Key hash of the signer: SHA-256 of RSA_N, RSA_E and SLH_PK. -/
def keyHash (o : List Byte) : List Byte := sha256 (slice o 0x80 420)

/-- A run of bytes is zero. -/
def zeros (l : List Byte) : Bool := l.all (· == 0)

/-- Root slots of a class: the fused hashes and the revoked bits. -/
def rootSlots (s : State) (owner : Bool) : List (List Byte) × List Bool :=
  if owner then (s.trust.ownerHash, s.trust.ownerRevoked) else (s.trust.vendorHash, s.trust.vendorRevoked)

/-- A slot is enrolled: its hash is not all zeros (Table 17-8). -/
def enrolled (s : State) (owner : Bool) (k : Nat) : Bool := decide (k < 4) && !zeros ((rootSlots s owner).1.getD k [])

/-- A slot is revoked. -/
def revoked (s : State) (owner : Bool) (k : Nat) : Bool := (rootSlots s owner).2.getD k false

/-- At least one owner slot is enrolled. -/
def ownerEnrolled (s : State) : Bool := (List.range 4).any (enrolled s true)

/-- VENDOR_SLOTS or OWNER_SLOTS: [3:0] enrolled, [7:4] revoked (Table 17-10). -/
def slotsByte (s : State) (owner : Bool) : Nat :=
  ((List.range 4).map fun k => b2n (enrolled s owner k) * 2 ^ k + b2n (revoked s owner k) * 2 ^ (k + 4)).sum

/-- The class of an object's signer: owner, or vendor (R519). -/
def signerOwner (s : State) (kind : Nat) (o : List Byte) : Bool :=
  if kind = 2 then true else if kind = 3 then ownerEnrolled s
  else if kind = 4 then objNum (objBody o) 0 1 == 2 else false

/-- The ticket that enrols the first owner root (R519, R523). -/
def firstOwner (s : State) (kind : Nat) (o : List Byte) : Bool :=
  kind == 4 && objNum (objBody o) 0 1 == 2 && objNum (objBody o) 1 1 == 2 && objNum (objBody o) 2 1 == 0 && !ownerEnrolled s

/-- MAGIC, VERSION, KIND and the reserved fields are as an object of a kind has them, and its body lies within `len` bytes. -/
def objForm (kind len : Nat) (o : List Byte) : Bool :=
  objNum o 0 4 == 0x4F534850 && objNum o 4 2 == 1 && objNum o 6 1 == kind && zeros (slice o 0x1C 4) && zeros (slice o 0x2A 6) &&
    zeros (slice o 0x60 32) && zeros (slice o 0x224 28) && zeros (slice o 0x2270 16) && decide (0x2280 + objNum o 0x14 4 ≤ len)

/-- The signer's key is the one that the fuses name (R519). -/
def signerKnown (s : State) (kind : Nat) (o : List Byte) : Bool :=
  if firstOwner s kind o then decide (keyHash o = slice (objBody o) 24 32)
  else
    let owner := signerOwner s kind o
    let k := objNum o 7 1
    enrolled s owner k && !revoked s owner k && decide ((rootSlots s owner).1.getD k [] = keyHash o)

/-- The RSA signature of an object verifies. -/
def objRsa (o : List Byte) : Bool := Config.rsaValid (slice o 0x80 388) (objSigned o) (slice o 0x240 384)
/-- The SLH-DSA signature of an object verifies. -/
def objSlh (o : List Byte) : Bool := Config.slhValid (slice o 0x204 32) (objSigned o) (slice o 0x3C0 7856)

/-- Fused anti-rollback level that an object of a kind must reach. -/
def fusedLevel (s : State) (kind : Nat) : Nat := if kind = 1 then s.trust.patchFuse else if kind = 2 then s.trust.configFuse else 0

/-- The first failing check of an object of `len` bytes, in the order of R519; DETAIL of ST_BAD_FIELD is a free value, as Table
2-14 numbers only the bytes of a barge. -/
def verifyObject (s : State) (kind len : Nat) (o : List Byte) : Option Reply :=
  let bind := slice o 0x20 10
  firstFail [
    failIf (!objForm kind len o) (freeReply stBadField s),
    failIf (kind == 4 && (objNum (objBody o) 0 1 == 0 || decide (2 < objNum (objBody o) 0 1))) (freeReply stBadField s),
    failIf (!signerKnown s kind o) (.err stBadSignature 3),
    failIf (!(objRsa o && objSlh o)) (.err stBadSignature (b2n (!objRsa o) + 2 * b2n (!objSlh o))),
    failIf (!decide (sha384 (objBody o) = slice o 0x30 48)) (.err stBadSignature 3),
    failIf (decide (objLevel o < fusedLevel s kind)) (.err stRollback (fusedLevel s kind)),
    failIf (decide (Config.romRelease < objNum o 0x18 2) || decide (objNum o 0x1A 2 < Config.romRelease)) (freeReply stBadField s),
    failIf (if zeros bind then decide (3 ≤ kind) else !decide (bind = s.trust.serial)) (freeReply stBadField s) ]

/-- Identifier of an RSA key: over RSA_N and RSA_E (R518). -/
def keyId (key : List Byte) : List Byte := (sha256 key).take 8

/-- A device key pair of the DEVICE_CERT's body: ATTEST at 16, RECORD at 448 (R521). -/
def certKeys (s : State) (record : Bool) : List Byte := slice (objBody s.trust.deviceCert) (if record then 448 else 16) 420

/-- Identifiers of a device key pair: RSA, then SLH-DSA. -/
def keyIds (s : State) (record : Bool) : List Byte :=
  let k := certKeys s record
  keyId (k.take 388) ++ keyId (k.drop 388)

/-- Bytes of a signature pair that the security engine makes: 384 of RSA, 7,856 of SLH-DSA; free values (R527). -/
def signatures (n : Nat) : List Byte := (List.range 384).map (Config.rsaByte n) ++ (List.range 7856).map (Config.slhByte n)

/-- ROM_HASH (R504). -/
def romHash : List Byte := (List.range 48).map Config.romHash

/-! ### The configuration image (Table 17-6) -/

/-- Body of the configuration image in use. -/
def imageBody (s : State) : List Byte := match s.trust.config with | some o => objBody o | none => []

/-- A field of the configuration body header; 0 without an image. -/
def imageNum (s : State) (off n : Nat) : Nat := leNat (slice (imageBody s) off n)

/-! ### Vehicle state (R514, R517) -/

/-- The vehicle counts as stationary. -/
def stationary (s : State) : Bool := s.can.valid && s.can.stationary

/-- EV_VEHICLE_STATE's flags. -/
def vehicleFlags (s : State) : Nat := b2n (s.can.valid && s.can.stationary) + 2 * b2n (s.can.valid && s.can.ignition) + 4 * b2n s.can.valid

/-! ### Modes (R500, R501, R528) -/

/-- A hold cause lasts (R486). -/
def holding (s : State) : Bool := s.power.holdLow || s.power.holdHigh || s.power.holdThermal

/-- The base mode is one that HOLD can lie over (R501, R503). -/
def BaseMode.isBase : BaseMode → Bool
  | .service | .quiet | .depot => true
  | _ => false

/-- Code of a base mode (Table 17-1); OFF shows the reset value of MODE. -/
def BaseMode.code : BaseMode → Nat
  | .off => 2 | .keepalive => 1 | .boot => 2 | .service => 3 | .quiet => 4 | .depot => 6

/-- The mode that MODE shows (R501). -/
def modeNow (s : State) : Nat :=
  if s.mode.contain then 7 else if holding s && s.mode.base.isBase then 5 else s.mode.base.code

/-- MODE follows the state; a change raises EV_MODE_CHANGED with a cause (R501, R528). -/
def showMode (cause : Nat) (s : State) : State :=
  let m := modeNow s
  if m = s.mode.shown then s
  else
    let was := s.mode.shown
    raise 111 0x0105 (leBytes 1 m ++ leBytes 1 was ++ leBytes 1 cause)
      (s.mapMode fun x => { x with shown := m, prev := was, tMode := s.time })

/-- The base mode changes (R502). -/
def setBase (m : BaseMode) (cause : Nat) (s : State) : State := showMode cause (s.mapMode fun x => { x with base := m })

/-- A range of device memory lies in one host region (R531, R533). -/
def inHostRegion (s : State) (a n : Nat) : Bool := (hostRegion s a n).isSome

end Sys2Proof.Machine
end

