-- ==== Sys2Proof/Machine/DriveOps.lean ====
section
/-! DEFINITION. The NVMe drive: layout, superblocks, commands, attach and loss, the writing of segments and manifests, protected
ranges and the wear ledger (file 15). -/
namespace Sys2Proof.Machine

open Sys2Proof

/-! ### Layout (R450) -/

/-- Bytes of a MiB. -/
def mib : Nat := 1048576
/-- ML_MIB; Table 15-1. -/
def Super.mlMib (x : Super) : Nat := ceilDiv x.nsMib 1024
/-- REC_START; Table 15-1. -/
def Super.recStart (x : Super) : Nat := 1026 + x.contentMib + x.mlMib
/-- MiB of the recording area; Table 15-1. -/
def Super.area (x : Super) : Nat := x.nsMib - x.recStart
/-- W_s, B/s (R458). -/
def Super.rate (x : Super) : Nat := x.enduranceTb * 1000000000000 / (x.serviceHours * 3600)
/-- Largest CREDIT (R459). -/
def Super.maxCredit (x : Super) : Nat := x.rate * 86400
/-- Byte address of a slot of the manifest log (R454). -/
def Super.slotAddr (x : Super) (index : Nat) : Nat := (1026 + x.contentMib) * mib + index % (x.mlMib * 64) * 16384

/-- The bytes of a string padded to whole LBAs of 4,096 bytes (R448). -/
def padLba (l : List Byte) : List Byte := padTo (4096 * ceilDiv l.length 4096) l

/-- The superblock as it is written (Table 15-2). -/
def superBytes (x : Super) : List Byte :=
  let body := padTo 0xFFC ([0x50, 0x48, 0x52, 0x43] ++ leBytes 2 1 ++ leBytes 2 0 ++ leBytes 8 x.gen ++ padTo 10 x.serial ++ leBytes 2 0 ++
    leBytes 4 x.boots ++ leBytes 4 x.nsMib ++ leBytes 4 x.contentMib ++ leBytes 4 x.mlMib ++ leBytes 4 x.recStart ++
    leBytes 4 x.writePtr ++ leBytes 4 x.oldestPtr ++ leBytes 8 x.nextSegment ++ leBytes 8 x.nextManifest ++ padTo 32 x.lastHash ++
    leBytes 4 x.enduranceTb ++ leBytes 4 x.serviceHours ++ leBytes 8 x.ledgerBytes ++ leBytes 8 x.credit ++ leBytes 4 x.protect.length ++
    padTo 1024 (x.protect.flatMap fun r => leBytes 8 r.1 ++ leBytes 8 r.2) ++ leBytes 4 (b2n x.clean))
  body ++ leBytes 4 (crc32c body)

/-- A superblock read from the drive, none if its MAGIC or SB_CHECK is wrong (R450). -/
def superParse (l : List Byte) : Option Super :=
  let n := fun off k => leNat (slice l off k)
  if slice l 0 4 = [0x50, 0x48, 0x52, 0x43] ∧ n 0xFFC 4 = crc32c (slice l 0 0xFFC) then
    some { gen := n 8 8, serial := slice l 0x10 10, boots := n 0x1C 4, nsMib := n 0x20 4, contentMib := n 0x24 4, writePtr := n 0x30 4
           oldestPtr := n 0x34 4, nextSegment := n 0x38 8, nextManifest := n 0x40 8, lastHash := slice l 0x48 32
           enduranceTb := n 0x68 4, serviceHours := n 0x6C 4, ledgerBytes := n 0x70 8, credit := n 0x78 8
           protect := (List.range (min 64 (n 0x80 4))).map fun i => (n (0x84 + 16 * i) 8, n (0x8C + 16 * i) 8), clean := bit (n 0x484 4) 0 }
  else none

/-- Bytes of the drive. -/
def driveBytes (s : State) (a n : Nat) : List Byte := Memory.readBytes s.recording.disk a n

/-- Superblock A (0) or B (1) as the drive holds it. -/
def superOn (s : State) (k : Nat) : Option Super := superParse (driveBytes s (k * mib) 4096)

/-- The superblock in force: its place and its fields (R450). -/
def superInForce (s : State) : Option (Nat × Super) :=
  match superOn s 0, superOn s 1 with
  | some a, some b => if b.gen < a.gen then some (0, a) else some (1, b)
  | some a, none => some (0, a)
  | none, some b => some (1, b)
  | none, none => none

/-! ### Commands (R448) -/

/-- The drive is attached, and firmware runs. -/
def driveOpen (s : State) : Bool := decide (s.recording.drive = .own) && !s.mode.contain

/-- Segments and manifests are written: not in HOLD (R447), but for an orderly close. -/
def writable (s : State) : Bool := driveOpen s && (!holding s || s.recording.removing.isSome || s.mode.sleeping.isSome)

/-- A command for a purpose is in flight. -/
def inFlight (s : State) (w : NvmeFor) : Bool := s.recording.cmds.any fun c => decide (c.why = w)

/-- A command, or a run of commands of at most 2 MiB each, goes to the drive. -/
def issue (why : NvmeFor) (opcode addr length : Nat) (data : List Byte) (fua : Bool) (s : State) : State :=
  let id := s.recording.nextCmd
  (s.send (.nvme opcode (addr / 4096) length fua)).mapRec fun r =>
    { r with cmds := r.cmds ++ [{ id, why, opcode, addr, data, length, fua, time := s.time }], nextCmd := (id + 1) % 65536 }

/-- A write of whole LBAs. -/
def issueWrite (why : NvmeFor) (addr : Nat) (data : List Byte) (fua : Bool) (s : State) : State :=
  issue why 1 addr (padLba data).length (padLba data) fua s

/-- Bytes written to the drive are counted (R458, R459). -/
def countWrite (n : Nat) (s : State) : State :=
  s.mapRec fun r => { r with super := { r.super with ledgerBytes := r.super.ledgerBytes + n }, lastSecond := r.lastSecond + n }

/-- The data of a write command is on the drive. -/
def writeLanded (c : NvmeCmd) (s : State) : State :=
  if c.opcode = 1 then countWrite c.length (s.mapRec fun r => { r with disk := Memory.writeBytes r.disk c.addr c.data }) else s

/-! ### The superblock (R450) -/

/-- The superblock that is not in force is written with FUA. -/
def issueSuper (clean : Bool) (s : State) : State :=
  let s := s.mapRec fun r => { r with super := { r.super with gen := r.super.gen + 1, clean }, superTime := s.time }
  let now := match superInForce s with | some (k, _) => k | none => 1
  let flying := (s.recording.cmds.filter fun c => decide (c.why = .superblock)).length
  issueWrite .superblock ((now + flying + 1) % 2 * mib) (superBytes s.recording.super) true s

/-! ### Protected ranges (R453) -/

/-- MiB that a segment takes on the drive. -/
def DriveSeg.mibs (x : DriveSeg) : Nat := ceilDiv x.length mib

/-- A segment meets a run of MiB of the namespace. -/
def DriveSeg.hits (x : DriveSeg) (first n : Nat) : Bool := decide (x.firstMib < first + n) && decide (first < x.firstMib + x.mibs)

/-- A segment lies in a protected range, or is protected by a burst that has not ended. -/
def protectedIndex (r : Recording) (i : Nat) : Bool :=
  (r.super.protect.any fun p => decide (p.1 ≤ i) && decide (i ≤ p.2)) || r.bursts.any fun b => decide (b.1 ≤ i)

/-- MiB that protected ranges cover. -/
def protectedMib (r : Recording) : Nat := ((r.onDrive.filter fun x => protectedIndex r x.index).map DriveSeg.mibs).sum

/-- The oldest range is dropped while the ranges pass their limits; EV_PROTECTION_DROPPED tells of each. -/
def limitProtection : Nat → State → State
  | 0, s => s
  | n + 1, s =>
    let r := s.recording
    if 64 < r.super.protect.length ∨ r.super.area < 8 * protectedMib r then
      match r.super.protect, r.bursts with
      | p :: l, _ =>
        limitProtection n (raise 115 0x0807 (leBytes 8 p.1 ++ leBytes 8 p.2)
          (s.mapRec fun r => { r with super := { r.super with protect := l } }))
      | [], b :: l =>
        limitProtection n (raise 115 0x0807 (leBytes 8 b.1 ++ leBytes 8 (r.super.nextSegment - 1)) (s.mapRec fun r => { r with bursts := l }))
      | [], [] => s
    else s

/-- Time of the first entry of a segment. -/
def Segment.tStart (x : Segment) : Nat := (x.entries.head?.map (·.time)).getD 0
/-- Time of the last entry of a segment. -/
def Segment.tEnd (x : Segment) : Nat := (x.entries.getLast?.map (·.time)).getD 0

/-- Segments with their indexes: on the drive, then buffered, each with its first and last time. -/
def segmentTimes (r : Recording) : List (Nat × Nat × Nat) :=
  (r.onDrive.map fun x => (x.index, x.tStart, x.tEnd)) ++
    r.segments.zipIdx.map fun x => (r.super.nextSegment + x.2, x.1.tStart, x.1.tEnd)

/-- Protecting bursts whose end has passed become protected ranges, to the segment that was open at the end (R469). -/
def endBursts (s : State) : State :=
  let r := s.recording
  let ended := r.bursts.filter fun b => decide (b.2.1 ≤ s.time)
  if ended.isEmpty then s
  else
    let ranges := ended.map fun b => (b.1, ((segmentTimes r).filter fun x => decide (x.2.1 ≤ b.2.1)).foldl (fun m x => max m x.1) b.1)
    limitProtection 80 (s.mapRec fun r =>
      { r with bursts := r.bursts.filter fun b => decide (s.time < b.2.1), super := { r.super with protect := r.super.protect ++ ranges } })

/-! ### Segments (R452, R453) -/

/-- The part of a segment after its header, padded. -/
def Segment.data (x : Segment) : List Byte := padLba (x.entries.flatMap (·.bytes))

/-- Header of a segment for the drive at the port (Table 15-3). -/
def segmentHeader (s : State) (x : Segment) : List Byte :=
  let r := s.recording
  let d := x.data
  let changed := match r.segDrive with | some i => i != r.driveIdent | none => false
  padTo 4096 ([0x50, 0x48, 0x53, 0x47] ++ leBytes 2 1 ++ leBytes 2 (b2n r.firstSeg + 2 * b2n changed) ++ leBytes 8 r.super.nextSegment ++
    leBytes 8 x.tStart ++ leBytes 8 x.tEnd ++ leBytes 4 (4096 + d.length) ++ leBytes 4 x.entries.length ++
    leBytes 8 (crcOut 64 true true (crcRun 64 0x42F0E1EBA9EA3693 true (2 ^ 64 - 1) d)) ++ sha256 d ++
    (if r.firstSeg then sha256 s.trust.bootRecord else padTo 32 r.prevSeg) ++ padTo 10 s.trust.serial ++ leBytes 6 0 ++ padTo 512 x.streams)

/-- Where a run of `n` MiB is placed, from an offset in the recording area: at its start if it would pass the end, and after any
protected segment (R452, R453). -/
def placeSegment (r : Recording) (n : Nat) : Nat → Nat → Option Nat
  | 0, _ => none
  | fuel + 1, a =>
    let a := if r.super.area < a + n then 0 else a
    match r.onDrive.find? fun x => x.hits (r.super.recStart + a) n && protectedIndex r x.index with
    | none => some a
    | some x => placeSegment r n fuel (x.firstMib + x.mibs - r.super.recStart)

/-- OLDEST_PTR after a write at `a` that overlaps some segments: it advances past them (R453). -/
def oldestAfter (r : Recording) (gone : List DriveSeg) (a : Nat) : Nat :=
  if r.onDrive.isEmpty then a
  else match gone.getLast? with
    | none => r.super.oldestPtr
    | some g => match r.onDrive.find? fun x => decide (g.index < x.index) && !gone.contains x with
      | some x => x.firstMib - r.super.recStart
      | none => a

/-- The oldest closed segment is written to the drive. -/
def writeSegment (s : State) : State :=
  let r := s.recording
  match r.segments with
  | [] => s
  | x :: _ =>
    if !x.closed || inFlight s .segment || !r.bootSlotDone then s
    else
      let bytes := segmentHeader s x ++ x.data
      let n := ceilDiv bytes.length mib
      if r.super.area < n then s
      else match placeSegment r n (2 * r.onDrive.length + 3) r.super.writePtr with
        | none => s
        | some a =>
          let first := r.super.recStart + a
          let gone := r.onDrive.filter fun y => y.hits first n
          let s := s.mapRec fun q =>
            { q with onDrive := q.onDrive.filter fun y => !y.hits first n
                     super := { q.super with oldestPtr := oldestAfter r gone a } }
          issueWrite .segment (first * mib) bytes false s

/-! ### The boot slot (R455) -/

/-- The boot slot is written before any segment of a boot. -/
def writeBootSlot (s : State) : State :=
  let r := s.recording
  if r.bootSlotDone || s.trust.bootRecord.isEmpty || inFlight s .bootSlot then s
  else issueWrite .bootSlot (r.super.slotAddr r.super.nextManifest)
    ([0x50, 0x48, 0x42, 0x54] ++ leBytes 8 r.super.nextManifest ++ padTo 32 r.super.lastHash ++ s.trust.bootRecord) true s

/-- The boot slot is on the drive. -/
def bootSlotLanded (s : State) : State :=
  s.mapRec fun r =>
    let bytes := [0x50, 0x48, 0x42, 0x54] ++ leBytes 8 r.super.nextManifest ++ padTo 32 r.super.lastHash ++ s.trust.bootRecord
    { r with
      bootSlotDone := true
      super := { r.super with nextManifest := r.super.nextManifest + 1, boots := inc32 r.super.boots, lastHash := sha256 bytes } }

/-! ### Manifests (R454, R455) -/

/-- The next manifest closes over the segments written, at most 64 of them, and waits for its signatures. -/
def closeManifest (s : State) : State :=
  let r := s.recording
  if r.unlisted.isEmpty then s
  else
    let l := r.unlisted.take 64
    let m : Manifest :=
      { segs := l.map (·.1), gaps := l.any (·.2), tOpen := r.manOpen, tClose := s.time
        bytes := leBytes 1 (slotsByte s false) ++ leBytes 1 (slotsByte s true) }
    (s.mapRec fun r => { r with manifests := r.manifests ++ [m], unlisted := r.unlisted.drop 64, manOpen := s.time }).mapTrust fun t =>
      { t with signing := t.signing ++ [.manifest] }

/-- A segment is on the drive: it leaves the buffer, and is listed in the next manifest. -/
def segmentLanded (c : NvmeCmd) (s : State) : State :=
  match s.recording.segments with
  | [] => s
  | x :: l =>
    let hash := sha256 (c.data.take 4096)
    let first := c.addr / mib
    let d : DriveSeg :=
      { index := s.recording.super.nextSegment, firstMib := first, length := c.length, tStart := x.tStart, tEnd := x.tEnd, hdrHash := hash }
    let s := limitProtection 80 (s.mapRec fun r =>
      { r with
        segments := l, onDrive := r.onDrive ++ [d], unlisted := r.unlisted ++ [(d, x.entries.any fun e => e.kind == 3)]
        prevSeg := hash, firstSeg := false, segDrive := some r.driveIdent
        super := { r.super with clean := false, nextSegment := r.super.nextSegment + 1, writePtr := first + ceilDiv c.length mib - r.super.recStart } })
    if 64 ≤ s.recording.unlisted.length then closeManifest s else s

/-- One entry of a manifest (Table 15-5). -/
def manifestEntry (x : DriveSeg) : List Byte :=
  leBytes 8 x.index ++ leBytes 4 x.firstMib ++ leBytes 4 x.length ++ padTo 32 x.hdrHash ++ leBytes 8 x.tStart ++ leBytes 8 x.tEnd

/-- Bytes 0 to S − 1 of the manifest at a place of the queue (Table 15-5). -/
def manifestBody (s : State) (pos : Nat) (m : Manifest) : List Byte :=
  let r := s.recording
  let first := r.firstMan && pos == 0
  let changed := pos == 0 && (match r.manDrive with | some i => i != r.driveIdent | none => false)
  let prev := if pos = 0 then (if r.firstMan then sha256 s.trust.bootRecord else padTo 32 r.prevMan)
    else sha256 ((r.manifests.getD (pos - 1) {}).bytes)
  [0x50, 0x48, 0x4D, 0x46] ++ leBytes 2 1 ++ leBytes 2 m.segs.length ++ leBytes 8 (r.super.nextManifest + pos) ++ leBytes 8 m.tOpen ++
    leBytes 8 m.tClose ++ padTo 10 s.trust.serial ++ leBytes 2 (b2n first + 2 * b2n changed + 4 * b2n m.gaps) ++ leBytes 4 r.super.boots ++
    prev ++ keyIds s true ++ slice m.bytes 0 2 ++ leBytes 30 0 ++ m.segs.flatMap manifestEntry

/-- The oldest unsigned manifest gets its two signatures (R454). -/
def signManifest (s : State) : State :=
  match s.recording.manifests.findIdx? fun m => !m.signed with
  | none => s
  | some pos =>
    let m := s.recording.manifests.getD pos {}
    let bytes := manifestBody s pos m ++ signatures s.free
    (s.takeFree).mapRec fun r => { r with manifests := r.manifests.modify pos fun m => { m with bytes, signed := true } }

/-- The oldest manifest, once signed, is written after a Flush that covers its segments. -/
def writeManifest (s : State) : State :=
  let r := s.recording
  match r.manifests with
  | [] => s
  | m :: _ =>
    if !m.signed || inFlight s .flush || inFlight s .manifest || inFlight s .bootSlot then s
    else if !m.flushed then issue .flush 0 0 0 [] false s
    else issueWrite .manifest (r.super.slotAddr r.super.nextManifest) m.bytes true s

/-- The Flush has completed. -/
def flushLanded (s : State) : State :=
  writeManifest (s.mapRec fun r => { r with manifests := r.manifests.modify 0 fun m => { m with flushed := true } })

/-- A manifest is on the drive: the superblock follows it (R450, R454). -/
def manifestLanded (s : State) : State :=
  match s.recording.manifests with
  | [] => s
  | m :: l =>
    let hash := sha256 m.bytes
    let index := s.recording.super.nextManifest
    let s := s.mapRec fun r =>
      { r with
        manifests := l, prevMan := hash, firstMan := false, manDrive := some r.driveIdent
        super := { r.super with nextManifest := index + 1, lastHash := hash } }
    raise 112 0x0802 (leBytes 8 index ++ leBytes 2 m.segs.length) (issueSuper false s)

/-- Manifests that wait are signed anew for the drive that takes them (R455). -/
def resignManifests (s : State) : State :=
  let s := s.mapRec fun r => { r with manifests := r.manifests.map fun m =>
    { m with bytes := if m.signed then slice m.bytes 0x60 2 else m.bytes, signed := false, flushed := false } }
  s.mapTrust fun t =>
    { t with signing := (t.signing.filter fun x => !decide (x = .manifest)) ++ List.replicate s.recording.manifests.length .manifest }

/-! ### Wear credit (R459) -/

/-- The stream is bursting. -/
def bursting (s : State) (x : RecStream) : Bool := (match x.burstEnd with | some t => decide (s.time < t) | none => false) && !x.stepped

/-- The stream runs at BR: it is bursting, and CREDIT is above 0. -/
def atBurstRate (s : State) (x : RecStream) : Bool := bursting s x && decide (0 < s.recording.super.credit)

/-- BR_NOW. -/
def brNow (s : State) (x : RecStream) : Nat := if atBurstRate s x then x.br else x.brSust

/-- With CREDIT spent, every bursting stream steps down. -/
def stepDown (s : State) : State :=
  let l := (List.range 16).filter fun k => (s.stream k).live && bursting s (s.stream k)
  if 0 < s.recording.super.credit ∨ l.isEmpty then s
  else raise 115 0x0806 (leBytes 2 ((l.map fun k => 2 ^ k).sum)) (l.foldl (fun s k => s.mapStream k fun x => { x with stepped := true }) s)

/-- CREDIT changed by an amount, within its bounds. -/
def chargeCredit (d : Int) (s : State) : State :=
  stepDown (s.mapRec fun r =>
    { r with super := { r.super with credit := (max 0 (min (r.super.maxCredit : Int) (r.super.credit + d))).toNat } })

/-! ### Attach and loss (R449, R455, R461) -/

/-- What a drive is found to be. -/
def driveKind (s : State) : DriveState :=
  let r := s.recording
  if !r.driveGood || decide (r.driveMib < 262144) || decide (7629394 < r.driveMib) then .unsupported
  else match superInForce s with
    | none => .unformatted
    | some (_, x) => if x.serial = padTo 10 s.trust.serial then .own else .foreign

/-- DRIVE_STATE and EV_DRIVE_INSERTED's state. -/
def DriveState.code : DriveState → Nat
  | .own => 0 | .unformatted => 1 | .foreign => 2 | .unsupported => 3 | .none => 4

/-- Segment headers found in the recording area, by rising index. -/
def scanSegments (disk : List Host.Cell) (x : Super) : List DriveSeg :=
  let found := disk.filterMap fun c =>
    let m := c.1 / mib
    if c.1 % mib = 0 ∧ c.2 = 0x50 ∧ x.recStart ≤ m ∧ m < x.nsMib then
      let h := Memory.readBytes disk c.1 4096
      let index := leNat (slice h 8 8)
      if slice h 0 4 = [0x50, 0x48, 0x53, 0x47] ∧ index < x.nextSegment then
        some ({ index, firstMib := m, length := leNat (slice h 0x20 4), tStart := leNat (slice h 0x10 8), tEnd := leNat (slice h 0x18 8)
                hdrHash := sha256 h } : DriveSeg)
      else none
    else none
  let l := found.inOrder fun a b => decide (a.index ≤ b.index)
  l.filter fun d => !(l.any fun e => decide (d.index < e.index) && e.hits d.firstMib d.mibs)

/-- A drive of this module resumes: its superblock, its segments, the boot slot, and CREDIT after a close out of order. -/
def attachOwn (s : State) : State :=
  match superInForce s with
  | none => s
  | some (_, x) =>
    let s := s.mapRec fun r => { r with super := { x with clean := false }, superTime := s.time, onDrive := scanSegments r.disk x }
    let demand := 10000 * ((heldStreams s).map fun y => ceilDiv y.2.br 8000).sum
    let s := if x.clean then s else chargeCredit (-(demand : Int)) s
    writeBootSlot (resignManifests s)

/-- EV_DRIVE_INSERTED; without a rate test the rate is a free value. -/
def tellInserted (k : DriveState) (rate : Option Nat) (s : State) : State :=
  let t := if rate.isSome then s else s.takeFree
  raise 113 0x0803 (leBytes 1 k.code ++ leBytes 3 0 ++ leBytes 4 (rate.getD (Config.freeNat s.free))) t

/-- A drive present is identified: the rate test starts on one that is OWN or UNFORMATTED (R449). -/
def startAttach (s : State) : State :=
  let r := s.recording
  if !r.present || r.testing || r.prepared || s.mode.contain || decide (r.drive ≠ .none) || decide (s.mode.base = .off) ||
      decide (s.mode.base = .keepalive) then s
  else
    let k := driveKind s
    if k = .own ∨ k = .unformatted then s.mapRec fun r => { r with testing := true }
    else tellInserted k none (s.mapRec fun r => { r with drive := k })

/-- Bytes that the rate test has written: 2 s, or the whole area (R449). -/
def testBytes (kbs : Nat) : Nat := if 1073741824 ≤ 2000 * kbs then 1073741824 else 2000 * kbs

/-- The rate test ends: the drive is attached, and its rate is the limit of AR_DRIVE (R323, R449). -/
def endAttach (kbs : Nat) (s : State) : State :=
  let k := driveKind s
  let s := (s.mapRec fun r => { r with testing := false, drive := k }).mapLedger fun l => { l with driveRate := some kbs }
  let s := if k = .own then countWrite (testBytes kbs) (attachOwn s) else s
  readmit (tellInserted k (some kbs) s)

/-- Barges that wait for the drive. -/
def NvmeFor.barge? : NvmeFor → Option Barge
  | .storeData b | .storeIndex b | .storeRead b | .programmeRead b | .format b | .unprotect b => some b
  | _ => none

/-- ST_DEVICE_ABSENT for the drive. -/
def driveAbsent : Reply := .err stDeviceAbsent 0x0300

/-- The drive is no longer attached: what waits for it ends, `failing` with ST_DRIVE_ERROR's reply (R448, R461). -/
def driveGone (failing : Option (NvmeCmd × Reply)) (s : State) : State :=
  let r := s.recording
  let reply := fun (b : Barge) => match failing with | some (c, x) => if c.why.barge? = some b then x else driveAbsent | none => driveAbsent
  let waiting := (r.cmds.filterMap fun c => c.why.barge?).eraseDups
  let s := (s.mapRec fun r =>
    { r with cmds := [], drive := .none, testing := false, super := {}, onDrive := [], bursts := [], removing := none }).mapLedger fun l =>
      { l with driveRate := none }
  let s := raise 113 0x0804 (leBytes 1 0 ++ leBytes 3 0 ++ leBytes 8 (buffered s)) s
  let s := waiting.foldl (fun s b => complete b (reply b) s) s
  let s := match r.removing with
    | some b => complete b (match failing with | some (_, x) => x | none => driveAbsent) s
    | none => s
  readmitIf s

/-- A command fails for good: EV_DRIVE_ERROR, and the drive counts as removed, so that it is not attached again (R448). -/
def driveError (c : NvmeCmd) (status : Nat) (s : State) : State :=
  (driveGone (some (c, .err stDriveError (status % 65536 + c.id * 65536)))
    (raise 113 0x0805 (leBytes 2 status ++ leBytes 1 c.opcode) s)).mapRec fun r => { r with prepared := true }

/-! ### Orderly close (R460) -/

/-- An orderly close is in progress. -/
def closing (s : State) : Bool := s.recording.removing.isSome || s.mode.sleeping.isSome

/-- The drive is closed and its port powered down: PREPARE_REMOVE completes. -/
def portDown (s : State) : State :=
  let b := s.recording.removing
  let s := (s.mapRec fun r =>
    { r with drive := .none, prepared := true, super := {}, onDrive := [], bursts := [], removing := none }).mapLedger fun l =>
      { l with driveRate := none }
  let s := readmitIf (raise 113 0x0804 (leBytes 1 1 ++ leBytes 3 0 ++ leBytes 8 (buffered s)) s)
  match b with
  | some b => complete b .ok s
  | none => s

/-- The next step of an orderly close: the segments, a manifest, a superblock with CLEAN, and the port. A drive that is not OWN
has nothing to write. -/
def advanceClose (s : State) : State :=
  let r := s.recording
  if !closing s || s.mode.contain || !r.cmds.isEmpty then s
  else if r.drive ≠ .own then (if r.drive = .none then s else portDown s)
  else if !r.bootSlotDone && !r.segments.isEmpty then writeBootSlot s
  else if r.segments.any (·.closed) then writeSegment s
  else if !r.unlisted.isEmpty then closeManifest s
  else if !r.manifests.isEmpty then writeManifest s
  else if !r.super.clean then issueSuper true s
  else portDown s

end Sys2Proof.Machine
end

