-- ==== Sys2Proof/Machine/Recording.lean ====
section
/-! DEFINITION. Recording streams: adding and removing them, bursts, the encoding of frames, and the report (file 15). -/
namespace Sys2Proof.Machine

open Sys2Proof

/-! ### Rings that change their size (R288) -/

/-- What a private ring slot keeps outside its record: embedded data, then pixels. -/
def slotContents (s : State) (m : Camera) (k : Nat) : List Byte × List Byte :=
  (devPeek s (m.ringBase * 61440 + 4096 * ceilDiv (64 * m.slots.length) 4096 + 4096 * k) 4096, devPeek s (ringSurface m k).base m.decl.slotBytes)

/-- Slots that a smaller ring keeps: those in use, then others, in ring order. -/
def keptSlots (s : State) (i n : Nat) : List Nat :=
  let m := s.cam i
  let all := List.range m.slots.length
  let used := all.filter fun k => slotPinned s i k || m.open_ == some k || m.newest == some k
  ((used ++ all.filter fun k => !used.contains k).take n).inOrder fun a b => decide (a ≤ b)

/-- The contents of a ring written into the ring of `n` slots at a base, slot by slot; what names a slot follows it. -/
def moveRing (i n base : Nat) (s : State) : State :=
  let m := s.cam i
  let kept := keptSlots s i n
  let place := fun (o : Option Nat) => o.bind fun k => kept.idxOf? k
  let contents := kept.map (slotContents s m)
  let slots : List CamSlot := kept.map (fun k => m.slots.getD k default) ++ List.replicate (n - kept.length) default
  let s := s.mapCam i fun m => { m with ringBase := base, slots, open_ := place m.open_, newest := place m.newest }
  let s := { s with layers := s.layers.map fun l =>
    if l.active.hasSource && l.active.kind == 1 && l.active.input == i then { l with boundSlot := place l.boundSlot } else l }
  let s := match streamOf s 0 i with
    | some k => s.mapStream k fun r => { r with backlog := r.backlog.map fun f => (f.1, f.2.1, (place (some f.2.2)).getD 0) }
    | none => s
  let m := s.cam i
  contents.zipIdx.foldl (fun s x =>
    let s := devWrite (base * 61440 + 4096 * ceilDiv (64 * n) 4096 + 4096 * x.2) x.1.1 s
    devWrite (ringSurface m x.2).base x.1.2 (writeRecordOf i x.2 s)) s

/-- A ring that recording makes longer: a new region takes over, and the old one is freed. -/
def growRing (i : Nat) (s : State) : State × Option MemFail :=
  let m := s.cam i
  let n := m.slotsAdmitted
  if n ≤ m.slots.length then (s, none)
  else match placePrivate (m.decl.ringGranules n) m.decl.twin (.camera i) s with
    | .inr f => (s, some f)
    | .inl (r, t) => (freeRegion m.ringBase (moveRing i n r.base t), none)

/-- A ring that recording no longer needs at its size: the end of its region is freed. -/
def shrinkRing (i : Nat) (s : State) : State :=
  let m := s.cam i
  let n := m.slotsAdmitted
  if m.slots.length ≤ n then s
  else
    let g := m.decl.ringGranules n
    (moveRing i n m.ringBase s).mapMem fun x =>
      { x with regions := x.regions.map fun r => if r.base = m.ringBase then { r with count := g, mirror := r.mirror.take g } else r }

/-! ### REC_STREAM_ADD and REC_STREAM_REMOVE (R467, R468) -/

/-- Each stream's encoder by a new placement; a stream moves at its next segment boundary (R317). -/
def replaceEncoders (s : State) : State :=
  ((placeEncoders s).1).foldl (fun s x => s.mapStream x.1 fun r => { r with encoderNext := x.2 }) s

/-- The source of a REC_STREAM_ADD satisfies R445. -/
def sourceGood (s : State) (kind source : Nat) : Bool :=
  if kind = 0 then
    let m := s.cam source
    decide (m.state ≠ .undeclared) && (m.decl.dt == 0x1E || m.decl.dt == 0x1F) && m.handles.isEmpty
  else
    let w := (s.pipe source).wb
    w.enable && w.dest == 0 && w.format == 0x13

/-- State of the source of a REC_STREAM_ADD. -/
def sourceStateCode (s : State) (kind source : Nat) : Nat :=
  if kind = 0 then
    match (s.cam source).state with
    | .undeclared => 0 | .declared => 1 | .waiting => 2 | .running => 3 | .lost => 4
  else match (s.pipe source).state with
    | .unconfigured => 0 | .configured => 1 | .running => 2 | .retraining => 3

/-- Sum of BR_SUST over the streams, b/s. -/
def sustained (s : State) : Nat := ((heldStreams s).map fun x => x.2.brSust).sum

/-- Checks of REC_STREAM_ADD; R445, R458, R467. -/
def recStreamAddCheck (b : Barge) (s : State) : Option Reply :=
  let k := b.pay 0 1
  let kind := b.pay 1 1
  let source := b.pay 2 1
  let br := b.pay 4 4
  let sust := b.pay 8 4
  let w := s.recording.super.rate
  firstFail [ lenIs b 16, reservedBytes b 3 1, reservedBytes b 12 4, fieldIf b 0 1 (decide (15 < k)), fieldIf b 1 1 (decide (1 < kind)),
    fieldIf b 2 1 (decide ((if kind = 0 then 9 else 7) < source)), fieldIf b 4 4 (decide (br < 1000000) || decide (1000000000 < br)),
    fieldIf b 8 4 (decide (sust < 1000000) || decide (br < sust)),
    failIf (!sourceGood s kind source) (wrongState s (sourceStateCode s kind source)),
    failIf ((s.stream k).live || (streamOf s kind source).isSome) (freeReply stBusy s),
    failIf (decide (s.recording.drive = .own) && decide (8 * w < sustained s + sust + 1024000))
      (noResource 0x0050 ((8 * w - sustained s - 1024000) / 8000)) ]

/-- The state with a stream of a REC_STREAM_ADD: its queue, the segment buffer with the first stream, and a camera's longer ring. -/
def withStream (b : Barge) (s : State) : State × Option MemFail :=
  let k := b.pay 0 1
  let kind := b.pay 1 1
  let source := b.pay 2 1
  let first := (heldStreams s).isEmpty
  let s := s.mapStream k fun _ => { live := true, kind, source, br := b.pay 4 4, brSust := b.pay 8 4, add := some b }
  let (s, f) : State × Option MemFail := if first then
      match placePrivate 8739 false (.recording 0) s with | .inl (_, t) => (t, none) | .inr f => (s, some f)
    else (s, none)
  let (s, g) := if kind = 0 then growRing source (s.mapCam source fun m => { m with recorded := true }) else (s, none)
  let s := replaceEncoders s
  let e := (s.stream k).encoderNext
  (createQueue (64 + k) (0x30 + e) 0x32 true 256 256 (s.mapStream k fun r => { r with encoder := e }), f.or g)

/-- Admission and effect of REC_STREAM_ADD: it completes at the stream's next source frame; R451, R467. -/
def recStreamAddApply (b : Barge) (s : State) : State :=
  let (new, memFail) := withStream b s
  let (r, body) := runAdmission s { rest := s, new, stream := b.pay 0 1, memFail }
  match r with
  | some r => complete b r s
  | none => markCommitted b (noteReport b body (withStream b (closeSegment s)).1)

/-- REC_STREAM_ADD; R467. -/
def execRecStreamAdd (b : Barge) (s : State) : Out := bargeSync recStreamAddCheck recStreamAddApply b s

/-- The encoder lets go of every slot of a camera. -/
def releaseSlots (i : Nat) (s : State) : State :=
  s.mapCam i fun m => { m with slots := m.slots.map fun x => { x with encHeld := false } }

/-- A stream is removed: its queue, its ring's growth and, with the last stream, the segment buffer (R315, R468). -/
def withoutStream (k : Nat) (s : State) : State :=
  let r := s.stream k
  let s := deleteQueue (64 + k) (s.mapStream k fun _ => {})
  let s := if r.kind = 0 then shrinkRing r.source (releaseSlots r.source (s.mapCam r.source fun m => { m with recorded := false })) else s
  let s := if (heldStreams s).isEmpty then
      match s.mem.regions.find? fun x => decide (x.kind = .recording 0) with | some x => freeRegion x.base s | none => s
    else s
  replaceEncoders s

/-- Checks of REC_STREAM_REMOVE; R468. -/
def recStreamRemoveCheck (b : Barge) (s : State) : Option Reply :=
  firstFail [ lenIs b 8, reservedBytes b 1 7, failIf (!(s.stream (b.pay 0 1)).live) (badHandle (b.pay 0 1)) ]

/-- Effect of REC_STREAM_REMOVE; an addition that waits for its first frame ends with ST_STATE; R468. -/
def recStreamRemoveApply (b : Barge) (s : State) : State :=
  let k := b.pay 0 1
  let add := (s.stream k).add
  let s := readmitIf (withoutStream k (closeSegment s))
  let s := match add with | some a => complete a (wrongState s 0) s | none => s
  complete b .ok s

/-- REC_STREAM_REMOVE; R468. -/
def execRecStreamRemove (b : Barge) (s : State) : Out := bargeSync recStreamRemoveCheck recStreamRemoveApply b s

/-! ### REC_BURST (R469) -/

/-- Checks of REC_BURST; DURATION_S and PRE_S are those of a burst, so STOP leaves them; R469. -/
def recBurstFields (b : Barge) : List (Option Reply) := [ lenIs b 16, reservedBits b 2 0xFC, reservedBytes b 3 1, reservedBytes b 8 8 ]

/-- Streams in MASK. -/
def inMask (b : Barge) (k : Nat) : Bool := bit (b.pay 0 2) k

/-- The streams in MASK leave the protecting bursts; one without a stream ends now. -/
def leaveBursts (b : Barge) (s : State) : State :=
  endBursts (s.mapRec fun r => { r with bursts := r.bursts.map fun x =>
    let rest := ((List.range 16).filter fun k => bit x.2.2 k && !inMask b k).map fun k => 2 ^ k
    if rest.isEmpty then (x.1, min x.2.1 s.time, 0) else (x.1, x.2.1, rest.sum) })

/-- The first segment that a burst protects: the oldest that holds entries at or after an instant (R469). -/
def firstProtected (s : State) (t : Nat) : Nat :=
  let l := segmentTimes s.recording
  ((l.find? fun x => decide (t ≤ x.2.2)).map (·.1)).getD (s.recording.super.nextSegment + s.recording.segments.length)

/-- CREDIT in MiB. -/
def creditMib (s : State) : Nat := s.recording.super.credit / mib

/-- Checks of REC_BURST without STOP; R469. -/
def recBurstCheck (b : Barge) (_ : State) : Option Reply :=
  firstFail (recBurstFields b ++ [ fieldIf b 4 2 (b.pay 4 2 = 0 || decide (3600 < b.pay 4 2)), fieldIf b 6 2 (decide (300 < b.pay 6 2)) ])

/-- Effect of REC_BURST: with CREDIT at 0 no stream bursts, but PROTECT still applies; R459, R469. -/
def recBurstApply (b : Barge) (s : State) : State :=
  let detail := creditMib s
  let s := leaveBursts b s
  let until_ := s.time + 1000000000 * b.pay 4 2
  let spent := decide (s.recording.super.credit = 0)
  let s := ((List.range 16).filter fun k => inMask b k && (s.stream k).live).foldl (fun s k =>
    s.mapStream k fun x => { x with burstEnd := some until_, stepped := spent }) s
  let s := if bit (b.pay 2 1) 0 && decide (s.recording.drive = .own) then
      limitProtection 80 (s.mapRec fun r =>
        { r with bursts := r.bursts ++ [(firstProtected s (s.time - 1000000000 * b.pay 6 2), until_, b.pay 0 2)] })
    else s
  complete b (.ok detail) s

/-- REC_BURST; R469. -/
def execRecBurst (b : Barge) (s : State) : Out := barge recBurstCheck recBurstApply b s

/-- Checks of REC_BURST with STOP; R469. -/
def recBurstStopCheck (b : Barge) (_ : State) : Option Reply := firstFail (recBurstFields b)

/-- Effect of REC_BURST with STOP; R469. -/
def recBurstStopApply (b : Barge) (s : State) : State :=
  let detail := creditMib s
  let s := leaveBursts b s
  complete b (.ok detail) ((List.range 16).foldl (fun s k =>
    if inMask b k then s.mapStream k fun x => { x with burstEnd := none, stepped := false } else s) s)

/-- REC_BURST_STOP; R469. -/
def execRecBurstStop (b : Barge) (s : State) : Out := barge recBurstStopCheck recBurstStopApply b s

/-! ### ENCODE_FRAME (R446, R447) -/

/-- A codestream passed through a stream's queue in items of at most 256 cells, `n` of them; none while the encoder waits for
cells (Table 12-1). -/
def passItems (q : Nat) : Nat → List Byte → State → Option State
  | 0, _, s => some s
  | n + 1, l, s =>
    match putItem q (l.take 65536) s with
    | none => none
    | some s => match takeItem q s with
      | none => none
      | some (_, s) => passItems q n (l.drop 65536) s

/-- Budget of a frame in bytes (R446). -/
def frameBudget (s : State) (x : RecStream) : Nat :=
  if x.kind = 0 then brNow s x * (s.cam x.source).decl.framePeriod / 8000000000
  else
    let p := s.pipe x.source
    brNow s x * p.cfg.ht * p.cfg.vt * p.wb.rateDiv / (8 * p.cfg.pixclk)

/-- TIME, SOURCE_CRC and EFLAGS without BURST of a frame of a write-back, none while its frame record is still to be made; with no
record to come SOURCE_CRC is a free value. -/
def tapFacts (s : State) (p frame captured : Nat) : Option (Nat × Nat × Nat) :=
  let x := s.pipe p
  let recs := x.wb.records.filter fun r => r.frame == frame
  match recs.find? fun r => r.link == linkOfHalf x.cfg 0 with
  | some r =>
    some (r.time, r.crc, b2n (recs.any fun q => q.held != 0 || q.repeated != 0) + 2 * b2n (bit r.rflags 2))
  | none =>
    if 0 < x.cfg.links ∧ x.state = .running ∧ (s.pipeCtr p).frames ≤ frame then none
    else some (captured, Config.freeNat s.free % 2 ^ 32, b2n (recs.any fun q => q.held != 0 || q.repeated != 0))

/-- TIME, SOURCE_CRC and EFLAGS without BURST of a waiting frame (Table 15-4). -/
def frameFacts (s : State) (x : RecStream) (f : Nat × Nat × Nat) : Option (Nat × Nat × Nat) :=
  if x.kind = 0 then
    let k := (s.cam x.source).slots.getD f.2.2 {}
    some (k.tSof, k.pixelCrc, 0)
  else tapFacts s x.source f.1 f.2.1

/-- The oldest waiting frame leaves its ring. -/
def leaveRing (k : Nat) (s : State) : State :=
  let x := s.stream k
  match x.backlog with
  | [] => s
  | f :: l =>
    let s := s.mapStream k fun r => { r with backlog := l }
    if x.kind = 0 then holdSlot x.source f.2.2 false s else s

/-- The segment buffer has no room for an entry of a payload (R451). -/
def noRoom (s : State) (n : Nat) : Bool :=
  (appendEntry (entryOf 1 0 0 0 0 0 0 (List.replicate n 0) 0) s).isNone

/-- The encoder of a stream takes its oldest waiting frame (R446, R447, R451). -/
def encodeFrame (k : Nat) (s : State) : State :=
  let x := s.stream k
  match x.backlog with
  | [] => s
  | f :: _ =>
    if !x.live || holding s || encoderOut s x.encoder || !(s.mode.base.isBase || s.mode.base == .boot) then s
    else match frameFacts s x f with
      | none => s
      | some (time, crc, flags) =>
        let n := min (frameBudget s x) (Config.codestreamLength s.free)
        let payload := (List.range n).map (Config.codestreamByte s.free)
        let t := flushGap k (endBursts s)
        if noRoom t n then noteGap k (if s.recording.drive = .own then 1 else 2) f.1 (leaveRing k t)
        else match passItems (64 + k) (ceilDiv n 65536) payload t with
          | none => s
          | some t =>
            let e := entryOf 1 k (flags + 4 * b2n (atBurstRate s x)) f.1 time crc (crc32c payload) payload 0
            match appendEntry e t with
            | none => s
            | some t => leaveRing k ((t.takeFree).mapStream k fun r => { r with frames := inc32 r.frames })

/-- ENCODE_FRAME; R447. -/
def execEncodeFrame (k : Nat) (s : State) : Out := .next (encodeFrame k s)

/-- A signature record of a link of a recorded pipe is an entry of the open segment (R451). -/
def recordSignature (link frame time crc : Nat) (bytes : List Byte) (s : State) : State :=
  (appendEntry (entryOf 2 link 0 frame time crc (crc32c bytes) bytes 0) s).getD s

/-- SEGMENT_CLOSE: the 10 s timer of the open segment; R451. -/
def execSegmentClose (s : State) : Out :=
  .next (match openSegment s with
    | none => s
    | some x => closeSegment (endBursts (s.atTime (x.openTime + 10000000000))))

/-! ### REC_QUERY (R470) -/

/-- A field that only an attached drive of this module has; without one it is a free value. -/
def orFree (s : State) (i : Nat) (have_ : Bool) (v : Nat) : Nat := if have_ then v else Config.freeNat (s.free + i)

/-- Per-stream part of the report. -/
def streamReport (s : State) (k : Nat) : List Byte :=
  let x := s.stream k
  if !x.live then leBytes 16 0
  else leBytes 4 x.frames ++ leBytes 4 x.gaps ++ leBytes 4 (brNow s x) ++ leBytes 1 x.encoder ++ leBytes 3 0

/-- Body of the REC_QUERY report; R470. -/
def recBody (s : State) : List Byte :=
  let r := s.recording
  let x := r.super
  let own := decide (r.drive = .own)
  leBytes 1 r.drive.code ++ leBytes 1 (orFree s 0 r.present r.percentUsed) ++ leBytes 2 x.protect.length ++
    leBytes 4 (orFree s 1 s.ledger.driveRate.isSome (s.ledger.driveRate.getD 0)) ++
    leBytes 8 (orFree s 2 own x.rate) ++ leBytes 8 (orFree s 3 own x.credit) ++ leBytes 8 (orFree s 4 own x.ledgerBytes) ++
    leBytes 8 (orFree s 5 r.present r.smartBytes) ++ leBytes 8 (buffered s) ++
    leBytes 8 (orFree s 6 own x.nextSegment) ++ leBytes 8 (orFree s 7 own x.nextManifest) ++
    leBytes 8 (orFree s 8 (own && !r.onDrive.isEmpty) ((r.onDrive.headD {}).index)) ++ leBytes 8 0 ++
    ((List.range 16).map (streamReport s)).flatten

/-- Checks of REC_QUERY; R470. -/
def recQueryCheck (b : Barge) (_ : State) : Option Reply := firstFail [ lenIs b 8, reservedBytes b 0 8 ]

/-- Effect of REC_QUERY; R470. -/
def recQueryApply (b : Barge) (s : State) : State := complete b { report := some (recBody s) } s

/-- REC_QUERY; R470. -/
def execRecQuery (b : Barge) (s : State) : Out := barge recQueryCheck recQueryApply b s

end Sys2Proof.Machine
end

