-- ==== Sys2Proof/Machine/Store.lean ====
section
/-! DEFINITION. The content store, the reading back of the drive, and the standing programme's loading (file 15). -/
namespace Sys2Proof.Machine

open Sys2Proof

/-! ### The index (R462) -/

/-- One entry of the content store's index. -/
structure StoreEntry where
  /-- Number of the entry. -/
  slot : Nat := 0
  /-- OBJECT_ID. -/
  id : Nat := 0
  /-- TYPE. -/
  type : Nat := 0
  /-- FIRST_MIB, of the namespace. -/
  first : Nat := 0
  /-- LENGTH. -/
  length : Nat := 0
  /-- SHA-256 of the object. -/
  hash : List Byte := []
  deriving DecidableEq, Repr, Inhabited

/-- Byte address of the index. -/
def indexAddr : Nat := 1026 * mib

/-- Entry `i` of the index as the drive holds it. -/
def entryOn (s : State) (i : Nat) : StoreEntry :=
  let l := driveBytes s (indexAddr + 64 * i) 64
  { slot := i, id := leNat (slice l 0 4), type := leNat (slice l 4 1), first := leNat (slice l 8 4), length := leNat (slice l 0x0C 4)
    hash := slice l 0x20 32 }

/-- Entries in use; entry 0 is reserved, and one with OBJECT_ID 0 is free. -/
def storeEntries (s : State) : List StoreEntry :=
  let used := (s.recording.disk.filterMap fun c =>
    if indexAddr + 64 ≤ c.1 ∧ c.1 < indexAddr + mib then some ((c.1 - indexAddr) / 64) else none).eraseDups
  (used.map (entryOn s)).filter fun e => e.id != 0

/-- The entry of an object. -/
def storeFind (s : State) (id : Nat) : Option StoreEntry := (storeEntries s).find? fun e => e.id == id

/-- Bytes of an entry. -/
def entryBytes64 (e : StoreEntry) : List Byte :=
  leBytes 4 e.id ++ leBytes 1 e.type ++ leBytes 3 0 ++ leBytes 4 e.first ++ leBytes 4 e.length ++ leBytes 16 0 ++ padTo 32 e.hash

/-- Runs of MiB that objects hold, those being written included: first, count. -/
def storeRuns (s : State) : List (Nat × Nat) :=
  (((storeEntries s).map fun e => (e.first, ceilDiv e.length mib)) ++
    s.recording.cmds.filterMap fun c => match c.why with
      | .storeData _ => some (c.addr / mib, ceilDiv c.length mib)
      | .storeIndex _ => some (leNat (slice c.data 8 4), ceilDiv (leNat (slice c.data 0x0C 4)) mib)
      | _ => none).inOrder fun a b => decide (a.1 ≤ b.1)

/-- Free gaps of the store between runs, from MiB `lo` to `hi`. -/
def storeGaps (hi : Nat) : Nat → List (Nat × Nat) → List (Nat × Nat)
  | lo, [] => if lo < hi then [(lo, hi - lo)] else []
  | lo, (a, n) :: l => if lo < a then (lo, a - lo) :: storeGaps hi (a + n) l else storeGaps hi (max lo (a + n)) l

/-- Free gaps of the content store. -/
def freeStore (s : State) : List (Nat × Nat) := storeGaps (1026 + s.recording.super.contentMib) 1027 (storeRuns s)

/-- The lowest free entry of the index, none if it is full. -/
def freeEntry (s : State) : Option Nat :=
  let used := ((storeEntries s).map (·.slot)) ++ s.recording.cmds.filterMap fun c =>
    match c.why with | .storeIndex _ => some ((c.addr - indexAddr) / 64) | _ => none
  ((List.range 16384).drop 1).find? fun i => !used.contains i

/-! ### STORE_WRITE (R471) -/

/-- The drive is not one of this module that is attached (R471). -/
def noOwnDrive (s : State) : Option Reply := failIf (decide (s.recording.drive ≠ .own)) driveAbsent

/-- Checks of STORE_WRITE; R462, R471. -/
def storeWriteCheck (b : Barge) (s : State) : Option Reply :=
  let id := b.pay 0 4
  let n := b.pay 16 4
  firstFail [ lenIs b 24, reservedBytes b 5 3, reservedBytes b 20 4, fieldIf b 0 4 (id = 0 || id == 0xFFFFFFFF),
    fieldIf b 4 1 (decide (2 < b.pay 4 1)), fieldIf b 16 4 (n = 0 || decide (67108864 < n)), fieldIf b 8 8 (!inHostRegion s (b.pay 8 8) n),
    failIf (match s.recording.programme with | some g => g.objectId == id | none => false) (freeReply stBusy s),
    noOwnDrive s,
    failIf (!(freeStore s).any fun g => decide (ceilDiv n mib ≤ g.2)) (noResource 0x0052 (((freeStore s).map (·.2)).foldl max 0)),
    failIf ((storeFind s id).isNone && (freeEntry s).isNone) (noResource 0x0053 0) ]

/-- STORE_WRITE starts: the copy goes to the lowest free run that holds it; a byte that cannot be read is a free value. -/
def storeWriteApply (b : Barge) (s : State) : State :=
  let n := b.pay 16 4
  match (freeStore s).find? fun g => decide (ceilDiv n mib ≤ g.2) with
  | none => s
  | some g =>
    let (bytes, _, t) := devRead 0x32 4 (b.pay 8 8) n s
    issueWrite (.storeData b) (g.1 * mib) (bytes.map fun o => o.getD (BitVec.ofNat 8 (Config.freeNat s.free))) false t.takeFree

/-- STORE_WRITE; R471. -/
def execStoreWrite (b : Barge) (s : State) : Out := barge storeWriteCheck storeWriteApply b s

/-- The copy is on the drive: its index entry is replaced with FUA. -/
def storeDataLanded (b : Barge) (c : NvmeCmd) (s : State) : State :=
  let id := b.pay 0 4
  let n := b.pay 16 4
  match (storeFind s id).map (·.slot) <|> freeEntry s with
  | none => complete b (noResource 0x0053 0) s
  | some i =>
    let e : StoreEntry := { id, type := b.pay 4 1, first := c.addr / mib, length := n, hash := sha256 (c.data.take n) }
    issue (.storeIndex b) 1 (indexAddr + 64 * i) 4096 (entryBytes64 e) true s

/-- The index entry is on the drive: STORE_WRITE completes with FIRST_MIB. -/
def storeIndexLanded (b : Barge) (c : NvmeCmd) (s : State) : State := complete b (.ok (leNat (slice c.data 8 4))) s

/-! ### Manifests and segments read back (R456, R457) -/

/-- The DEVICE_CERT carries this module's keys: it verifies but for its root slot's revocation, which a manifest's VENDOR_SLOTS
decides (R456). -/
def certGood (s : State) : Bool :=
  let o := s.trust.deviceCert
  let k := objNum o 7 1
  objForm 5 o.length o && enrolled s false k && decide ((s.trust.vendorHash.getD k []) = keyHash o) && objRsa o && objSlh o &&
    decide (sha384 (objBody o) = slice o 0x30 48) && decide (slice o 0x20 10 = padTo 10 s.trust.serial)

/-- The signed part of a manifest and its two signatures. -/
def manifestParts (m : List Byte) : List Byte × List Byte × List Byte :=
  let n := 0x80 + 64 * leNat (slice m 6 2)
  (slice m 0 n, slice m n 384, slice m (n + 384) 7856)

/-- SIG_RSA of a manifest verifies under the RECORD key. -/
def manifestRsa (s : State) (m : List Byte) : Bool :=
  let (body, rsa, _) := manifestParts m
  Config.rsaValid (slice (certKeys s true) 0 388) body rsa

/-- SIG_SLH of a manifest verifies under the RECORD key. -/
def manifestSlh (s : State) (m : List Byte) : Bool :=
  let (body, _, slh) := manifestParts m
  Config.slhValid (slice (certKeys s true) 388 32) body slh

/-- A manifest is valid (R456). -/
def manifestValid (s : State) (m : List Byte) : Bool :=
  let slots := leNat (slice m 0x60 1)
  let k := objNum s.trust.deviceCert 7 1
  decide (slice m 0 4 = [0x50, 0x48, 0x4D, 0x46]) && decide (slice m 0x20 10 = padTo 10 s.trust.serial) &&
    decide (slice m 0x50 16 = keyIds s true) && certGood s && bit slots k && !bit slots (k + 4) && manifestRsa s m && manifestSlh s m

/-- The layout of the drive at the port: OWN, or FOREIGN for reading. -/
def readLayout (s : State) : Option Super :=
  if s.recording.drive = .own then some s.recording.super
  else if s.recording.drive = .foreign then (superInForce s).map (·.2)
  else none

/-- Slots of the manifest log that are not empty: their addresses. -/
def manifestSlots (s : State) (x : Super) : List Nat :=
  let lo := (1026 + x.contentMib) * mib
  s.recording.disk.filterMap fun c => if lo ≤ c.1 ∧ c.1 < x.recStart * mib ∧ (c.1 - lo) % 16384 = 0 then some c.1 else none

/-- HDR_HASH that a valid manifest on the drive lists for a segment index, none if no manifest does. -/
def listedHash (s : State) (x : Super) (index : Nat) : Option (List Byte) :=
  (manifestSlots s x).findSome? fun a =>
    let m := driveBytes s a 16384
    if !manifestValid s m then none
    else ((List.range (leNat (slice m 6 2))).find? fun i => leNat (slice m (0x80 + 64 * i) 8) == index).map fun i => slice m (0x90 + 64 * i) 32

/-- Class of a segment read whole, and whether it is confirmed (Table 15-6). -/
def segmentClass (s : State) (x : Super) (index : Nat) (bytes : List Byte) : Nat × Bool :=
  let hdr := slice bytes 0 4096
  let listed := listedHash s x index
  let confirmed := listed == some (sha256 hdr)
  let n := leNat (slice hdr 0x20 4)
  let d := slice bytes 4096 (n - 4096)
  if listed.isSome && !confirmed then (1, false)
  else if leNat (slice hdr 0x28 8) = crcOut 64 true true (crcRun 64 0x42F0E1EBA9EA3693 true (2 ^ 64 - 1) d) then (0, confirmed)
  else if confirmed then (if slice hdr 0x30 32 = sha256 d then 2 else 1, true)
  else (3, false)

/-! ### STORE_READ (R472) -/

/-- Segments of the drive at the port. -/
def segmentsOn (s : State) (x : Super) : List DriveSeg :=
  if s.recording.drive = .own then s.recording.onDrive else scanSegments s.recording.disk x

/-- The slot that holds a manifest index: a manifest's, or a boot slot's. -/
def manifestAt (s : State) (x : Super) (id : Nat) : Option Nat :=
  let a := x.slotAddr id
  let m := driveBytes s a 16
  if (slice m 0 4 = [0x50, 0x48, 0x4D, 0x46] ∧ leNat (slice m 8 8) = id) ∨ (slice m 0 4 = [0x50, 0x48, 0x42, 0x54] ∧ leNat (slice m 4 8) = id) then
    some a
  else none

/-- Where an item of a STORE_READ lies on the drive: byte address and length. -/
def readPlace (s : State) (b : Barge) : Option (Nat × Nat) :=
  let id := b.pay 8 8
  match readLayout s with
  | none => none
  | some x =>
    if b.pay 0 1 = 0 then (storeFind s id).map fun e => (e.first * mib, e.length)
    else if b.pay 0 1 = 1 then ((segmentsOn s x).find? fun d => d.index == id).map fun d => (d.firstMib * mib, d.length)
    else (manifestAt s x id).map fun a => (a, 16384)

/-- Checks of STORE_READ; R472. -/
def storeReadCheck (b : Barge) (s : State) : Option Reply :=
  firstFail [ lenIs b 40, reservedBytes b 1 7, reservedBytes b 36 4, fieldIf b 0 1 (decide (2 < b.pay 0 1)),
    fieldIf b 24 8 (!inHostRegion s (b.pay 24 8) (b.pay 32 4)), failIf (readLayout s).isNone driveAbsent,
    failIf (readPlace s b).isNone (badHandle (b.pay 8 8)) ]

/-- STORE_READ starts: the item is read whole, so that it can be classified. -/
def storeReadApply (b : Barge) (s : State) : State :=
  match readPlace s b with
  | none => s
  | some (a, n) => issue (.storeRead b) 2 a (4096 * ceilDiv n 4096) [] false s

/-- STORE_READ; R472. -/
def execStoreRead (b : Barge) (s : State) : Out := barge storeReadCheck storeReadApply b s

/-- What a read item is found to be: DETAIL below the count. A segment read in part has no class: a free value. -/
def readClass (s : State) (b : Barge) (x : Super) (bytes : List Byte) : Nat :=
  let id := b.pay 8 8
  if b.pay 0 1 = 0 then b2n (match storeFind s id with | some e => !decide (e.hash = sha256 bytes) | none => true)
  else if b.pay 0 1 = 1 then
    if b.pay 16 8 = 0 ∧ bytes.length ≤ b.pay 32 4 then
      let (c, ok) := segmentClass s x id bytes
      c + 256 * b2n ok
    else Config.freeNat s.free % 512
  else b2n (manifestRsa s bytes) + 2 * b2n (manifestSlh s bytes)

/-- The item has been read: the part asked for goes to device memory, and the barge completes. -/
def storeReadLanded (b : Barge) (s : State) : State :=
  match readLayout s, readPlace s b with
  | some x, some (a, n) =>
    let bytes := driveBytes s a n
    let part := (bytes.drop (b.pay 16 8)).take (b.pay 32 4)
    complete b (.ok (readClass s b x bytes + part.length * 2 ^ 32)) (devWrite (b.pay 24 8) part s)
  | _, _ => complete b (badHandle (b.pay 8 8)) s

/-- The read of a segment met an uncorrectable sector: class 4; how many bytes were read is a free value (Table 15-6). -/
def storeReadBad (b : Barge) (s : State) : State :=
  complete b (.ok (4 + Config.freeNat s.free % 2 ^ 32 * 2 ^ 32)) s.takeFree

/-! ### Programmes: their form (R463, R473) -/

/-- One asset of a programme. -/
structure Asset where
  /-- OBJECT_ID. -/
  id : Nat := 0
  /-- The surface that it becomes, BASE counted from REGION. -/
  surf : Surface := {}
  deriving DecidableEq, Repr, Inhabited

/-- Asset `i` of a programme; a second plane follows the first at the next multiple of 256 bytes, with the same pitch. -/
def Programme.asset (g : Programme) (i : Nat) : Asset :=
  let o := g.assetAt i
  let f := g.num (o + 4) 1
  let h := g.num (o + 8) 2
  let pitch := g.num (o + 0x0C) 4
  { id := g.num o 4
    surf := { live := true, format := f, width := g.num (o + 6) 2, height := h, pitch0 := pitch, base := g.num (o + 0x10) 8
              pitch1 := if fmtPlanar f then pitch else 0, offset1 := if fmtPlanar f then 256 * ceilDiv (pitch * h) 256 else 0 } }

/-- Bytes of a surface from its base on. -/
def Surface.extent (x : Surface) : Nat := (x.spans.map fun r => r.1 + r.2 - x.base).foldl max 0

/-- The reserved bytes of a programme's tables are 0. -/
def programmeReserved (g : Programme) : Bool :=
  g.num 7 1 == 0 && g.num 0x17 1 == 0 && g.num 0x1A 2 == 0 && zeros (slice g.bytes 0x20 32) &&
    ((List.range g.pipeCount).all fun i => zeros (slice g.bytes (Programme.pipeAt i + 10) 6)) &&
    ((List.range g.assetCount).all fun i =>
      let o := g.assetAt i
      zeros (slice g.bytes (o + 5) 1) && zeros (slice g.bytes (o + 0x0A) 2) && zeros (slice g.bytes (o + 0x18) 8)) &&
    (List.range g.sceneCount).all fun i => (List.range g.named.length).all fun k => zeros (slice g.bytes (g.entryAt i k + 0x1E) 2)

/-- The header's fields are in range, and the tables lie within the object (Table 15-7). -/
def programmeHeader (g : Programme) : Bool :=
  decide (slice g.bytes 0 4 = [0x50, 0x48, 0x53, 0x50]) && g.num 4 2 == 1 && decide (1 ≤ g.pipeCount) && decide (g.pipeCount ≤ 8) &&
    decide (1 ≤ g.assetCount) && decide (g.assetCount ≤ 256) && decide (1 ≤ g.sceneCount) && decide (g.sceneCount ≤ 1024) &&
    decide (1 ≤ g.stopCount) && decide (g.stopCount ≤ 1024) && decide (g.defaultScene < g.sceneCount) && g.canId / 2 ^ 29 % 4 == 0 &&
    decide (g.doorBit ≤ 7) && decide (100 ≤ g.canTimeout) && decide (g.canTimeout ≤ 60000) && decide (g.stopAt g.stopCount ≤ g.bytes.length) &&
    ((List.range g.stopCount).all fun i => decide (g.num (g.stopAt i) 2 < g.sceneCount) && decide (g.num (g.stopAt i + 2) 2 < g.sceneCount))

/-- The pipe table: every named slot is ASSIGNED to its pipe, once, and no pipe is of class CRITICAL (R473). -/
def programmePipes (s : State) (g : Programme) : Bool :=
  let pipes := (List.range g.pipeCount).map g.pipe
  let slots := g.named.map (·.2)
  decide (pipes.eraseDups = pipes) && decide (slots.eraseDups = slots) &&
    ((List.range g.pipeCount).all fun i => let n := g.num (Programme.pipeAt i + 1) 1; decide (1 ≤ n) && decide (n ≤ 8)) &&
    (pipes.all fun p => decide (p < 8) && !critical s p) &&
    g.named.all fun x => decide (x.2 < 64) && decide ((s.layer x.2).state = .assigned) && (s.layer x.2).pipe == x.1

/-- The assets are layer surfaces that Table 3-4 allows, within ASSET_BYTES. -/
def programmeAssets (g : Programme) : Bool :=
  (List.range g.assetCount).all fun i =>
    let x := (g.asset i).surf
    fmtLayer x.format && sizeGood x.width (fmtMul x.format).1 && sizeGood x.height (fmtMul x.format).2 && pitch0Good x && pitch1Good x &&
      baseAligned x && decide (x.base + x.extent ≤ g.assetBytes)

/-- A scene layer's values satisfy Tables 4-6 and 5-3 and its slot's envelope; a layer bypassed in both directions is not checked for
its taps and filter (R463, R473). -/
def sceneLayerGood (e : Envelope) (c : LayerCfg) (i : SourceInfo) : Bool :=
  let bypass := c.bypassH && c.bypassV
  let ycc := fmtYcc i.format
  let faults := envelopeFaults e (if bypass then { c with tapsV := 2 } else c) (some i)
  decide (c.zpos ≤ 7) && decide (c.blend ≤ 2) && decide (c.enc ≤ 4) && (ycc == decide (2 ≤ c.enc)) && decide (c.range ≤ 1) &&
    !(c.range == 1 && i.format == 5) && decide (c.transfer ≤ 5) && decide (c.toneMode ≤ 1) && c.toneCurve % 16 == 0 &&
    decide (c.toneCurve / 256 ≤ 200) && decide (0 < c.srcW) && decide (0 < c.srcH) && decide (0 < c.dstW) && decide (0 < c.dstH) &&
    decide (-16384 ≤ c.dstX) && decide (c.dstX ≤ 16383) && decide (-16384 ≤ c.dstY) && decide (c.dstY ≤ 16383) && rectInside i c &&
    (faults.all fun f => !f.2.2) &&
    (bypass || (decide (2 ≤ c.tapsH) && decide (c.tapsH ≤ 8) && decide (2 ≤ c.tapsV) && decide (c.tapsV ≤ 6) && decide (c.filter ≤ 2) &&
      !(c.kernel == 0 && (decide (c.tapsH < 4) || decide (c.tapsV < 4))))) &&
    decide (c.dstW ≤ 16 * c.srcW) && decide (c.srcW ≤ 4 * c.dstW) && decide (c.dstH ≤ 16 * c.hd) && decide (c.hd ≤ 8 * c.dstH) &&
    decide (256 * c.hd ≤ e.maxRv * c.dstH)

/-- Every layer entry of every scene is good (R473). -/
def programmeScenes (s : State) (g : Programme) : Bool :=
  (List.range g.sceneCount).all fun i => g.named.zipIdx.all fun x =>
    let n := g.num (g.entryAt i x.2) 2
    let e := (s.layer x.1.2).env
    n == 0xFFFF || (decide (n < g.assetCount) &&
      (let a := (g.asset n).surf
       sceneLayerGood e (sceneCfg g i x.2 e.decimate).2 { format := a.format, width := a.width, height := a.height }))

/-- The programme's checks that a failure of answers with ST_BAD_FIELD (R473). -/
def programmeGood (s : State) (g : Programme) : Bool :=
  programmeHeader g && programmeReserved g && programmePipes s g && programmeAssets g && programmeScenes s g &&
    (List.range g.assetCount).all fun i => (storeFind s (g.asset i).id).isSome

/-! ### PROGRAMME_LOAD (R473) -/

/-- The host region at a base address that holds no registered surface. -/
def emptyRegionAt (s : State) (a : Nat) : Option Region := (hostRegionAt s a).filter fun r => surfacesIn s r == 0

/-- A scene of the programme is still shown, or waits for its lock to go (R465). -/
def sceneHeld (s : State) : Bool := !s.recording.saved.isEmpty || !s.recording.sceneShown.isEmpty

/-- A programme is being read. -/
def programmeBusy (s : State) : Bool := s.recording.cmds.any fun c => match c.why with | .programmeRead _ => true | _ => false

/-- Checks of PROGRAMME_LOAD; R473. -/
def programmeLoadCheck (b : Barge) (s : State) : Option Reply :=
  firstFail [ lenIs b 16, reservedBits b 4 0xFE, reservedBytes b 5 3,
    failIf (decide (s.mode.base = .quiet)) (wrongState s (b2n s.recording.programme.isSome)),
    failIf (programmeBusy s || sceneHeld s) (freeReply stBusy s),
    fieldIf b 8 8 (emptyRegionAt s (b.pay 8 8)).isNone, noOwnDrive s,
    match storeFind s (b.pay 0 4) with
    | none => some (badHandle (b.pay 0 4))
    | some e => fieldIf b 0 4 (e.type != 2) ]

/-- PROGRAMME_LOAD starts: the programme and its assets are read. -/
def programmeLoadApply (b : Barge) (s : State) : State :=
  match storeFind s (b.pay 0 4) with
  | none => s
  | some e => issue (.programmeRead b) 2 (e.first * mib) (4096 * ceilDiv e.length 4096) [] false s

/-- PROGRAMME_LOAD; R473. -/
def execProgrammeLoad (b : Barge) (s : State) : Out := barge programmeLoadCheck programmeLoadApply b s

/-- The asset surfaces of the installed programme are freed. -/
def freeAssets (s : State) : State :=
  match s.recording.programme with
  | none => s
  | some g => g.handles.foldl (fun s h => s.mapSurface (h % 65536) fun x =>
      if x.handle = h then { index := x.index, gen := (x.gen + 1) % 2 ^ 32 } else x) s

/-- Assets written into REGION, registered and sealed one after another: their handles, or why one fails (R125, R473). -/
def loadAssets (g : Programme) (region : Nat) : List Nat → State → (List Nat ⊕ Reply) × State
  | [], s => (.inl [], s)
  | i :: l, s =>
    let a := g.asset i
    match storeFind s a.id with
    | none => (.inr (freeReply stBadField s), s)
    | some e =>
      let bytes := driveBytes s (e.first * mib) e.length
      if sha256 bytes ≠ e.hash then (.inr (.err stDriveError 0xFFFF0000), s)
      else
        let n := freeIndex 0 s.surfaces
        let gen := match s.surfaceAt n with | some y => y.gen | none => 1
        let x := { a.surf with index := n, gen, base := region + a.surf.base }
        if 16384 ≤ (s.surfaces.filter (·.live)).length then (.inr (noResource 0x0003 0), s)
        else if 65536 < sealOthers s n + x.tiles then (.inr (noResource 0x0004 (65536 - sealUsed s)), s)
        else
          let s := devWrite x.base (bytes.take a.surf.extent) { s with surfaces := insertSurface x s.surfaces }
          match computeSeals x 0 x.tiles s with
          | (.inr t, s) => (.inr (.err stBadField (0x40 + t * 2 ^ 32)), s)
          | (.inl words, s) =>
            let s := s.mapSurface n fun x => { x with sealed := true, sealWords := words }
            match loadAssets g region l s with
            | (.inl hs, s) => (.inl (x.handle :: hs), s)
            | r => r

/-- The programme has been read: it is checked, its assets loaded, admitted, and put in the place of the old one (R473). -/
def programmeLanded (b : Barge) (s : State) : State :=
  match storeFind s (b.pay 0 4), emptyRegionAt s (b.pay 8 8) with
  | some e, some r =>
    let bytes := driveBytes s (e.first * mib) e.length
    let g : Programme := { objectId := e.id, bytes, region := b.pay 8 8 }
    if sha256 bytes ≠ e.hash then complete b (.err stDriveError 0xFFFF0000) s
    else if s.mode.base = .quiet then complete b (wrongState s (b2n s.recording.programme.isSome)) s
    else if !programmeGood s g then complete b (freeReply stBadField s) s
    else if r.count * 61440 < g.assetBytes then complete b (badField b 8 8) s
    else match loadAssets g g.region (List.range g.assetCount) s with
      | (.inr x, _) => complete b x s
      | (.inl handles, t) =>
        let new := (freeAssets t).mapRec fun q => { q with programme := some { g with bytes := bytes.take (g.stopAt g.stopCount), handles } }
        let (x, body) := runAdmission s { rest := s.mapRec fun q => { q with programme := none }, new }
        match x with
        | some x => complete b x s
        | none => complete b { report := some body } new
  | none, _ => complete b (badHandle (b.pay 0 4)) s
  | _, none => complete b (badField b 8 8) s

/-- Checks of PROGRAMME_LOAD with REMOVE; R473. -/
def programmeRemoveCheck (b : Barge) (s : State) : Option Reply :=
  firstFail [ lenIs b 16, reservedBits b 4 0xFE, reservedBytes b 5 3,
    failIf (decide (s.mode.base = .quiet)) (wrongState s (b2n s.recording.programme.isSome)),
    failIf (programmeBusy s || sceneHeld s) (freeReply stBusy s) ]

/-- Effect of PROGRAMME_LOAD with REMOVE; R473. -/
def programmeRemoveApply (b : Barge) (s : State) : State :=
  complete b .ok (readmitIf ((freeAssets s).mapRec fun r => { r with programme := none }))

/-- PROGRAMME_REMOVE; R473. -/
def execProgrammeRemove (b : Barge) (s : State) : Out := bargeSync programmeRemoveCheck programmeRemoveApply b s

/-! ### DRIVE_SERVICE (R460, R474) -/

/-- A drive is at the port and identified. -/
def driveThere (s : State) : Bool := decide (s.recording.drive ≠ .none)

/-- Payload of DRIVE_SERVICE: the fields that only FORMAT uses are reserved for the other operations. The command's row fixes
which operation a valid OP names; an OP of none goes by any of the three rows and is refused. -/
def serviceReserved (b : Barge) : List (Option Reply) :=
  [ lenIs b 16, reservedBytes b 1 3, reservedBytes b 4 12, fieldIf b 0 1 (decide (2 < b.pay 0 1)) ]

/-- Checks of PREPARE_REMOVE; R474. -/
def prepareRemoveCheck (b : Barge) (s : State) : Option Reply :=
  firstFail (serviceReserved b ++ [ failIf (!driveThere s) driveAbsent, failIf s.recording.removing.isSome (freeReply stBusy s) ])

/-- PREPARE_REMOVE closes the open segment; the drive's orderly close follows (R460). -/
def prepareRemoveApply (b : Barge) (s : State) : State :=
  advanceClose ((closeSegment (endBursts s)).mapRec fun r => { r with removing := some b })

/-- PREPARE_REMOVE; R460. -/
def execPrepareRemove (b : Barge) (s : State) : Out := bargeSync prepareRemoveCheck prepareRemoveApply b s

/-- Checks of FORMAT; R474. -/
def formatCheck (b : Barge) (s : State) : Option Reply :=
  let r := s.recording
  let depot := decide (s.mode.base = .depot)
  firstFail [ lenIs b 16, reservedBytes b 1 3, fieldIf b 0 1 (decide (2 < b.pay 0 1)), fieldIf b 4 4 (decide (b.pay 4 4 < 1024)),
    fieldIf b 8 4 (b.pay 8 4 = 0 || decide (1000000 < b.pay 8 4)), fieldIf b 12 4 (decide (b.pay 12 4 < 1000) || decide (200000 < b.pay 12 4)),
    failIf (!driveThere s) driveAbsent,
    failIf (decide (r.drive ≠ .unformatted) && !depot) (.err stNotPermitted 0x20),
    failIf (decide (r.drive = .unsupported)) (wrongState s r.drive.code),
    fieldIf b 4 4 (decide (r.driveMib / 4 < b.pay 4 4)),
    failIf (!r.cmds.isEmpty || r.removing.isSome) (freeReply stBusy s) ]

/-- FORMAT starts: both superblocks, an empty index, and the rest deallocated (R474). -/
def formatApply (b : Barge) (s : State) : State :=
  let s := (s.send (.nvme 1 0 4096 true)).send (.nvme 1 (mib / 4096) 4096 true)
  issue (.format b) 9 indexAddr mib [] false (s.send (.nvme 1 (indexAddr / 4096) mib false))

/-- FORMAT; R474. -/
def execFormatDrive (b : Barge) (s : State) : Out := barge formatCheck formatApply b s

/-- The superblock that FORMAT writes; the first indexes and the first LAST_MANIFEST_HASH are free values. -/
def freshSuper (b : Barge) (s : State) : Super :=
  let x : Super :=
    { gen := 2, serial := padTo 10 s.trust.serial, nsMib := s.recording.driveMib, contentMib := b.pay 4 4, enduranceTb := b.pay 8 4
      serviceHours := b.pay 12 4, nextSegment := Config.freeNat s.free % 2 ^ 64, nextManifest := Config.freeNat (s.free + 1) % 2 ^ 64
      lastHash := leBytes 32 (Config.freeNat (s.free + 2)), ledgerBytes := 8192 + mib, clean := true }
  { x with credit := x.maxCredit }

/-- The drive is formatted: it is attached as OWN; one whose rate was not tested is tested first (R449, R461, R474). -/
def formatLanded (b : Barge) (s : State) : State :=
  let x := freshSuper b s
  let disk := Memory.writeBytes (Memory.writeBytes [] 0 (superBytes { x with gen := 1 })) mib (superBytes x)
  let tested := s.ledger.driveRate.isSome
  let s := { s with free := s.free + 3 }.mapRec fun r =>
    { r with disk, super := x, onDrive := [], bursts := [], drive := if tested then .own else .none, testing := !tested, superTime := s.time }
  complete b .ok (if tested then writeBootSlot (resignManifests s) else s)

/-- Checks of UNPROTECT; R474. -/
def unprotectCheck (b : Barge) (s : State) : Option Reply :=
  firstFail (serviceReserved b ++ [ failIf (!driveThere s) driveAbsent,
    failIf (decide (s.mode.base ≠ .depot)) (.err stNotPermitted 0x20),
    failIf (decide (s.recording.drive ≠ .own)) (wrongState s s.recording.drive.code) ])

/-- UNPROTECT clears every protected range, and the superblock says so. -/
def unprotectApply (b : Barge) (s : State) : State :=
  let s := s.mapRec fun r => { r with super := { r.super with protect := [], gen := r.super.gen + 1, clean := false }, bursts := [], superTime := s.time }
  let now := match superInForce s with | some (k, _) => k | none => 1
  let flying := (s.recording.cmds.filter fun c => decide (c.why = .superblock)).length
  issueWrite (.unprotect b) ((now + flying + 1) % 2 * mib) (superBytes s.recording.super) true s

/-- UNPROTECT; R474. -/
def execUnprotect (b : Barge) (s : State) : Out := barge unprotectCheck unprotectApply b s

end Sys2Proof.Machine
end

