-- ==== Sys2Proof/Machine/Drive.lean ====
section
/-! DEFINITION. The events of the drive and of the recording timers (file 15). -/
namespace Sys2Proof.Machine

open Sys2Proof

/-! ### Writing (R450 to R455) -/

/-- SEGMENT_WRITE (R452): the boot slot first, then the oldest closed segment. -/
def execSegmentWrite (s : State) : Out :=
  .next (if writable s then (if s.recording.bootSlotDone then writeSegment (endBursts s) else writeBootSlot s) else s)

/-- MANIFEST_CLOSE (R454): 30 s after the last one, while at least one segment has been written. -/
def execManifestClose (s : State) : Out :=
  .next (if s.mode.contain || s.recording.unlisted.isEmpty then s else closeManifest (s.atTime (s.recording.manOpen + 30000000000)))

/-- MANIFEST_WRITE; R454. -/
def execManifestWrite (s : State) : Out := .next (if writable s then writeManifest s else s)

/-- SUPERBLOCK_UPDATE_TIMER (R450): 10 s after the last update. -/
def execSuperblockUpdateTimer (s : State) : Out :=
  .next (if writable s then issueSuper false (s.atTime (s.recording.superTime + 10000000000)) else s)

/-! ### The wear ledger (R458, R459) -/

/-- CREDIT_TICK (R459): once a second. -/
def execCreditTick (s : State) : Out :=
  .next (if s.recording.drive ≠ .own then s
    else
      let r := s.recording
      endBursts (chargeCredit ((r.super.rate : Int) - (r.lastSecond : Int)) (s.mapRec fun r => { r with lastSecond := 0 })))

/-- LEDGER_COMPARE (R458): the drive's SMART counts beside LEDGER_BYTES. -/
def execLedgerCompare (smartBytes percentUsed : Nat) (s : State) : Out :=
  .next (if !driveOpen s then s
    else s.mapRec fun r => { r with smartBytes, percentUsed, compared := (r.super.ledgerBytes, smartBytes) })

/-! ### The drive comes and goes (R449, R461) -/

/-- The contents of a drive in canonical form. -/
def diskOf (l : List (Nat × Byte)) : List Host.Cell := l.foldl (fun m (c : Nat × Byte) => Memory.write m c.1 c.2) []

/-- DRIVE_INSERTED (R449): in OFF and KEEPALIVE the attach waits for the next BOOT (R584). -/
def execDriveInserted (d : DriveFacts) (s : State) : Out :=
  done (if s.recording.present then s
    else startAttach (s.mapRec fun r =>
      { r with
        present := true, prepared := false, driveIdent := d.ident, driveMib := d.mib, driveGood := d.supported, disk := diskOf d.bytes
        smartBytes := d.smartBytes, percentUsed := d.percentUsed }))

/-- DRIVE_RATE_TEST_END; R449. -/
def execDriveRateTestEnd (kbs : Nat) (s : State) : Out :=
  done (if s.recording.testing && !s.mode.contain then endAttach kbs s else s)

/-- DRIVE_REMOVED (R461): one that PREPARE_REMOVE closed, or that an error had removed, may be pulled. -/
def execDriveRemoved (s : State) : Out :=
  let r := s.recording
  done (if !r.present then s
    else (if r.drive = .none && !r.testing then s else driveGone none s).mapRec fun r =>
      { r with present := false, prepared := false, driveMib := 0, driveGood := false, disk := [] })

/-! ### Commands end (R448) -/

/-- A command failed: it is aborted and retried once, and then the drive counts as removed. -/
def commandFailed (c : NvmeCmd) (status : Nat) (s : State) : State :=
  if c.retried then driveError c status s
  else (s.send (.nvme c.opcode (c.addr / 4096) c.length c.fua)).mapRec fun r =>
    { r with cmds := r.cmds.map fun x => if x.id = c.id then { x with retried := true, time := s.time } else x }

/-- A command in flight. -/
def commandOf (s : State) (id : Nat) : Option NvmeCmd := s.recording.cmds.find? fun c => c.id == id

/-- NVME_COMMAND_TIMEOUT (R448): 2 s after it was issued, or with the status of an error; commands pause in CONTAIN. -/
def execNvmeCommandTimeout (id status : Nat) (s : State) : Out :=
  done (match commandOf s id with
    | some c => if s.mode.contain then s else commandFailed c status (if status = 0 then s.atTime (c.time + 2000000000) else s)
    | none => s)

/-- A read met an uncorrectable sector: Unrecovered Read Error of NVMe (PRESUMED, log 33), of a segment that STORE_READ names. -/
def sectorBad (c : NvmeCmd) (status : Nat) : Bool :=
  decide (status = 0x281) && (match c.why with | .storeRead b => b.pay 0 1 == 1 | _ => false)

/-- A command has succeeded: what it was for goes on. -/
def commandLanded (c : NvmeCmd) (s : State) : State :=
  match c.why with
  | .segment => segmentLanded c s
  | .flush => flushLanded s
  | .manifest => manifestLanded s
  | .superblock => s
  | .bootSlot => bootSlotLanded s
  | .storeData b => storeDataLanded b c s
  | .storeIndex b => storeIndexLanded b c s
  | .storeRead b => storeReadLanded b s
  | .programmeRead b => programmeLanded b s
  | .format b => formatLanded b s
  | .unprotect b => complete b .ok s

/-- NVME_COMMAND_COMPLETE (R448): the drive answers; what it returns to a read is what it holds there. In CONTAIN no command is
taken up, and it is retried afterwards. -/
def execNvmeCommandComplete (id status : Nat) (data : List Byte) (s : State) : Out :=
  done (match commandOf s id with
    | none => s
    | some c =>
      if s.mode.contain then s
      else
        let rest := fun (s : State) => s.mapRec fun r => { r with cmds := r.cmds.filter fun x => x.id != c.id }
        if sectorBad c status then
          match c.why with
          | .storeRead b => advanceClose (storeReadBad b (rest s))
          | _ => s
        else if status ≠ 0 then commandFailed c status s
        else
          let s := if c.opcode = 2 then s.mapRec fun r => { r with disk := Memory.writeBytes r.disk c.addr (data.take c.length) } else s
          advanceClose (commandLanded c (writeLanded c (rest s))))

end Sys2Proof.Machine
end

