-- ==== Sys2Proof/Machine/Events.lean ====
section
/-! DEFINITION. The event concentrators, event rings, vectors and the opcodes of family 0x0A (file 14). -/
namespace Sys2Proof.Machine

open Sys2Proof

/-- LEVEL_KIND of a host source (Tables 14-1, 15-8, 16-10, 17-12, 18-9). -/
def levelKind (n : Nat) : Bool := State.levelSources.contains n

/-- LEVEL_KIND of an internal source (Table 14-5). -/
def internalLevelKind (n : Nat) : Bool := decide (32 ≤ n ∧ n ≤ 52) || (decide (64 ≤ n) && levelKind (n - 64))

/-- A source is eligible (R421). -/
def Source.eligible (x : Source) : Bool := x.enabled && !x.masked && x.pending && !x.active

/-- The last record of a list marked COMPLETE_DUE (R421). -/
def markDue : List EvRec → List EvRec
  | [] => []
  | [r] => [{ r with due := true }]
  | r :: l => r :: markDue l

/-- Records that a source passes now: the count of lost events first (R430), EV_LEVEL for a level source (R421), its FIFO. -/
def Source.ready (n : Nat) (level : Bool) (now : Nat) (x : Source) : List EvRec :=
  (if 0 < x.lostTold then [{ code := 0x0A01, source := n, time := now, data := padTo 20 (leBytes 4 x.lostTold) }] else []) ++
  (if level then [{ code := 0x0A02, source := n, time := now, data := padTo 20 (leBytes 8 x.levelTime) }] else []) ++ x.fifo

/-- An eligible source is delivered: an AUTO source passes its records; a CLAIMED source becomes ACTIVE (R421). -/
def Source.deliver (n : Nat) (level : Bool) (now : Nat) (x : Source) : Source :=
  let l := x.ready n level now
  if x.claimed then
    { x with active := true, pending := false, claimHigh := x.level, passed := markDue l, fifo := [], lostTold := 0 }
  else { x with passed := l, fifo := [], lostTold := 0 }

/-- The first passed record leaves; an AUTO source without further records is no longer PENDING (R421). -/
def Source.moved (x : Source) : Source :=
  { x with passed := x.passed.tail
           pending := if x.claimed then x.pending else !(x.passed.tail.isEmpty && x.fifo.isEmpty) }

/-- An event record's 32 bytes with PHASE and HELD (Table 14-2). -/
def evBytes (r : EvRec) (phase held : Bool) : List Byte :=
  leBytes 2 r.code ++ leBytes 1 r.source ++ leBytes 1 (b2n phase + 2 * b2n r.due + 4 * b2n held) ++ leBytes 8 r.time ++ padTo 20 r.data

/-- A host source has a record that can move now: its ring is set and its ring's queue has room (R428, R429). -/
def canMove (s : State) (x : Source) : Bool :=
  (!x.passed.isEmpty || x.eligible) && x.ring != 0xFF && queueHasRoom s (17 + x.ring) 32

/-- The best of some sources: highest PRIORITY, lowest number on a tie (R425, R428). -/
def bestSource (l : List (Nat × Source)) : Option (Nat × Source) :=
  l.foldl (fun best x => match best with
    | none => some x
    | some y => if y.2.priority < x.2.priority then some x else best) none

/-- RECORD_MOVE (R428): one record moves into its ring's queue. -/
def recordMove (s : State) : State :=
  match bestSource ((s.events.host.zipIdx.map fun (x, i) => (i, x)).filter fun (_, x) => canMove s x) with
  | none => s
  | some (n, _) =>
    let now := s.time
    let s := s.mapSource true n fun x => if x.passed.isEmpty then x.deliver n (levelKind n) now else x
    let x := s.source true n
    match x.passed with
    | [] => s.mapSource true n Source.moved
    | r :: _ =>
      match putItem (17 + x.ring) (evBytes r false false) s with
      | none => s
      | some t => t.mapSource true n Source.moved

/-- RECORD_MOVE; R428. -/
def execRecordMove (s : State) : Out := .next (recordMove s)

/-- EDGE_ASSERTION (R420): an edge source of Table 14-1 asserts, or an internal one of Table 14-5. -/
def execEdgeAssertion (host : Bool) (n code : Nat) (data : List Byte) (s : State) : Out :=
  .next (if host then (if levelKind n || decide (175 < n) then s else raise n code data s)
    else if internalLevelKind n || decide (63 < n) then s else raiseInternal n code data s)

/-- LEVEL_CHANGE (R420): a level source's condition rises or falls. -/
def execLevelChange (host : Bool) (n : Nat) (level : Bool) (s : State) : Out :=
  .next (if host then (if levelKind n then setLevel n level s else s)
    else if internalLevelKind n && decide (n < 64) then s.mapSource false n (Source.setLevel level s.time) else s)

/-- A source is completed (R422). -/
def Source.complete (x : Source) (level : Bool) : Source :=
  { x with active := false
           pending := if level then x.enabled && x.level else x.pending
           idleClaims := if level && x.claimHigh && !x.level then inc32 x.idleClaims else x.idleClaims }

/-- COMPLETE (R422). -/
def execComplete (value : Word32) (s : State) : Out :=
  let n := value.toNat % 256
  .next (if (s.source true n).active then s.mapSource true n fun x => x.complete (levelKind n)
    else s.mapEvents fun e => { e with badCompletes := inc32 e.badCompletes })

/-- EC_SNAP (R439): a write of 1 captures the snapshot counters. -/
def execEcSnap (value : Word32) (s : State) : Out :=
  .next (if value.toNat % 2 = 1 then
    s.mapEvents fun e =>
      { e with
        snapTime := s.time
        snap := { badCompletes := e.badCompletes, pmeSent := e.pmeSent
                  lostTotal := min top32 ((e.host.map (·.lost)).sum)
                  msiSent := e.vectors.map (·.msiSent), notified := e.vectors.map (·.notified)
                  written := e.rings.map (·.written)
                  idleClaims := e.host.map (·.idleClaims), lost := e.host.map (·.lost) } }
    else s)

/-- Entries written and not freed of an event ring. -/
def EvRing.waiting (r : EvRing) : Nat := (r.tail + 2 ^ r.sizeLog2 - r.head) % 2 ^ r.sizeLog2

/-- HEAD_DB (R429, R433). -/
def execHeadDb (k : Nat) (value : Word32) (s : State) : Out :=
  let v := value.toNat % 2 ^ 16
  let r := s.evRing k
  .next (if r.state != 1 then s
    else if decide (2 ^ r.sizeLog2 ≤ v) || decide (r.waiting < (v + 2 ^ r.sizeLog2 - r.head) % 2 ^ r.sizeLog2) then
      raise 106 0x0101 (leBytes 1 (0x20 + k) ++ leBytes 1 0x02) (s.mapEvRing k fun r => { r with state := 2, err := 0x02 })
    else s.mapEvRing k fun r => { r with head := v })

/-- The entry that an item makes in an event ring: a record (Table 14-2) or a queue-ring entry (R432). -/
def entryBytes (k : Nat) (r : EvRing) (i : Item) (held : Bool) : List Byte :=
  if k < 16 then
    let flags := (leNat (slice i.bytes 3 1) &&& 2) + b2n r.phase + 4 * b2n held
    slice i.bytes 0 3 ++ leBytes 1 flags ++ slice i.bytes 4 28
  else
    let room := 2 ^ r.entryLog2 - 16
    leBytes 4 i.bytes.length ++
      leBytes 1 (b2n r.phase + 2 * b2n (decide (room < i.bytes.length)) + 4 * b2n held) ++ leBytes 3 0 ++ leBytes 8 i.time ++
      padTo room i.bytes

/-- An event ring can take an entry: ACTIVE, fewer than 2^SIZE_LOG2 − 1 entries not freed, an item waits (R429). -/
def entryReady (s : State) (k : Nat) : Bool :=
  let r := s.evRing k
  r.state == 1 && decide (r.waiting + 1 < 2 ^ r.sizeLog2) && (s.queue r.queue).current.isSome

/-- One waiting item written into its ring (R431, R432); its vector is notified unless `quiet`. -/
def writeEntry (k : Nat) (quiet : Bool) (s : State) : State :=
  let r := s.evRing k
  match (s.queue r.queue).current with
  | none => s
  | some i =>
    match takeItem r.queue s with
    | none => s
    | some (_, s) =>
      let held := decide (0 < r.heldLeft)
      let s := s.hostWrite (r.base + r.tail * (if k < 16 then 32 else 2 ^ r.entryLog2)) (entryBytes k r i held)
      let last := decide (r.tail + 1 = 2 ^ r.sizeLog2)
      let s := s.mapEvRing k fun r =>
        { r with tail := (r.tail + 1) % 2 ^ r.sizeLog2, phase := xor r.phase last,
                 written := inc32 r.written, heldLeft := r.heldLeft - 1 }
      if quiet then s.mapVector r.vector fun x => { x with notified := inc32 x.notified } else notify r.vector s

/-- Items that wait complete in a queue. -/
def waitingItems (s : State) (q : Nat) : Nat := ((s.queue q).items.filter (·.complete)).length

/-- EVENT_ENTRY_WRITE (R431); outside D0 the item waits and counts once as a held notification (R436). -/
def execEventEntryWrite (k : Nat) (s : State) : Out :=
  .next (if !entryReady s k then s
    else match s.host.dstate with
      | .d0 => writeEntry k false s
      | _ =>
        let r := s.evRing k
        if r.heldLeft < waitingItems s r.queue then
          holdNote r.vector (s.mapEvRing k fun r => { r with heldLeft := r.heldLeft + 1 })
        else s)

/-- Waiting items of a ring written without notification, at most `n` (R437, R440). -/
def writeEntries (k : Nat) : Nat → State → State
  | 0, s => s
  | n + 1, s => if entryReady s k then writeEntries k n (writeEntry k true s) else s

/-- Completion records that waited for D0, written in order (R51, R437). -/
def writeHeldRecords (n : Nat) (s : State) : State :=
  let l := (s.ring n).heldRecs
  let s := l.foldl (fun s h => writeRecord h true s) s
  (s.mapVector (s.ring n).vector fun x => { x with notified := satAdd top32 x.notified l.length }).mapRing n
    fun r => { r with heldRecs := [] }

/-- Some ring routed to a vector holds written entries that the host has not freed (R437). -/
def hasUnfreed (s : State) (v : Nat) : Bool :=
  (s.events.rings.any fun r => r.state == 1 && decide (r.vector = v) && decide (r.tail ≠ r.head)) ||
  (s.host.rings.any fun r => decide (r.state ≠ .absent) && decide (r.vector = v) && decide (r.cqTail ≠ r.cqHead))

/-- Step 2 and 3 of R437 for one vector. -/
def releaseVector (v : Nat) (s : State) : State :=
  let x := s.vector v
  if x.pending || x.held || decide (0 < x.heldNotes) then
    let s' := s.mapVector v fun x => { x with pending := false, held := false, heldNotes := 0, count := 0 }
    if hasUnfreed s v then startTimer v (sendMsi v s') else s'
  else s

/-- R437: what waited outside D0 is written and announced. -/
def returnToD0 (s : State) : State :=
  let s := (List.range 16).foldl (fun s n => writeHeldRecords n s) s
  let s := (List.range 32).foldl (fun s k =>
    let w := waitingItems s (s.evRing k).queue
    writeEntries k w (if (s.evRing k).state = 1 then s.mapEvRing k fun r => { r with heldLeft := w } else s)) s
  (List.range 64).foldl (fun s v => releaseVector v s) s

/-- MSIX_UNMASK (R435): a mask clears or MSI-X is enabled, and one message is sent for each PBA bit that may now be sent. -/
def execMsixUnmask (t : MsixTarget) (s : State) : Out :=
  let s := s.mapHost fun h => match t with
    | .vector n => { h with msixMask := h.msixMask.set n false }
    | .function => { h with msixFnMask := false }
    | .enable => { h with msixEnable := true }
  let s := match t with | .vector _ => s | _ => raiseInternal 53 0 [] s
  .next ((List.range 64).foldl (fun s v =>
    if s.host.pba.getD v false && s.host.msixEnable && !s.host.msixFnMask && !(s.host.msixMask.getD v true) && decide (s.host.dstate = .d0)
    then sendMsi v s else s) s)

/-- HOLDOFF_TIMER_EXPIRY (R434, R436). -/
def execHoldoffTimerExpiry (v : Nat) (s : State) : Out :=
  .next (match (s.vector v).timer with
  | none => s
  | some t =>
    let s := s.atTime t
    if (s.vector v).pending then
      match s.host.dstate with
      | .d0 => startTimer v ((sendMsi v s).mapVector v fun x => { x with pending := false, count := 0 })
      | _ =>
        let s := s.mapVector v fun x => { x with pending := false, held := true, timer := none }
        if (s.vector v).wake then wake s else s
    else s.mapVector v fun x => { x with timer := none })

/-- FIRMWARE_TICK (Table 14-5, source 55). -/
def execFirmwareTick (s : State) : Out := .next (raiseInternal 55 0 [] s)

/-! ### The internal concentrator (R424 to R426) -/

/-- Running priority of a pair, none for −1 (R425). -/
def PairRegs.running (p : PairRegs) : Option Nat := (p.claims.map (·.2)).max?

/-- A source may be claimed by a pair: eligible, above its running priority, and Q16 takes its records (R425, R429). -/
def claimable (s : State) (p : PairRegs) (n : Nat) (x : Source) : Bool :=
  x.eligible && (match p.running with | none => true | some r => decide (r < x.priority)) &&
    (decide ((x.ready n (internalLevelKind n) s.time).length = 0) ||
      (decide ((s.queue 16).state ≠ .absent) && mayTake s.pound 16 (x.ready n (internalLevelKind n) s.time).length))

/-- CLAIM (R425): a read of a pair's CLAIM returns and claims the best source. -/
def execClaim (pair : Nat) (s : State) : Out :=
  let p := at_ s.events.pairs pair
  .next (if s.faults.pairBad.getD pair true then s
  else match bestSource ((s.events.internal.zipIdx.map fun (x, i) => (i, x)).filter fun (n, x) => claimable s p n x) with
  | none => s.mapEvents fun e => { e with pairs := e.pairs.modify pair fun p => { p with lastClaim := 0x100 } }
  | some (n, x) =>
    let tie := decide ((at_ s.events.pairs 0).running = (at_ s.events.pairs 1).running)
    let recs := markDue (x.ready n (internalLevelKind n) s.time)
    let s := recs.foldl (fun s r => (putItem 16 (evBytes r false false) s).getD s) s
    let s := s.mapSource false n fun x =>
      { x with active := true, pending := false, claimHigh := x.level, fifo := [], lostTold := 0 }
    s.mapEvents fun e =>
      { e with tiePair := if tie then pair else e.tiePair
               pairs := e.pairs.modify pair fun p => { p with claims := (n, x.priority) :: p.claims, lastClaim := n } })

/-- PAIR_COMPLETE (R425, R422). -/
def execPairComplete (pair : Nat) (value : Word32) (s : State) : Out :=
  let n := value.toNat % 256
  let p := at_ s.events.pairs pair
  .next (if p.claims.any (fun c => c.1 = n) then
    (s.mapSource false n fun x => x.complete (internalLevelKind n)).mapEvents fun e =>
      { e with pairs := e.pairs.modify pair fun p => { p with claims := p.claims.filter fun c => c.1 != n } }
    else s)

/-! ### Opcodes of family 0x0A -/

/-- Checks of EVENT_RING_CREATE; R440. -/
def eventRingCreateCheck (b : Barge) (s : State) : Option Reply :=
  let k := b.pay 0 1
  let q := b.pay 4 1
  firstFail [ lenIs b 32, reservedBytes b 5 3, reservedBytes b 0x10 16,
    fieldIf b 0 1 (k = 15 || decide (31 < k)),
    fieldIf b 1 1 (decide (63 < b.pay 1 1)),
    fieldIf b 2 1 (decide (b.pay 2 1 < 4) || decide (16 < b.pay 2 1)),
    fieldIf b 3 1 (if k < 15 then b.pay 3 1 != 5 else decide (b.pay 3 1 < 7) || decide (12 < b.pay 3 1)),
    fieldIf b 4 1 (if k < 15 then q != 0 else decide (q < 192)),
    fieldIf b 8 8 (b.pay 8 8 % 4096 != 0),
    failIf ((s.evRing k).state != 0) (wrongState s (s.evRing k).state),
    failIf (decide (16 ≤ k) && decide ((s.queue q).state = .absent)) (.err stBadHandle q),
    failIf (decide (16 ≤ k) && (s.queue q).consumer != 0) (freeReply stBusy s) ]

/-- Effect of EVENT_RING_CREATE: what already waits is written at once with HELD, and announced once; R440. -/
def eventRingCreateApply (b : Barge) (s : State) : State :=
  let k := b.pay 0 1
  let q := if k < 15 then 17 + k else b.pay 4 1
  let w := waitingItems s q
  let s := s.mapEvRing k fun _ =>
    { base := b.pay 8 8, queue := q, entryLog2 := b.pay 3 1, sizeLog2 := b.pay 2 1, vector := b.pay 1 1, state := 1, heldLeft := w }
  let s := if 16 ≤ k then s.mapQueue q fun x => { x with consumer := 0x01, state := .bound } else s
  let s := match s.host.dstate with
    | .d0 =>
      let s' := writeEntries k w s
      if (s'.evRing k).tail ≠ 0 then startTimer (b.pay 1 1) (sendMsi (b.pay 1 1) s') else s'
    | _ => s
  complete b .ok s

/-- EVENT_RING_CREATE; R440. -/
def execEventRingCreate (b : Barge) (s : State) : Out := barge eventRingCreateCheck eventRingCreateApply b s

/-- Checks of EVENT_RING_DELETE; R441. -/
def eventRingDeleteCheck (b : Barge) (s : State) : Option Reply :=
  firstFail [ lenIs b 8, reservedBits b 1 0xFE, reservedBytes b 2 6,
    failIf ((s.evRing (b.pay 0 1)).state = 0) (.err stBadHandle (b.pay 0 1)) ]

/-- A queue's consumer binding is removed. -/
def unbindConsumer (q : Nat) (s : State) : State :=
  s.mapQueue q fun x => { x with consumer := 0, state := if x.producer = 0 then .created else x.state }

/-- Effect of EVENT_RING_DELETE; R441. -/
def eventRingDeleteApply (b : Barge) (s : State) : State :=
  let k := b.pay 0 1
  let r := s.evRing k
  let discard := decide (k < 16) && bit (b.pay 1 1) 0
  let items := if discard then (flushCounts (s.queue r.queue)).1 else 0
  let s := s.mapEvRing k fun _ => {}
  let s := if discard then qFlush r.queue s else if 16 ≤ k then unbindConsumer r.queue s else s
  complete b (.ok items) s

/-- EVENT_RING_DELETE; R441. -/
def execEventRingDelete (b : Barge) (s : State) : Out := barge eventRingDeleteCheck eventRingDeleteApply b s

/-- Payload offset of entry `r` of EVENT_ROUTE. -/
def routeOff (r : Nat) : Nat := 8 + 4 * r

/-- Checks of EVENT_ROUTE; R442. -/
def eventRouteCheck (b : Barge) (_ : State) : Option Reply :=
  let n := b.pay 0 2
  let entries := List.range n
  firstFail ([ ring0Only b, lenIs b (8 + 4 * n), reservedBytes b 2 6 ] ++
    entries.map (fun r => reservedBits b (routeOff r + 2) 0xF0) ++
    entries.map (fun r => reservedBits b (routeOff r + 3) 0xFE) ++
    [ fieldIf b 0 2 (n = 0 || decide (256 < n)) ] ++
    entries.map fun r =>
      let o := routeOff r
      fieldIf b o 4 (decide (175 < b.pay o 1) || (decide (14 < b.pay (o + 1) 1) && b.pay (o + 1) 1 != 0xFF) ||
        (levelKind (b.pay o 1) && !bit (b.pay (o + 3) 1) 0)))

/-- Effect of EVENT_ROUTE; R442. -/
def eventRouteApply (b : Barge) (s : State) : State :=
  complete b .ok ((List.range (b.pay 0 2)).foldl (fun s r =>
    let o := routeOff r
    s.mapSource true (b.pay o 1) fun x =>
      { x with ring := b.pay (o + 1) 1, priority := b.pay (o + 2) 1 % 16, claimed := bit (b.pay (o + 3) 1) 0 }) s)

/-- EVENT_ROUTE; R442. -/
def execEventRoute (b : Barge) (s : State) : Out := barge eventRouteCheck eventRouteApply b s

/-- Checks of MODERATION_SET; R443. -/
def moderationSetCheck (b : Barge) (_ : State) : Option Reply :=
  firstFail [ lenIs b 8, reservedBits b 1 0xFE, reservedBytes b 3 1, reservedBytes b 6 2,
    fieldIf b 0 1 (decide (63 < b.pay 0 1)), fieldIf b 4 2 (decide (10000 < b.pay 4 2)) ]

/-- Effect of MODERATION_SET; R443. -/
def moderationSetApply (b : Barge) (s : State) : State :=
  complete b .ok (s.mapVector (b.pay 0 1) fun x =>
    { x with wake := bit (b.pay 1 1) 0, countMax := b.pay 2 1, delayUs := b.pay 4 2 })

/-- MODERATION_SET; R443. -/
def execModerationSet (b : Barge) (s : State) : Out := barge moderationSetCheck moderationSetApply b s

/-- The source bitmap of EVENT_MASK holds source `n` (R444). -/
def maskBit (b : Barge) (n : Nat) : Bool := bit (b.pay (8 + n / 8) 1) (n % 8)

/-- Checks of EVENT_MASK; R444. -/
def eventMaskCheck (b : Barge) (_ : State) : Option Reply :=
  firstFail ([ lenIs b 40, reservedBytes b 1 7, fieldIf b 0 1 (decide (3 < b.pay 0 1)) ] ++
    (List.range 80).map fun i => fieldIf b (8 + (176 + i) / 8) 1 (maskBit b (176 + i)))

/-- One source under an OP of EVENT_MASK; R444, Table 14-4. -/
def applyMask (op : Nat) (level : Bool) (x : Source) : Source :=
  match op with
  | 0 => { x with enabled := true, pending := if level then x.level && !x.active else x.pending }
  | 1 => { x with enabled := false, pending := false, fifo := [], passed := if x.claimed then x.passed else [] }
  | 2 => { x with masked := true }
  | _ => { x with masked := false }

/-- Effect of EVENT_MASK with an OP; R444. -/
def eventMaskApply (op : Nat) (b : Barge) (s : State) : State :=
  complete b .ok (s.mapEvents fun e =>
    { e with host := e.host.zipIdx.map fun (x, n) => if maskBit b n then applyMask op (levelKind n) x else x })

/-- EVENT_ENABLE: EVENT_MASK with OP 0; R444. -/
def execEventEnable (b : Barge) (s : State) : Out := barge eventMaskCheck (eventMaskApply 0) b s
/-- EVENT_DISABLE: EVENT_MASK with OP 1; R444. -/
def execEventDisable (b : Barge) (s : State) : Out := barge eventMaskCheck (eventMaskApply 1) b s
/-- EVENT_MASK_SOURCES: EVENT_MASK with OP 2; R444. -/
def execEventMaskSources (b : Barge) (s : State) : Out := barge eventMaskCheck (eventMaskApply 2) b s
/-- EVENT_UNMASK: EVENT_MASK with OP 3; R444. -/
def execEventUnmask (b : Barge) (s : State) : Out := barge eventMaskCheck (eventMaskApply 3) b s

end Sys2Proof.Machine
end

