-- ==== Sys2Proof/Machine/HostLink.lean ====
section
/-! DEFINITION. Doorbells, the fetch and start of barges, BAR2, resets and power states of the function, and the ring and
fence opcodes of family 0x01 (file 02). -/
namespace Sys2Proof.Machine

open Sys2Proof

/-! ### Rings -/

/-- A ring enters ERROR with a code, and EV_RING_ERROR is raised (R68). -/
def ringError (n code : Nat) (s : State) : State :=
  raise 106 0x0101 (leBytes 1 n ++ leBytes 1 code) (s.mapRing n fun r =>
    { r with err := code, state := if r.state = .frozen then .frozen else .error,
             prevState := if r.state = .frozen then .error else r.prevState })

/-- SQ_TAIL_DB (R57, R67, R68). -/
def execSqTailDb (n value : Nat) (s : State) : Out :=
  let v := value % 2 ^ 16
  let r := s.ring n
  .next (if r.state = .absent then s
    else
      let s := raiseInternal n 0 [] (s.mapRing n fun r => { r with sqTail := v })
      if 2 ^ r.sqLog2 ≤ v then ringError n 0x01 s else s)

/-- CQ_HEAD_DB (R57, R68, R73). -/
def execCqHeadDb (n value : Nat) (s : State) : Out :=
  let v := value % 2 ^ 16
  let r := s.ring n
  let size := 2 ^ r.cqLog2
  .next (if r.state = .absent then s
    else
      let s := raiseInternal (16 + n) 0 [] s
      if decide (size ≤ v) || decide ((r.cqTail + size - r.cqHead) % size < (v + size - r.cqHead) % size) then ringError n 0x02 s
      else s.mapRing n fun r => { r with cqHead := v })

/-- The header at SQ_HEAD, as a barge without payload. -/
def headerAt (s : State) (n : Nat) : Barge :=
  let r := s.ring n
  { ring := n, bytes := s.hostBytes (r.sqBase.toNat + 64 * r.sqHead) 64 }

/-- Slots published and not yet fetched (R67, R87). -/
def Ring.published (r : Ring) : Nat := (r.sqTail + 2 ^ r.sqLog2 - r.sqHead) % 2 ^ r.sqLog2

/-- SLOTS and PAYLOAD_LEN are consistent and in range (R66). -/
def slotsGood (b : Barge) : Bool :=
  decide (1 ≤ b.slots) && decide (b.slots ≤ 64) && decide (b.payloadLen ≤ 4032) &&
    (decide (b.slots = 1 + ceilDiv b.payloadLen 64) || (decide (b.opcode = 0x0100) && decide (b.payloadLen = 0)))

/-- The barge frame is one of BAD_FRAME (Table 2-7). -/
def badFrame (s : State) (n : Nat) : Bool :=
  let b := headerAt s n
  !slotsGood b || decide (2 ^ (s.ring n).sqLog2 < (s.ring n).sqHead + b.slots)

/-- A whole barge, or a bad frame, can be fetched from a ring now; none before READY (R67, R69, R365, R504). -/
def canFetch (s : State) (n : Nat) : Bool :=
  let r := s.ring n
  let b := headerAt s n
  s.mode.ready && decide (r.state = .active) && decide (r.sqHead ≠ r.sqTail) &&
    (badFrame s n || (decide (b.slots ≤ r.published) && (decide (b.payloadLen = 0) || queueHasRoom s n b.payloadLen)))

/-- The ring to fetch next (R69): ring 0 first; then the rings of the round that have not used their weight. -/
def nextRing (s : State) : Option Nat :=
  if canFetch s 0 then some 0
  else
    let l := ((List.range 16).drop 1).filter fun n => canFetch s n
    match l.find? fun n => decide ((s.ring n).roundUsed < (s.ring n).weight) with
    | some n => some n
    | none => l.head?

/-- A ring has been given one more barge; when every fetchable ring had used its weight, a new round begins (R69). -/
def countRound (n : Nat) (s : State) : State :=
  let fresh := decide ((s.ring n).weight ≤ (s.ring n).roundUsed)
  let s := if fresh then s.mapHost fun h => { h with rings := h.rings.map fun r => { r with roundUsed := 0 } } else s
  s.mapRing n fun r => { r with roundUsed := r.roundUsed + 1 }

/-- The barge at SQ_HEAD is fetched: journalled, its payload put into the ring's queue, SQ_HEAD moved past it (R67, R79). -/
def fetchBarge (n : Nat) (s : State) : State :=
  let r := s.ring n
  let slots := (headerAt s n).slots
  let b : Barge := { ring := n, bytes := s.hostBytes (r.sqBase.toNat + 64 * r.sqHead) (64 * slots) }
  let s := if b.payloadLen = 0 then s else (putItem n b.payload s).getD s
  (s.mapRing n fun r => { r with sqHead := (r.sqHead + slots) % 2 ^ r.sqLog2, inflight := r.inflight ++ [{ barge := b }] }).mapCtr
    fun c => { c with bargesFetched := c.bargesFetched + 1 }

/-- BARGE_FETCH (R67 to R69). Nothing is fetched outside D0 (R51) or during CONTAIN (R81). -/
def execBargeFetch (answer : FetchAnswer) (s : State) : Out :=
  .next (if s.host.dstate ≠ .d0 ∨ s.mode.contain then s
  else match nextRing s with
  | none => s
  | some n =>
    let s := if n = 0 then s else countRound n s
    match answer with
    | .error => ringError n 0x04 s
    | .good =>
      if badFrame s n then
        ringError n 0x03 (s.mapRing n fun r => { r with inflight := r.inflight ++ [{ barge := headerAt s n }] })
      else fetchBarge n s)

/-- Opcodes of Table 2-13. -/
def opcodes : List Nat :=
  [0x0100, 0x0101, 0x0102, 0x0103, 0x0104, 0x0105, 0x0106, 0x0107, 0x0108] ++
  [0x0201, 0x0202, 0x0203, 0x0204, 0x0205, 0x0206, 0x0207, 0x0208] ++
  [0x0301, 0x0302, 0x0303, 0x0304, 0x0305, 0x0306, 0x0307, 0x0308] ++
  [0x0401, 0x0402, 0x0403, 0x0404, 0x0405, 0x0406, 0x0407, 0x0408] ++
  [0x0501, 0x0502, 0x0503, 0x0504, 0x0505, 0x0506] ++
  [0x0601, 0x0602, 0x0603, 0x0604, 0x0605, 0x0606, 0x0607, 0x0608] ++
  [0x0701, 0x0702, 0x0703, 0x0704, 0x0705, 0x0706] ++
  [0x0801, 0x0802, 0x0803, 0x0804, 0x0805, 0x0806, 0x0807, 0x0808] ++
  [0x0901, 0x0902, 0x0903, 0x0904, 0x0905, 0x0906] ++
  [0x0A01, 0x0A02, 0x0A03, 0x0A04, 0x0A05] ++
  [0x0B01, 0x0B02, 0x0B03, 0x0B04] ++
  [0x0C01, 0x0C02, 0x0C03, 0x0C04, 0x0C05, 0x0C06] ++
  [0x0D01, 0x0D02, 0x0D03, 0x0D04, 0x0D05]

/-- Opcodes of Table 2-13 accepted on ring 0 only. -/
def ring0Opcodes : List Nat :=
  [0x0102, 0x0103, 0x0104, 0x0105, 0x0808, 0x0A03, 0x0B02, 0x0C01, 0x0C02, 0x0C04, 0x0C05, 0x0C06, 0x0D04, 0x0D05]

/-- Bytes over which HDR_CHECK is computed, the field itself taken as zero (R75). -/
def checkBytes (b : Barge) : List Byte := slice b.bytes 0 0x1C ++ leBytes 4 0 ++ slice b.bytes 0x20 0x20 ++ b.payload

/-- The lowest nonzero byte of a run of header bytes (R77, step 5). -/
def headerReserved (b : Barge) (off : Nat) : Nat → Option Reply
  | 0 => none
  | n + 1 =>
    let v := b.field off 1
    if v = 0 then headerReserved b (off + 1) n else some (.checkFailed stReservedSet (off + v * 2 ^ 16))

/-- SEQ as R80 requires. -/
def seqGood (b : Barge) (next : Nat) : Bool :=
  if b.resubmit then decide (next ≤ b.seq + 1024) && decide (b.seq < next) else decide (b.seq = next)

/-- Steps 1 to 4 of Table 2-9. -/
def headerChecks1 (b : Barge) (s : State) : Option Reply :=
  let next := (s.ring b.ring).nextSeq.toNat
  firstFail
    [ failIf (!slotsGood b || decide (2 ^ (s.ring b.ring).sqLog2 < b.slots))
        (.checkFailed stBadLength (b.slots + (1 + ceilDiv b.payloadLen 64) * 2 ^ 16)),
      failIf (b.checked && decide (crc32c (checkBytes b) ≠ b.hdrCheck)) (.checkFailed stBadCheck (crc32c (checkBytes b))),
      failIf (b.ringField != b.ring) (.checkFailed stWrongRing b.ring),
      failIf (!seqGood b next) (.checkFailed stBadSeq next) ]

/-- Steps 5 to 8 of Table 2-9. -/
def headerChecks2 (b : Barge) (s : State) : Option Reply :=
  let absent := fun f => (s.fence f).isNone
  firstFail
    [ failIf (b.flags &&& 0x82 != 0) (.checkFailed stReservedSet (0x03 + b.flags * 2 ^ 16)),
      headerReserved b 0x07 1, headerReserved b 0x38 8,
      failIf (!opcodes.contains b.opcode) (.checkFailed stBadOpcode b.opcode),
      failIf (ring0Opcodes.contains b.opcode && b.ring != 0) (.checkFailed stWrongRing b.ring),
      failIf (b.waitEn && absent b.waitFence) (.checkFailed stBadFence b.waitFence),
      failIf (b.signalEn && absent b.signalFence) (.checkFailed stBadFence b.signalFence) ]

/-- The first barge of a ring that has not started, and whether every earlier one has completed. -/
def frontBarge (r : Ring) : Option (Barge × Bool) :=
  (r.inflight.zipIdx.find? fun x => !x.1.started).map fun x => (x.1.barge, x.2 = 0)

/-- The first barge that has not started is marked as started. -/
def markStarted : List InFlight → List InFlight
  | [] => []
  | f :: l => if f.started then f :: markStarted l else { f with started := true } :: l

/-- A barge starts: it leaves the front, its ring is no longer WAITING, and a new barge advances NEXT_SEQ (R70, R80). -/
def startBarge (b : Barge) (advance : Bool) (s : State) : State :=
  s.mapRing b.ring fun r =>
    { r with inflight := markStarted r.inflight
             state := if r.state = .waiting then .active else r.state
             nextSeq := if advance && !b.resubmit then r.nextSeq + 1 else r.nextSeq }

/-- The stored result of a resubmitted barge (R80). -/
def replayOf (b : Barge) (s : State) : Option ResultEntry :=
  if b.resubmit then (s.ring b.ring).results.find? fun e => e.seq = b.seq else none

/-- The payload of the barge leaves its ring's queue; whether a word of it is uncorrectable (R374). -/
def takePayload (b : Barge) (s : State) : Bool × State :=
  if b.payloadLen = 0 then (false, s)
  else
    let s := if (s.queue b.ring).flushPending then s.mapQueue b.ring fun x => { x with flushPending := false } else s
    match (s.queue b.ring).current with
    | none => (false, s)
    | some _ =>
      let t := qGet b.ring b.payloadLen s
      (decide (t.pound.code = .poisoned), qNext b.ring t)

/-- 2D engine that is out of service (R558). -/
def engineOut (s : State) (e : Nat) : Bool := s.faults.engineBad.getD e false

/-- ENGINE of a 2D job's payload (Table 11-4, R357). -/
def engineByte (b : Barge) : Nat := if b.opcode = 0x0608 then b.pay 0x0A 1 else b.pay 0 1

/-- The engine on which a job is queued: the one it names, the one with fewer queued jobs and B0 on a tie, or the one in
service (R327, R558). -/
def jobEngine (b : Barge) (s : State) : Nat :=
  let e := engineByte b
  if engineOut s 0 then 1 else if engineOut s 1 then 0
  else if e = 0xFF then (if (s.engine 0).queue.length ≤ (s.engine 1).queue.length then 0 else 1) else e

/-- The check-value channel acts as a privileged one (R387, R389). -/
def privilegedChannel (s : State) (c : Nat) : Bool := (s.chan c).privileged

/-- The barge is one that a general channel takes in channel order (R388). -/
def channelOrdered (b : Barge) (s : State) : Bool :=
  decide (b.pay 0 1 < 16) && !privilegedChannel s (b.pay 0 1) &&
    (b.opcode == 0x0701 || b.opcode == 0x0702 || b.opcode == 0x0703 || b.opcode == 0x0704 ||
      (b.opcode == 0x0706 && b.pay 8 4 == 0))

/-- The queue that a barge is to join is full: it does not start (R327, R388). -/
def startBlocked (b : Barge) (s : State) : Bool :=
  if (decide (0x0601 ≤ b.opcode) && decide (b.opcode ≤ 0x0606)) || b.opcode == 0x0608 then
    decide (64 ≤ (s.engine (jobEngine b s)).queue.length)
  else if channelOrdered b s then decide (8 ≤ (s.chan (b.pay 0 1)).order.tail.length)
  else false

/-- A barge that is refused at its start completes at once. -/
def refuseStart (b : Barge) (advance : Bool) (r : Reply) (s : State) : State :=
  complete b r (startBarge b advance (takePayload b s).2)

/-- BARGE_START (R70, R77, R80): the first barge of a ring that has not started, when its conditions hold. -/
def bargeStart (n : Nat) (s : State) : State :=
  let r := s.ring n
  match frontBarge r with
  | none => s
  | some (b, alone) =>
    if r.state = .absent ∨ r.state = .frozen ∨ s.mode.contain ∨ (b.barrier ∧ ¬alone) ∨ 2 ^ r.cqLog2 ≤ r.cqUsed + 1 then s
    else match headerChecks1 b s with
    | some e => refuseStart b false e s
    | none =>
      match replayOf b s with
      | some e =>
        refuseStart b true { status := e.status, detail := e.detail, cflags := e.cflags ||| 8, executed := false } s
      | none =>
        match headerChecks2 b s with
        | some e => refuseStart b true e s
        | none =>
          if b.waitEn && !s.fenceReached b.waitFence (BitVec.ofNat 64 b.waitValue) then
            s.mapRing n fun r => { r with state := if r.state = .active then .waiting else r.state }
          else if startBlocked b s then s
          else
            let (poisoned, t) := takePayload b s
            let t := startBarge b true t
            if poisoned then
              let index := t.faults.nextIndex
              complete b (.err stInternal index)
                (faultRecord 13 0 4 0 (leBytes 2 b.opcode ++ leBytes 8 b.seq ++ leBytes 1 b.ring) t)
            else t

/-- BARGE_START; R70. -/
def execBargeStart (n : Nat) (s : State) : Out := .next (bargeStart n s)

/-- SNAP (R58): a write of 1 captures every counter of the block. -/
def execSnap (value : Word32) (s : State) : Out :=
  .next (if value.toNat % 2 = 1 then s.mapHost fun h => { h with snap := h.ctr, snapTime := s.time } else s)

/-- FENCE_SIGNAL (R83): a 64-bit write signals; a 32-bit write is ignored and counted. -/
def execFenceSignal (f : Nat) (wide : Bool) (value : Word64) (s : State) : Out :=
  .next (if wide then signalFence f value s else s.mapCtr fun c => { c with fenceBad := inc32 c.fenceBad })

/-! ### Ring 0 (R60) -/

/-- The ring 0 fields are out of range (R60). -/
def ring0Bad (r : Ring) : Bool :=
  r.sqBase.toNat % 4096 != 0 || r.cqBase.toNat % 4096 != 0 || decide (r.sqLog2 < 6) || decide (16 < r.sqLog2) ||
    decide (r.cqLog2 < 4) || decide (16 < r.cqLog2)

/-- A barge payload queue of Table 12-1. -/
def createPayloadQueue (n : Nat) (s : State) : State := createQueue n 0x01 0x02 false (if n = 0 then 256 else 64) 16 s

/-- ADMIN_ENABLE (R60): bit 0 of the write. -/
def execAdminEnable (value : Word32) (s : State) : Out :=
  let on := value.toNat % 2 = 1
  .next (if !on then s.mapRing 0 fun r => { r with adminEnable := false }
    else if (s.ring 0).state ≠ .absent then s.mapRing 0 fun r => { r with adminEnable := true }
    else if ring0Bad (s.ring 0) then s.mapRing 0 fun r => { r with adminEnable := false, err := 0x05 }
    else createPayloadQueue 0 (s.mapRing 0 fun r => { r with adminEnable := true, state := .active, err := 0, nextSeq := 0 }))

/-- Ring 0 as ADMIN_RESET leaves it: ABSENT, its configuration kept (R50, R60). -/
def resetRing0 (r : Ring) : Ring :=
  { sqBase := r.sqBase, cqBase := r.cqBase, cqLog2 := r.cqLog2, sqLog2 := r.sqLog2, vector := r.vector, weight := r.weight }

/-- ADMIN_RESET (R60): bit 1 of the write; accepted when no barge of ring 0 has started and not completed. -/
def execAdminReset (value : Word32) (s : State) : Out :=
  .next (if bit value.toNat 1 && !((s.ring 0).inflight.any (·.started)) then
      deleteQueue 0 (s.mapRing 0 resetRing0)
    else s)

/-! ### BAR2 (R61 to R64) -/

/-- BAR2_BASE (R61): a write above 3,584 is ignored and flagged. -/
def execBar2Base (value : Word32) (s : State) : Out :=
  let v := value.toNat % 4096
  .next (s.mapHost fun h => if 3584 < v then { h with bar2BaseBad := true } else { h with bar2Base := v })

/-- A BAR2 read, codeword by codeword (R63). -/
def bar2ReadFuel : Nat → Nat → Nat → State → List Byte × State
  | 0, _, _, s => ([], s)
  | fuel + 1, a, n, s =>
    if n = 0 then ([], s)
    else
      let k := min (128 - a % 128) n
      if s.privateGranule (granuleOf a) then
        let (rest, s) := bar2ReadFuel fuel (a + k) (n - k) (s.mapHost fun h => { h with bar2Private := true })
        (List.replicate k 0 ++ rest, s)
      else
        let (d, s) := readWord 0x01 4 (a / 128) s
        match d with
        | some bytes =>
          let (rest, s) := bar2ReadFuel fuel (a + k) (n - k) s
          ((bytes.drop (a % 128)).take k ++ rest, s)
        | none =>
          let (rest, s) := bar2ReadFuel fuel (a + k) (n - k) (s.mapHost fun h => { h with bar2Unreadable := true })
          (List.replicate k 0xFF ++ rest, s)

/-- The state after a read of `n` bytes at an offset of the window; what lies beyond it is not read (R61). -/
def bar2Read (off n : Nat) (s : State) : State :=
  let n := min n (2 ^ 29 - off)
  let (bytes, s) := bar2ReadFuel (n / 128 + 2) (s.host.bar2Base * 2 ^ 21 + off) n s
  s.mapHost fun h => { h with bar2Data := bytes }

/-- BAR2_READ (R62, R63). -/
def execBar2Read (off n : Nat) (s : State) : Out := .next (bar2Read off n s)

/-- The longest run of enabled bytes at the front, and what follows it. -/
def enabledRun : List (Option Byte) → List Byte × List (Option Byte)
  | some b :: l => let (r, rest) := enabledRun l; (b :: r, rest)
  | l => ([], l)

/-- A BAR2 write of consecutive bytes, codeword by codeword (R63). -/
def bar2WriteFuel : Nat → Nat → List Byte → State → State
  | 0, _, _, s => s
  | fuel + 1, a, bytes, s =>
    if bytes.isEmpty then s
    else
      let k := min (128 - a % 128) bytes.length
      let s := if s.privateGranule (granuleOf a) then s.mapHost fun h => { h with bar2Private := true }
        else writeWord (a / 128) (a % 128) (bytes.take k) s
      bar2WriteFuel fuel (a + k) (bytes.drop k) s

/-- The enabled runs of a BAR2 write, one after another; `fuel` bounds the bytes. -/
def bar2Runs : Nat → Nat → List (Option Byte) → State → State
  | 0, _, _, s => s
  | fuel + 1, a, l, s =>
    match l with
    | [] => s
    | none :: l => bar2Runs fuel (a + 1) l s
    | some b :: l =>
      let (run, rest) := enabledRun (some b :: l)
      bar2Runs fuel (a + run.length) rest (bar2WriteFuel (run.length / 128 + 2) a run s)

/-- BAR2_WRITE (R62, R63): the bytes enabled in the write. -/
def execBar2Write (off : Nat) (bytes : List (Option Byte)) (s : State) : Out :=
  let bytes := bytes.take (2 ^ 29 - off)
  .next (bar2Runs (bytes.length + 1) (s.host.bar2Base * 2 ^ 21 + off) bytes s)

/-! ### Resets and power states of the function (R50, R51, R436 to R438) -/

/-- What an FLR or PERST# resets (R50, R438). -/
def functionReset (s : State) : State :=
  let s := s.mapHost fun h =>
    { h with
      rings := h.rings.zipIdx.map fun (r, n) => if n = 0 then resetRing0 r else {}
      msixAddr := List.replicate 64 0, msixData := List.replicate 64 0, msixMask := List.replicate 64 true
      pba := List.replicate 64 false, msixEnable := false, msixFnMask := false
      ctr := { h.ctr with hostResets := inc32 h.ctr.hostResets }
      dstate := .d0 }
  let s := (List.range 16).foldl (fun s n => if (s.queue n).state = .absent then s else deleteQueue n s) s
  let s := (List.range 32).foldl (fun s k =>
    if 16 ≤ k ∧ (s.evRing k).state ≠ 0 then unbindConsumer (s.evRing k).queue s else s) s
  let s := s.mapEvents fun e =>
    { e with rings := List.replicate 32 {}, vectors := List.replicate 64 {}, host := e.host.map fun x => { x with active := false } }
  raiseInternal 53 0 [] s

/-- FUNCTION_LEVEL_RESET; R50. -/
def execFunctionLevelReset (s : State) : Out := .next (functionReset s)

/-- FUNDAMENTAL_RESET; R50: PERST# asserted and deasserted. -/
def execFundamentalReset (s : State) : Out :=
  .next ((functionReset s).mapHost fun h => { h with perst := false, perstTime := s.time })

/-- D3HOT_ENTRY; R51. -/
def execD3hotEntry (s : State) : Out := .next (raiseInternal 53 0 [] (s.mapHost fun h => { h with dstate := .d3hot }))

/-- D3COLD_ENTRY; R436. -/
def execD3coldEntry (s : State) : Out := .next (raiseInternal 53 0 [] (s.mapHost fun h => { h with dstate := .d3cold }))

/-- D0_RETURN; R437. A return from D3cold passes through PERST# and is FUNDAMENTAL_RESET's (R51). -/
def execD0Return (s : State) : Out :=
  .next (match s.host.dstate with
    | .d3hot => returnToD0 (raiseInternal 53 0 [] (s.mapHost fun h => { h with dstate := .d0 }))
    | _ => s)

/-- PME_RESEND; R436: every 100 ms while PME_Status stays 1 in D3hot. -/
def execPmeResend (s : State) : Out :=
  .next (if s.host.dstate = .d3hot ∧ s.host.pmeStatus then
    (s.send .pme).mapEvents fun e => { e with pmeSent := inc32 e.pmeSent } else s)

/-- WAKE_OUT_RELEASE; R436: 1 ms after PERST# is deasserted. -/
def execWakeOutRelease (s : State) : Out :=
  .next (if s.events.wakeOut then
    (s.atTime (s.host.perstTime + 1000000)).mapEvents fun e => { e with wakeOut := false } else s)

/-! ### Ring and fence opcodes -/

/-- Checks of NOP: no payload; R85. -/
def nopCheck (b : Barge) (_ : State) : Option Reply := lenIs b 0
/-- Effect of NOP: none; R85. -/
def nopApply (b : Barge) (s : State) : State := complete b .ok s
/-- NOP; R85. -/
def execNop (b : Barge) (s : State) : Out := barge nopCheck nopApply b s

/-- Checks of RING_CREATE; R86. -/
def ringCreateCheck (b : Barge) (s : State) : Option Reply :=
  let n := b.pay 0 1
  firstFail [ ring0Only b, lenIs b 32, reservedBytes b 5 3,
    fieldIf b 0 1 (n = 0 || decide (15 < n)),
    fieldIf b 1 1 (b.pay 1 1 = 0 || decide (16 < b.pay 1 1)),
    fieldIf b 2 1 (decide (63 < b.pay 2 1)),
    fieldIf b 3 1 (decide (b.pay 3 1 < 6) || decide (16 < b.pay 3 1)),
    fieldIf b 4 1 (decide (b.pay 4 1 < 4) || decide (16 < b.pay 4 1)),
    fieldIf b 8 8 (b.pay 8 8 % 4096 != 0),
    fieldIf b 16 8 (b.pay 16 8 % 4096 != 0),
    failIf (decide ((s.ring n).state ≠ .absent)) (wrongState s (s.ring n).state.code) ]

/-- The ring that RING_CREATE makes; R86. -/
def createdRing (b : Barge) : Ring :=
  { weight := b.pay 1 1, vector := b.pay 2 1, sqLog2 := b.pay 3 1, cqLog2 := b.pay 4 1,
    sqBase := BitVec.ofNat 64 (b.pay 8 8), cqBase := BitVec.ofNat 64 (b.pay 16 8),
    nextSeq := BitVec.ofNat 64 (b.pay 24 8), state := .active }

/-- Effect of RING_CREATE; R86. -/
def ringCreateApply (b : Barge) (s : State) : State :=
  complete b .ok (createPayloadQueue (b.pay 0 1) (s.mapRing (b.pay 0 1) fun _ => createdRing b))

/-- RING_CREATE; R86. -/
def execRingCreate (b : Barge) (s : State) : Out := barge ringCreateCheck ringCreateApply b s

/-- Checks of RING_DELETE; R87. -/
def ringDeleteCheck (b : Barge) (s : State) : Option Reply :=
  let n := b.pay 0 1
  let r := s.ring n
  let live := decide (r.state = .active) || decide (r.state = .waiting)
  firstFail [ ring0Only b, lenIs b 8, reservedBytes b 1 7,
    fieldIf b 0 1 (n = 0 || decide (15 < n)),
    failIf (decide (r.state = .absent)) (wrongState s 0),
    failIf (!r.inflight.isEmpty || (live && decide (r.sqHead ≠ r.sqTail)))
      (.err stBusy (r.inflight.length + r.published * 2 ^ 32)) ]

/-- Effect of RING_DELETE; R87. -/
def ringDeleteApply (b : Barge) (s : State) : State :=
  complete b .ok (deleteQueue (b.pay 0 1) (s.mapRing (b.pay 0 1) fun _ => {}))

/-- RING_DELETE; R87. -/
def execRingDelete (b : Barge) (s : State) : Out := barge ringDeleteCheck ringDeleteApply b s

/-- ST_STATE of an object for which the manual numbers no state: those bits are a free value (log 2). -/
def wrongStateFree (s : State) : Reply := wrongState s (Config.freeNat s.free % 256)

/-- Checks of FENCE_CREATE; R88. -/
def fenceCreateCheck (b : Barge) (s : State) : Option Reply :=
  firstFail [ lenIs b 16, reservedBytes b 2 6, fieldIf b 0 2 (decide (255 < b.pay 0 2)),
    failIf (s.fence (b.pay 0 2)).isSome (wrongStateFree s) ]

/-- Effect of FENCE_CREATE; R88. -/
def fenceCreateApply (b : Barge) (s : State) : State :=
  complete b .ok (s.mapHost fun h => { h with fences := h.fences.set (b.pay 0 2) (some (BitVec.ofNat 64 (b.pay 8 8))) })

/-- FENCE_CREATE; R88. -/
def execFenceCreate (b : Barge) (s : State) : Out := barge fenceCreateCheck fenceCreateApply b s

/-- Checks of FENCE_DESTROY; R89. -/
def fenceDestroyCheck (b : Barge) (s : State) : Option Reply :=
  firstFail [ lenIs b 8, reservedBytes b 2 6,
    failIf (s.fence (b.pay 0 2)).isNone (.err stBadFence (b.pay 0 2)) ]

/-- The front barge of a ring in WAITING on a fence that is destroyed completes with ST_FENCE_DESTROYED (R89). -/
def destroyWait (f n : Nat) (s : State) : State :=
  match frontBarge (s.ring n) with
  | none => s
  | some (b, _) =>
    if (s.ring n).state = .waiting ∧ b.waitEn ∧ b.waitFence = f then
      refuseStart b true (.err stFenceDestroyed f) s
    else s

/-- Effect of FENCE_DESTROY on the fence and the barges; R89. Layer updates that wait on it are dropped at the lock (R147). -/
def fenceDestroyApply (b : Barge) (s : State) : State :=
  let f := b.pay 0 2
  let s := s.mapHost fun h => { h with fences := h.fences.set f none }
  complete b .ok ((List.range 16).foldl (fun s n => destroyWait f n s) s)

/-- FENCE_DESTROY; R89. -/
def execFenceDestroy (b : Barge) (s : State) : Out := barge fenceDestroyCheck fenceDestroyApply b s

end Sys2Proof.Machine
end

