-- ==== Sys2Proof/Machine/TwoDOps.lean ====
section
/-! DEFINITION. The 2D engine's work: the rectangles and ranges of an operation, the checks of Table 11-1, the results of each
operation, and the bursts that it is charged (file 11). -/
namespace Sys2Proof.Machine

open Sys2Proof

/-! ### Fields of an operation (Table 11-4, R351 to R355) -/

/-- The operation that a barge, or an entry of a batch written as one, carries (R350). -/
def TwoDOp.ofBarge (b : Barge) : TwoDOp := { opcode := b.opcode, payload := b.payload }
/-- DST_X. -/
def TwoDOp.dx (o : TwoDOp) : Nat := o.num 0x18 2
/-- DST_Y. -/
def TwoDOp.dy (o : TwoDOp) : Nat := o.num 0x1A 2
/-- W. -/
def TwoDOp.w (o : TwoDOp) : Nat := o.num 0x1C 2
/-- H. -/
def TwoDOp.h (o : TwoDOp) : Nat := o.num 0x1E 2
/-- SRC_X. -/
def TwoDOp.sx (o : TwoDOp) : Nat := o.num 0x20 2
/-- SRC_Y. -/
def TwoDOp.sy (o : TwoDOp) : Nat := o.num 0x22 2
/-- DITHER. -/
def TwoDOp.dither (o : TwoDOp) : Bool := bit (o.num 1 1) 1
/-- WM_STEP. -/
def TwoDOp.wmStep (o : TwoDOp) : Nat := o.num 2 2
/-- ROP. -/
def TwoDOp.rop (o : TwoDOp) : Nat := o.num 0x28 1
/-- MONO_PATTERN. -/
def TwoDOp.monoPattern (o : TwoDOp) : Bool := bit (o.num 0x29 1) 0
/-- PAT_ADDR. -/
def TwoDOp.patAddr (o : TwoDOp) : Nat := o.num 0x40 8
/-- FG. -/
def TwoDOp.fg (o : TwoDOp) : Nat := o.num 0x30 8
/-- BG. -/
def TwoDOp.bg (o : TwoDOp) : Nat := o.num 0x38 8

/-- The code uses S (R335). -/
def ropUsesS (rop : Nat) : Bool := (rop &&& 0xCC) >>> 2 != (rop &&& 0x33)
/-- The code uses P (R335). -/
def ropUsesP (rop : Nat) : Bool := (rop &&& 0xF0) >>> 4 != (rop &&& 0x0F)
/-- The code uses D (R335). -/
def ropUsesD (rop : Nat) : Bool := (rop &&& 0xAA) >>> 1 != (rop &&& 0x55)

/-- The operation reads a source. -/
def TwoDOp.readsS (o : TwoDOp) : Bool :=
  if o.opcode = 0x0602 then false else if o.opcode = 0x0603 then ropUsesS o.rop else true
/-- The operation reads its destination: a ROP3 that uses D, and BLT_ALPHA (R335, R338). -/
def TwoDOp.readsD (o : TwoDOp) : Bool := (o.opcode == 0x0603 && ropUsesD o.rop) || o.opcode == 0x0605
/-- The operation reads a colour pattern (R336). -/
def TwoDOp.readsP (o : TwoDOp) : Bool := o.opcode == 0x0603 && ropUsesP o.rop && !o.monoPattern

/-- Payload length of an operation (R351 to R355). -/
def twoDLength (opcode : Nat) : Nat :=
  match opcode with
  | 0x0601 => 40 | 0x0602 => 48 | 0x0603 => 72 | 0x0604 => 64 | 0x0605 => 56 | _ => 48

/-! ### Rectangles and their bytes -/

/-- Multiples of x and y of a format in the 2D engine (Table 11-2). -/
def blitMul (f : Nat) : Nat × Nat := (if f = 0x20 then 8 else (fmtMul f).1, (fmtMul f).2)

/-- Bytes of `w` pixels from column `x` of line `y` of plane 0. -/
def Surface.lineRun (u : Surface) (x y w : Nat) : Nat × Nat :=
  if u.format = 0x20 then (u.base + y * u.pitch0 + x / 8, (x + w - 1) / 8 - x / 8 + 1)
  else (u.base + y * u.pitch0 + lineBytes u.format x, lineBytes u.format w)

/-- Bytes of `w` luma columns from column `x` of chroma line `y` of plane 1. -/
def Surface.chromaRun (u : Surface) (x y w : Nat) : Nat × Nat :=
  (u.base + u.offset1 + y * u.pitch1 + line1Bytes u.format x, line1Bytes u.format w)

/-- Chroma line of luma line `y`. -/
def Surface.chromaLine (u : Surface) (y : Nat) : Nat := if fmt420 u.format then y / 2 else y

/-- The range of a rectangle in each plane: from the first byte of its first line to the last byte of its last (R328). -/
def Surface.rectRanges (u : Surface) (x y w h : Nat) : List (Nat × Nat) :=
  let span := fun (a b : Nat × Nat) => (a.1, b.1 + b.2 - a.1)
  if u.compressed then
    let a := u.tileAt (x / 64) (y / 16)
    let b := u.tileAt ((x + w - 1) / 64) ((y + h - 1) / 16)
    [(a.1, b.1 + 4096 - a.1), (a.2, b.2 + 8 - a.2)]
  else
    span (u.lineRun x y w) (u.lineRun x (y + h - 1) w) ::
      (if fmtPlanar u.format then
        [span (u.chromaRun x (u.chromaLine y) w) (u.chromaRun x (u.chromaLine (y + h - 1)) w)] else [])

/-- Bytes of a colour pattern in the destination's format (R336). -/
def patternBytes (f : Nat) : Nat := 8 * fmtBpp f

/-- Ranges that an operation writes (R328). -/
def TwoDOp.writeRanges (s : State) (o : TwoDOp) : List (Nat × Nat) :=
  match s.surface o.handles.1 with
  | some d => d.rectRanges o.dx o.dy o.w o.h
  | none => []

/-- Ranges that an operation reads (R328). -/
def TwoDOp.readRanges (s : State) (o : TwoDOp) : List (Nat × Nat) :=
  (match s.surface o.handles.2 with
    | some u => if o.readsS then u.rectRanges o.sx o.sy o.w o.h else []
    | none => []) ++
  (match s.surface o.handles.1 with
    | some d => (if o.readsD then d.rectRanges o.dx o.dy o.w o.h else []) ++
        (if o.readsP then [(o.patAddr, patternBytes d.format)] else [])
    | none => [])

/-- Two lists of ranges have a byte in common. -/
def listsMeet (a b : List (Nat × Nat)) : Bool := a.any fun x => b.any (rangesMeet x)

/-- An operation may not run beside one that began earlier on the other engine (R328). -/
def twoDConflict (s : State) (mine other : TwoDOp) : Bool :=
  listsMeet (other.writeRanges s) (mine.readRanges s ++ mine.writeRanges s) ||
    listsMeet (other.readRanges s) (mine.writeRanges s)

/-- The lowest byte that lies in both of two lists of ranges (R341). -/
def commonByte (a b : List (Nat × Nat)) : Option Nat :=
  (a.flatMap fun x => b.filterMap fun y => if rangesMeet x y then some (max x.1 y.1) else none).min?

/-! ### The checks of Table 11-1 (R330) -/

/-- Step 1 and the reserved bits of an operation's payload; `batch`: an entry of a batch, whose ENGINE is ignored. -/
def twoDFields (batch : Bool) (b : Barge) : List (Option Reply) :=
  let o := TwoDOp.ofBarge b
  [ lenIs b (twoDLength b.opcode), reservedBits b 1 0xFC, reservedBytes b 4 4, reservedBytes b 0x24 4,
    (match b.opcode with
      | 0x0603 => firstFail [reservedBits b 0x29 0xFE, reservedBytes b 0x2C 4]
      | 0x0604 => reservedBytes b 0x29 7
      | 0x0605 => reservedBytes b 0x2A 6
      | 0x0606 => reservedBytes b 0x2A 6
      | _ => none),
    fieldIf b 0 1 (!batch && decide (1 < b.pay 0 1) && b.pay 0 1 != 0xFF),
    fieldIf b 2 2 (decide (16384 < o.wmStep) || (!o.watermark && o.wmStep != 0)),
    fieldIf b 0x1C 2 (o.w = 0 || decide (16384 < o.w)), fieldIf b 0x1E 2 (o.h = 0 || decide (16384 < o.h)),
    fieldIf b 0x10 8 (!o.readsS && o.handles.2 != 0), fieldIf b 0x10 8 (o.readsS && b.opcode == 0x0603 && o.handles.2 == 0),
    fieldIf b 0x20 2 (!o.readsS && o.sx != 0), fieldIf b 0x22 2 (!o.readsS && o.sy != 0),
    (match b.opcode with
      | 0x0603 =>
        if ropUsesP o.rop then
          firstFail [ fieldIf b 0x2A 1 (decide (7 < b.pay 0x2A 1)), fieldIf b 0x2B 1 (decide (7 < b.pay 0x2B 1)),
            fieldIf b 0x40 8 (!o.monoPattern && o.patAddr % 64 != 0) ]
        else none
      | 0x0604 => fieldIf b 0x28 1 (decide (1 < b.pay 0x28 1))
      | 0x0605 => fieldIf b 0x28 1 (b.pay 0x28 1 != 1 && b.pay 0x28 1 != 2)
      | 0x0606 => firstFail [ fieldIf b 0x28 1 (!([0, 2, 3, 4].contains (b.pay 0x28 1))), fieldIf b 0x29 1 (decide (1 < b.pay 0x29 1)) ]
      | _ => none) ]

/-- The destination's format is allowed (Table 11-2). -/
def blitDstGood (opcode : Nat) (d : Surface) : Bool :=
  match opcode with
  | 0x0601 | 0x0602 => !d.compressed
  | 0x0603 => !d.compressed && [1, 2, 3, 4, 0x20, 0x21].contains d.format
  | 0x0606 => fmtRgb d.format
  | _ => !d.compressed && [1, 2, 3, 4].contains d.format

/-- The source's format is allowed (Table 11-2, R333, R335, R339). -/
def blitSrcGood (opcode : Nat) (d u : Surface) : Bool :=
  match opcode with
  | 0x0604 => u.format == 0x20
  | 0x0605 => !u.compressed && [1, 3, 0x21].contains u.format
  | 0x0606 => if u.compressed || d.compressed then u.compressed != d.compressed && u.format == d.format
      else fmtRgb u.format || fmtYcc u.format
  | _ => !u.compressed && u.format == d.format

/-- A coordinate and size lie inside a surface's size and on a multiple. -/
def spanGood (x w size m : Nat) : Bool := decide (x + w ≤ size) && x % m == 0

/-- Step 4: formats and rectangles (R331, R339). -/
def twoDShapes (b : Barge) (s : State) (d : Surface) (src : Option Surface) : List (Option Reply) :=
  let o := TwoDOp.ofBarge b
  let (mx, my) := blitMul d.format
  [ fieldIf b 0x08 8 (!blitDstGood b.opcode d),
    fieldIf b 0x18 2 (!spanGood o.dx o.w d.width mx || (d.compressed && o.dx % 64 != 0)),
    fieldIf b 0x1A 2 (!spanGood o.dy o.h d.height my || (d.compressed && o.dy % 16 != 0)),
    fieldIf b 0x1C 2 (o.w % mx != 0 || (d.compressed && (o.dx + o.w) % 64 != 0 && o.dx + o.w != d.width)),
    fieldIf b 0x1E 2 (o.h % my != 0 || (d.compressed && (o.dy + o.h) % 16 != 0 && o.dy + o.h != d.height)),
    (match src with
      | none => none
      | some u =>
        let (kx, ky) := if b.opcode = 0x0604 then (1, 1) else blitMul u.format
        firstFail [ fieldIf b 0x10 8 (!blitSrcGood b.opcode d u),
          fieldIf b 0x20 2 (!spanGood o.sx o.w u.width kx), fieldIf b 0x22 2 (!spanGood o.sy o.h u.height ky),
          fieldIf b 0x1C 2 (o.w % kx != 0), fieldIf b 0x1E 2 (o.h % ky != 0),
          fieldIf b 0x28 1 (b.opcode == 0x0606 && (fmtYcc u.format == (b.pay 0x28 1 == 0))),
          fieldIf b 0x29 1 (b.opcode == 0x0606 && !fmtYcc u.format && b.pay 0x29 1 != 0) ]),
    fieldIf b 0x40 8 (o.readsP && (hostRegion s o.patAddr (patternBytes d.format)).isNone) ]

/-- The pipe to which a surface is raced-bound (R343). -/
def racedPipe (s : State) (h : Nat) : Option Nat :=
  (s.layers.find? fun l => decide (l.state ≠ .unassigned) && l.active.has h && l.active.kind == 2).map (·.pipe)

/-- Step 5: the destination is attached to a layer other than as a raced source, bound, retiring or sealed. -/
def destinationBusy (s : State) (d : Surface) : Bool :=
  ((layersNaming s d.handle).any fun n => !((s.layer n).active.kind == 2 && (s.layer n).active.has d.handle)) ||
    decide (0 < bindings s d.handle) || decide (d.state = .retiring) || d.sealed

/-- Steps 3 to 7 (R330, R341, R343). -/
def twoDObjects (batch : Bool) (b : Barge) (s : State) (d : Surface) (src : Option Surface) : Option Reply :=
  let o := TwoDOp.ofBarge b
  firstFail ([ failIf (decide (d.state = .lost) || src.any fun u => decide (u.state = .lost)) (wrongState s SurfState.lost.code) ] ++
    twoDShapes b s d src ++
    [ failIf (destinationBusy s d) (.err stBusy d.handle),
      failIf ((racedPipe s d.handle).isSome && (batch || !o.watermark || o.bottomUp s)) (wrongState s SurfState.attached.code),
      match src with
      | some u =>
        if sameLayout d u then none
        else (commonByte (o.writeRanges s) (o.readRanges s)).map fun a => .err stAliasOverlap a
      | none => none ])

/-- The checks of one operation (Table 11-1, R330). -/
def twoDChecks (batch : Bool) (b : Barge) (s : State) : Option Reply :=
  let o := TwoDOp.ofBarge b
  firstFail (twoDFields batch b ++
    [ match s.surface o.handles.1 with
      | none => some (badHandle o.handles.1)
      | some d =>
        if !o.readsS then twoDObjects batch b s d none
        else match s.surface o.handles.2 with
          | none => some (badHandle o.handles.2)
          | some u => twoDObjects batch b s d (some u) ])

/-! ### Reading (R342) -/

/-- Chroma runs that a YCbCr source rectangle reads, the neighbours of R169 included. -/
def chromaReads (u : Surface) (x y w h : Nat) : List (Nat × Nat) :=
  let rows := lines1 u.format u.height
  let hi := min (u.chromaLine (y + h - 1) + (if fmt420 u.format then 1 else 0)) (rows - 1)
  let lo := u.chromaLine y - (if fmt420 u.format then 1 else 0)
  let cols := (u.width + 1) / 2
  let n := min (x / 2 + (w + 1) / 2 + 1) cols - x / 2
  (List.range (hi + 1 - lo)).map fun k =>
    let a := u.chromaAt 0 (x / 2) (lo + k)
    let e := u.chromaAt 1 (x / 2 + n - 1) (lo + k)
    (a.1, e.1 + e.2 - a.1)

/-- Source tiles of a rectangle. -/
def rectTileList (u : Surface) (x y w h : Nat) : List Nat :=
  (List.range ((y + h - 1) / 16 + 1 - y / 16)).flatMap fun r =>
    (List.range ((x + w - 1) / 64 + 1 - x / 64)).map fun c => (y / 16 + r) * tileCols u.width + (x / 64 + c)

/-- Codewords that an operation reads. -/
def TwoDOp.words (s : State) (o : TwoDOp) (d : Surface) (src : Option Surface) : List Nat :=
  let lines := List.range o.h
  ((match src with
    | none => []
    | some u =>
      if u.compressed then (rectTileList u o.sx o.sy o.w o.h).flatMap (tileWords s u)
      else
        (lines.flatMap fun j => runWords (u.lineRun o.sx (o.sy + j) o.w)) ++
          (if o.opcode = 0x0606 ∧ fmtYcc u.format then (chromaReads u o.sx o.sy o.w o.h).flatMap runWords
           else if fmtPlanar u.format then lines.flatMap fun j => runWords (u.chromaRun o.sx (u.chromaLine (o.sy + j)) o.w)
           else [])) ++
   (if o.readsD then lines.flatMap fun j => runWords (d.lineRun o.dx (o.dy + j) o.w) else []) ++
   (if o.readsP then runWords (o.patAddr, patternBytes d.format) else [])).eraseDups

/-- Codewords read by an engine one after another: what was read, all ones for a codeword without a good copy, which raises
EV_MEM_UNCORRECTABLE (R342). -/
def blitRead (e : Nat) : List Nat → State → List (Nat × List Byte) × List Nat × State
  | [], s => ([], [], s)
  | w :: l, s =>
    let (d, s) := readWord (0x7C + e) 4 w s
    match d with
    | some bytes => let (got, bad, s) := blitRead e l s; ((w, bytes) :: got, bad, s)
    | none =>
      let s := raise 104 0x0205 (leBytes 8 (128 * w) ++ leBytes 1 (0x7C + e)) s
      let (got, bad, s) := blitRead e l s
      ((w, List.replicate 128 0xFF) :: got, w :: bad, s)

/-- A memory that holds what the engine read and nothing else. -/
def readImage (got : List (Nat × List Byte)) : State :=
  { mem := { cells := got.foldl (fun m x => Memory.writeBytes m (128 * x.1) x.2) [] } }

/-! ### Results (R332 to R339) -/

/-- D4 of R245. -/
def ditherD4 (x y : Nat) : Nat :=
  ([0, 8, 2, 10, 12, 4, 14, 6, 3, 11, 1, 9, 15, 7, 13, 5] : List Nat).getD (4 * (y % 4) + x % 4) 0

/-- A component returned to `m` bits (R332). -/
def quantise (dither : Bool) (m x y : Nat) (c : Int) : Nat :=
  let v := (clampI 0 4096 c).toNat * (2 ^ m - 1)
  (v + (if dither then 128 + 256 * ditherD4 x y else 2048)) >>> 12

/-- The stored pixel word of four S3.12 components (R332). -/
def packRgb (f : Nat) (dither : Bool) (x y : Nat) (c : List Int) : Nat :=
  let q := fun (m i : Nat) => quantise dither m x y (c.getD i 0)
  let a := fun (m : Nat) => quantise false m x y (c.getD 3 4096)
  if f = 1 then a 8 * 2 ^ 24 + q 8 0 * 2 ^ 16 + q 8 1 * 2 ^ 8 + q 8 2
  else if f = 2 then 0xFF * 2 ^ 24 + q 8 0 * 2 ^ 16 + q 8 1 * 2 ^ 8 + q 8 2
  else if f = 3 then a 2 * 2 ^ 30 + q 10 0 * 2 ^ 20 + q 10 1 * 2 ^ 10 + q 10 2
  else if f = 4 then q 5 0 * 2 ^ 11 + q 6 1 * 2 ^ 5 + q 5 2
  else ((List.range 4).map fun i => toHalf16 (c.getD i 4096) * 2 ^ (16 * i)).sum

/-- The 1,024 pixel words of a tile of a compressed source as read; those of a malformed tile are free values, as the manual
states none for the 2D engine (log 21). -/
def blitTile (free : Nat) (t : State) (u : Surface) (col row : Nat) : List Nat :=
  let (slot, ent) := u.tileAt col row
  (decodeTile u.format (readDataFuel t 2 ent 8) (readDataFuel t 34 slot 4096)).getD
    ((List.range 1024).map fun i => Config.freeNat (free + i) % 2 ^ 32)

/-- Stored pixel word (x, y) of a packed surface as read. -/
def blitPixel (free : Nat) (t : State) (u : Surface) (x y : Nat) : Nat :=
  if u.format = 0x20 then readNum t (u.pixelAt x y) >>> (x % 8) % 2
  else if u.compressed then (blitTile free t u (x / 64) (y / 16)).getD (64 * (y % 16) + x % 64) 0
  else readNum t (u.pixelAt x y)

/-- Four S3.12 components of a source pixel (R338, R339). -/
def blitSample (t : State) (o : TwoDOp) (u : Surface) (x y : Nat) : List Int :=
  if u.format = 0x21 then (expandRgb 1 (o.num 0x30 8)).take 3 ++ [expand (readNum t (u.pixelAt x y)) 8]
  else if fmtYcc u.format then
    rangeMatrix (o.num 0x28 1) (o.num 0x29 1 == 1) false (fmtDepths u.format) ((sampleAt t u x y).take 3) ++ [4096]
  else expandRgb u.format (readNum t (u.pixelAt x y))

/-- ROP3 of `n`-bit pixel words, bit by bit (R335). -/
def rop3 (rop p q d : Nat) : Nat → Nat
  | 0 => 0
  | n + 1 => rop3 rop p q d n + (rop >>> (4 * (p >>> n % 2) + 2 * (q >>> n % 2) + d >>> n % 2)) % 2 * 2 ^ n

/-- Bits [31:24] of XRGB8888 as ones (R334, R335). -/
def xOnes (f v : Nat) : Nat := if f = 2 then 0xFF000000 + v % 2 ^ 24 else v

/-- The pattern's pixel for a destination pixel (R336). -/
def patternPixel (t : State) (o : TwoDOp) (f x y : Nat) : Nat :=
  let i := (x + 8 - o.num 0x2A 1 % 8) % 8
  let j := (y + 8 - o.num 0x2B 1 % 8) % 8
  if o.monoPattern then (if (o.num (0x40 + j) 1).testBit i then o.fg else o.bg) % 2 ^ fmtBpp f
  else if f = 0x20 then readNum t (o.patAddr + j, 1) >>> i % 2
  else readNum t (o.patAddr + (8 * j + i) * (fmtBpp f / 8), fmtBpp f / 8)

/-- BLT_ALPHA on one pixel: components of source and destination (R338). -/
def alphaBlend (o : TwoDOp) (c d : List Int) : List Int :=
  let la := expand (o.num 0x29 1) 8
  let a := (c.getD 3 0 * la + 2048) / 4096
  let overComp := fun (x y : Int) =>
    if o.num 0x28 1 = 1 then (x * a + y * (4096 - a) + 2048) / 4096
    else (x * la + 2048) / 4096 + (y * (4096 - a) + 2048) / 4096
  List.zipWith overComp (c.take 3) (d.take 3) ++ [a + (d.getD 3 4096 * (4096 - a) + 2048) / 4096]

/-- The stored pixel word that an operation on packed pixels gives at destination offset (i, j), none where it writes nothing
(R334 to R339). -/
def blitResult (free : Nat) (t : State) (o : TwoDOp) (d : Surface) (src : Option Surface) (i j : Nat) : Option Nat :=
  let u := src.getD {}
  let (x, y) := (o.dx + i, o.dy + j)
  let (sx, sy) := (o.sx + i, o.sy + j)
  match o.opcode with
  | 0x0602 => some (xOnes d.format (o.num 0x28 8))
  | 0x0603 =>
    let n := fmtBpp d.format
    let p := if ropUsesP o.rop then xOnes d.format (patternPixel t o d.format x y) else 0
    let q := if o.readsS then xOnes d.format (blitPixel free t u sx sy) else 0
    let v := if o.readsD then xOnes d.format (blitPixel free t d x y) else 0
    some (xOnes d.format (rop3 o.rop p q v n))
  | 0x0604 =>
    if blitPixel free t u sx sy = 1 then some o.fg else if o.num 0x28 1 = 0 then some o.bg else none
  | 0x0605 => some (packRgb d.format o.dither x y (alphaBlend o (blitSample t o u sx sy) (expandRgb d.format (blitPixel free t d x y))))
  | 0x0606 =>
    if u.compressed then some (blitPixel free t u sx sy)
    else some (packRgb d.format o.dither x y (blitSample t o u sx sy))
  | _ => some (blitPixel free t u sx sy)

/-- Runs of written bytes of consecutive pixels of `n` bytes from an address. -/
def pixelRuns (n : Nat) : Nat → List (Option Nat) → List (Nat × List Byte)
  | _, [] => []
  | a, none :: l => pixelRuns n (a + n) l
  | a, some v :: l =>
    match pixelRuns n (a + n) l with
    | (b, bytes) :: r => if b = a + n then (a, leBytes n v ++ bytes) :: r else (a, leBytes n v) :: (b, bytes) :: r
    | [] => [(a, leBytes n v)]

/-- Bytes of a line of MONO1 pixels. -/
def packBitsOf (n : Nat) (v : Nat → Nat) : List Byte :=
  (List.range (ceilDiv n 8)).map fun k => BitVec.ofNat 8 ((List.range 8).map fun b => v (8 * k + b) % 2 * 2 ^ b).sum

/-- `n` bytes of a repeated pattern. -/
def cycleBytes (p : List Byte) (n : Nat) : List Byte := (List.range n).map fun i => p.getD (i % p.length) 0

/-- Plane 0 runs that an operation writes on destination line `j` of its rectangle. -/
def blitLine (free : Nat) (t : State) (o : TwoDOp) (d : Surface) (src : Option Surface) (j : Nat) : List (Nat × List Byte) :=
  let run := d.lineRun o.dx (o.dy + j) o.w
  match src, o.opcode with
  | some u, 0x0601 =>
    let from_ := u.lineRun o.sx (o.sy + j) o.w
    [(run.1, readDataFuel t (from_.2 / 128 + 2) from_.1 from_.2)]
  | _, 0x0602 =>
    if fmtPlanar d.format then [(run.1, cycleBytes (leBytes (if d.format = 0x10 then 1 else 2) (o.num 0x28 2)) run.2)]
    else if d.format = 0x12 then [(run.1, cycleBytes (leBytes 4 (o.num 0x28 4)) run.2)]
    else if d.format = 0x20 then [(run.1, packBitsOf o.w fun _ => o.num 0x28 1)]
    else pixelRuns (fmtBpp d.format / 8) run.1 ((List.range o.w).map fun i => blitResult free t o d src i j)
  | _, _ =>
    if d.format = 0x20 then [(run.1, packBitsOf o.w fun i => (blitResult free t o d src i j).getD 0)]
    else pixelRuns (fmtBpp d.format / 8) run.1 ((List.range o.w).map fun i => blitResult free t o d src i j)

/-- The plane 1 run that an operation writes with destination line `j` of a planar surface (R331, R334). -/
def blitChroma (t : State) (o : TwoDOp) (d : Surface) (src : Option Surface) (j : Nat) : Nat × List Byte :=
  let run := d.chromaRun o.dx (d.chromaLine (o.dy + j)) o.w
  match src with
  | some u =>
    let from_ := u.chromaRun o.sx (u.chromaLine (o.sy + j)) o.w
    (run.1, readDataFuel t (from_.2 / 128 + 2) from_.1 from_.2)
  | none =>
    let n := if d.format = 0x10 then 1 else 2
    (run.1, cycleBytes (leBytes n (o.num 0x2A 2) ++ leBytes n (o.num 0x2C 2)) run.2)

/-- The runs that encode tile (col, row) of a compressed destination (R105, R107, R339). -/
def blitTileRuns (free : Nat) (t : State) (o : TwoDOp) (d u : Surface) (col row : Nat) : List (Nat × List Byte) :=
  let px := (List.range 1024).map fun k =>
    let x := 64 * col + k % 64
    let y := 16 * row + k / 64
    if x < d.width ∧ y < d.height then blitPixel free t u (o.sx + (x - o.dx)) (o.sy + (y - o.dy)) else 0
  let (entry, slot) := encodeTile d.format px
  let a := d.tileAt col row
  (if slot.isEmpty then [] else [(a.1, slot)]) ++ [(a.2, entry)]

/-! ### Bursts (R346) -/

/-- Charges of the bursts of a line of an access: 64-byte units in groups of BURST / 64, each with 64 bytes of dead-time. -/
def lineBursts (burst : Nat) (r : Nat × Nat) : List Nat :=
  let u := if r.2 = 0 then 0 else (r.1 + r.2 - 1) / 64 + 1 - r.1 / 64
  let k := burst / 64
  (List.range (ceilDiv u k)).map fun i => 64 * min k (u - k * i) + 64

/-- Charges of the bursts of a compressed tile: its entry, and its slot. -/
def tileBursts (burst : Nat) : List Nat := 128 :: List.replicate (4096 / burst) (burst + 64)

/-- Bursts of the source that the lane of destination line `j` needs: its lines, or the tiles of a tile row that begins. -/
def sourceBursts (burst : Nat) (o : TwoDOp) (src : Option Surface) (j : Nat) : List Nat :=
  match src with
  | none => []
  | some u =>
    let y := o.sy + j
    if u.compressed then
      if j = 0 ∨ y % 16 = 0 then (List.range ((o.sx + o.w - 1) / 64 + 1 - o.sx / 64)).flatMap fun _ => tileBursts burst else []
    else
      lineBursts burst (u.lineRun o.sx y o.w) ++
        (if fmtPlanar u.format ∧ (¬fmt420 u.format ∨ j % 2 = 0) then lineBursts burst (u.chromaRun o.sx (u.chromaLine y) o.w) else [])

/-- Bursts of the destination on line `j`: its read where the operation uses D, and its write, twice to a twin. -/
def destBursts (burst : Nat) (twin : Bool) (o : TwoDOp) (d : Surface) (j : Nat) : List Nat :=
  let line := lineBursts burst (d.lineRun o.dx (o.dy + j) o.w)
  (if o.readsD then line else []) ++ line ++ (if twin then line else [])

/-- Bursts of the chroma line written with destination line `j`. -/
def chromaBursts (burst : Nat) (twin : Bool) (o : TwoDOp) (d : Surface) (j : Nat) : List Nat :=
  let line := lineBursts burst (d.chromaRun o.dx (d.chromaLine (o.dy + j)) o.w)
  line ++ (if twin then line else [])

/-! ### The parts of an operation -/

/-- Destination line `j` as a part; of a planar 4:2:2 surface with its chroma line. -/
def linePart (free burst : Nat) (twin : Bool) (t : State) (o : TwoDOp) (d : Surface) (src : Option Surface) (j : Nat) : TwoDPart :=
  let chroma := d.format == 0x13
  { lines := 1
    runs := blitLine free t o d src j ++ (if chroma then [blitChroma t o d src j] else [])
    bursts := sourceBursts burst o src j ++ destBursts burst twin o d j ++ (if chroma then chromaBursts burst twin o d j else []) }

/-- Destination lines `j` and `j + 1` of a 4:2:0 surface with their chroma line as a part (R344). -/
def pairPart (free burst : Nat) (twin : Bool) (t : State) (o : TwoDOp) (d : Surface) (src : Option Surface) (j : Nat) : TwoDPart :=
  { lines := 2
    runs := blitLine free t o d src j ++ blitLine free t o d src (j + 1) ++ [blitChroma t o d src j]
    bursts := sourceBursts burst o src j ++ sourceBursts burst o src (j + 1) ++ destBursts burst twin o d j ++
      destBursts burst twin o d (j + 1) ++ chromaBursts burst twin o d j }

/-- A row of tiles of a compressed destination as a part. -/
def tilePart (free burst : Nat) (twin : Bool) (t : State) (o : TwoDOp) (d u : Surface) (row : Nat) : TwoDPart :=
  let first := 16 * row - o.dy
  let n := min 16 (o.h - first)
  let cols := (List.range ((o.dx + o.w - 1) / 64 + 1 - o.dx / 64)).map (o.dx / 64 + ·)
  { lines := n
    runs := cols.flatMap fun c => blitTileRuns free t o d u c row
    bursts := ((List.range n).flatMap fun k => sourceBursts burst o (some u) (first + k)) ++
      cols.flatMap fun _ => tileBursts burst ++ (if twin then tileBursts burst else []) }

/-- The parts of an operation in the order in which its engine writes them (R340). -/
def blitParts (free burst : Nat) (twin up : Bool) (t : State) (o : TwoDOp) (d : Surface) (src : Option Surface) : List TwoDPart :=
  let l :=
    if d.compressed then
      (List.range ((o.dy + o.h - 1) / 16 + 1 - o.dy / 16)).map fun r => tilePart free burst twin t o d (src.getD {}) (o.dy / 16 + r)
    else if fmt420 d.format then (List.range (o.h / 2)).map fun k => pairPart free burst twin t o d src (2 * k)
    else (List.range o.h).map (linePart free burst twin t o d src)
  let l := if up then l.reverse else l
  match l, o.readsP with
  | p :: r, true => { p with bursts := lineBursts burst (o.patAddr, patternBytes d.format) ++ p.bursts } :: r
  | l, _ => l

end Sys2Proof.Machine
end

