-- ==== Sys2Proof/Machine/TwoD.lean ====
section
/-! DEFINITION. Opcodes of family 0x06 and the life of a job on its engine: it begins, its bursts are issued, its lines land, it
completes (file 11). -/
namespace Sys2Proof.Machine

open Sys2Proof

/-! ### Queuing (R327) -/

/-- The job is queued on its engine, whose domain is ON; its surfaces are attached from now on (R327, R329, R480). With both
engines out of service the manual gives no status: ST_DEVICE_ABSENT (log 22). -/
def queueJob (batch : Bool) (ops : List TwoDOp) (b : Barge) (s : State) : State :=
  if engineOut s 0 && engineOut s 1 then complete b (freeReply stDeviceAbsent s) s
  else
    let e := jobEngine b s
    let s := s.mapEngine e fun x => { x with queue := x.queue ++ [{ barge := b, ops, batch }] }
    refreshSurfaces (s.mapPower fun p => { p with idleOff := p.idleOff.filter (· != 57 + e) })

/-- Checks of BLT_COPY; R330, R333, R351. -/
def bltCopyCheck (b : Barge) (s : State) : Option Reply := twoDChecks false b s
/-- BLT_COPY starts; R333, R351. -/
def bltCopyApply (b : Barge) (s : State) : State := queueJob false [TwoDOp.ofBarge b] b s
/-- BLT_COPY; R351. -/
def execBltCopy (b : Barge) (s : State) : Out := barge bltCopyCheck bltCopyApply b s

/-- Checks of BLT_FILL; R330, R334, R351. -/
def bltFillCheck (b : Barge) (s : State) : Option Reply := twoDChecks false b s
/-- BLT_FILL starts; R334, R351. -/
def bltFillApply (b : Barge) (s : State) : State := queueJob false [TwoDOp.ofBarge b] b s
/-- BLT_FILL; R351. -/
def execBltFill (b : Barge) (s : State) : Out := barge bltFillCheck bltFillApply b s

/-- Checks of BLT_ROP3; R330, R335, R352. -/
def bltRop3Check (b : Barge) (s : State) : Option Reply := twoDChecks false b s
/-- BLT_ROP3 starts; R335, R352. -/
def bltRop3Apply (b : Barge) (s : State) : State := queueJob false [TwoDOp.ofBarge b] b s
/-- BLT_ROP3; R352. -/
def execBltRop3 (b : Barge) (s : State) : Out := barge bltRop3Check bltRop3Apply b s

/-- Checks of BLT_MONO_EXPAND; R330, R337, R353. -/
def bltMonoExpandCheck (b : Barge) (s : State) : Option Reply := twoDChecks false b s
/-- BLT_MONO_EXPAND starts; R337, R353. -/
def bltMonoExpandApply (b : Barge) (s : State) : State := queueJob false [TwoDOp.ofBarge b] b s
/-- BLT_MONO_EXPAND; R353. -/
def execBltMonoExpand (b : Barge) (s : State) : Out := barge bltMonoExpandCheck bltMonoExpandApply b s

/-- Checks of BLT_ALPHA; R330, R338, R354. -/
def bltAlphaCheck (b : Barge) (s : State) : Option Reply := twoDChecks false b s
/-- BLT_ALPHA starts; R338, R354. -/
def bltAlphaApply (b : Barge) (s : State) : State := queueJob false [TwoDOp.ofBarge b] b s
/-- BLT_ALPHA; R354. -/
def execBltAlpha (b : Barge) (s : State) : Out := barge bltAlphaCheck bltAlphaApply b s

/-- Checks of BLT_CONVERT; R330, R339, R355. -/
def bltConvertCheck (b : Barge) (s : State) : Option Reply := twoDChecks false b s
/-- BLT_CONVERT starts; R339, R355. -/
def bltConvertApply (b : Barge) (s : State) : State := queueJob false [TwoDOp.ofBarge b] b s
/-- BLT_CONVERT; R355. -/
def execBltConvert (b : Barge) (s : State) : Out := barge bltConvertCheck bltConvertApply b s

/-! ### BLT_BATCH (R357) -/

/-- Checks of BLT_BATCH; R357. -/
def bltBatchCheck (b : Barge) (s : State) : Option Reply :=
  let n := b.pay 8 2
  firstFail [ lenIs b 16, reservedBytes b 0x0B 5,
    fieldIf b 0 8 (b.pay 0 8 % 64 != 0), fieldIf b 8 2 (n = 0 || decide (4096 < n)),
    fieldIf b 0x0A 1 (decide (1 < b.pay 0x0A 1) && b.pay 0x0A 1 != 0xFF),
    fieldIf b 0 8 (hostRegion s (b.pay 0 8) (128 * n)).isNone ]

/-- An entry of a batch written as a barge of its own: header with OPCODE and PAYLOAD_LEN, then the payload (R357). -/
def entryBarge (ring : Nat) (l : List Byte) : Barge :=
  let n := leNat (slice l 2 2)
  { ring, bytes := slice l 0 2 ++ leBytes 2 0 ++ leBytes 2 n ++ List.replicate 58 0 ++ slice l 8 (min n 120) }

/-- The checks of an entry (R330, R357). -/
def entryChecks (ring : Nat) (l : List Byte) (s : State) : Option Reply :=
  let op := leNat (slice l 0 2)
  if op < 0x0601 ∨ 0x0606 < op then some (freeReply stBadField s)
  else if leNat (slice l 4 4) ≠ 0 then some (freeReply stReservedSet s)
  else twoDChecks true (entryBarge ring l) s

/-- Report body of BLT_BATCH (R357). -/
def batchBody (entry done : Nat) : List Byte := leBytes 4 entry ++ leBytes 4 done ++ leBytes 8 0

/-- BLT_BATCH starts: its list is read and every entry checked, in order, before it is queued (R330, R357). -/
def bltBatchApply (b : Barge) (s : State) : State :=
  let (got, _, s) := devRead 0x02 4 (b.pay 0 8) (128 * b.pay 8 2) s
  let bytes := got.map fun o => o.getD 0xFF
  let entries := (List.range (b.pay 8 2)).map fun i => slice bytes (128 * i) 128
  match entries.zipIdx.findSome? fun x => (entryChecks b.ring x.1 s).map fun r => (r, x.2) with
  | some (r, i) => complete b { r with executed := true, report := some (batchBody i 0) } s
  | none => queueJob true (entries.map fun l => TwoDOp.ofBarge (entryBarge b.ring l)) b s

/-- BLT_BATCH; R357. -/
def execBltBatch (b : Barge) (s : State) : Out := barge bltBatchCheck bltBatchApply b s

/-! ### Reservations (R348, R356) -/

/-- Credit accrued up to now, in millionths of a byte (R347). -/
def accrueCredit (rate cap credit since now : Nat) : Nat := min (cap * 1000000) (credit + rate * (now - since))

/-- The engine's credit brought up to date. -/
def accrueEngine (e : Nat) (s : State) : State :=
  s.mapEngine e fun x =>
    { x with credit := if x.rate = 0 then 0 else accrueCredit x.cost 16384 x.credit x.creditTime s.time, creditTime := s.time }

/-- Checks of TWO_D_RESERVE; R356. -/
def twoDReserveCheck (b : Barge) (_ : State) : Option Reply :=
  firstFail [ lenIs b 16, reservedBytes b 2 6, reservedBytes b 0x0C 4,
    fieldIf b 0 1 (decide (1 < b.pay 0 1)), fieldIf b 1 1 (decide (3 < b.pay 1 1)),
    fieldIf b 8 4 (decide (32000000 < b.pay 8 4)) ]

/-- An engine without its reservation (R346, R356). -/
def Engine.unreserved (x : Engine) : Engine := { x with rate := 0, burst := 256, credit := 0 }

/-- The reservation of an engine is removed: at once, or when the jobs before the barge have completed (R356). -/
def twoDReserveRemoveApply (b : Barge) (s : State) : State :=
  let e := b.pay 0 1
  let n := (s.engine e).jobs.length
  if n = 0 then complete b .ok (readmitIf (s.mapEngine e Engine.unreserved))
  else s.mapEngine e fun x => { x with removals := x.removals ++ [(b, n)] }

/-- Effect of TWO_D_RESERVE: admitted, and in force for the jobs that begin from now on (R348, R356). -/
def twoDReserveApply (b : Barge) (s : State) : State :=
  let e := b.pay 0 1
  if b.pay 8 4 = 0 then twoDReserveRemoveApply b s
  else
    let new := (accrueEngine e s).mapEngine e fun x =>
      { x with rate := b.pay 8 4, burst := 64 * 2 ^ b.pay 1 1 }
    match runAdmission s { rest := s.mapEngine e Engine.unreserved, new } with
    | (some r, _) => complete b r s
    | (none, body) => complete b { report := some body } (readmitIf new)

/-- TWO_D_RESERVE; R356. -/
def execTwoDReserve (b : Barge) (s : State) : Out := bargeSync twoDReserveCheck twoDReserveApply b s

/-- Checks of TWO_D_RESERVE with RATE_KBS 0; R356. -/
def twoDReserveRemoveCheck (b : Barge) (s : State) : Option Reply := twoDReserveCheck b s

/-- TWO_D_RESERVE with RATE_KBS 0; R356. -/
def execTwoDReserveRemove (b : Barge) (s : State) : Out := bargeSync twoDReserveRemoveCheck twoDReserveRemoveApply b s

/-! ### Progress (R344, R345) -/

/-- Source lines `y0` to `y1 − 1` of a raced surface are newly passed: the tiles that show them are damaged (Table 4-4, R150). -/
def damageLines (u : Surface) (y0 y1 : Nat) (s : State) : State :=
  if y1 ≤ y0 then s
  else s.layers.foldl (fun s l =>
    if decide (l.state ≠ .unassigned) && l.active.has u.handle && l.active.kind == 2 && l.active.enable &&
        decide ((s.pipe l.pipe).state = .running) then
      markDamage l.pipe (srcTiles (s.pipe l.pipe).cfg l.active 0 ((u.width : Int) - 1) y0 ((y1 : Int) - 1)) s
    else s) s

/-- The progress of a raced-bound surface rises (R344). -/
def raiseProgress (h p : Nat) (s : State) : State :=
  match s.surface h, racedPipe s h with
  | some u, some _ => damageLines u u.watermark p (s.mapSurface u.index fun x => { x with watermark := p })
  | _, _ => s

/-- EV_2D_WATERMARK (R345). -/
def raiseWatermark (e : Nat) (up : Bool) (lines h : Nat) (s : State) : State :=
  raise (100 + e) 0x0601 (leBytes 1 e ++ leBytes 1 (b2n up) ++ leBytes 2 lines ++ leBytes 8 h) s

/-- Lines of a job's operation have landed: the events of the steps reached, and the progress (R344, R345). -/
def passLines (e : Nat) (o : TwoDOp) (up : Bool) (old new : Nat) (s : State) : State :=
  let s := if o.watermark && o.wmStep != 0 then
      (List.range (new / o.wmStep - old / o.wmStep)).foldl (fun s k =>
        raiseWatermark e up ((old / o.wmStep + 1 + k) * o.wmStep) o.handles.1 s) s
    else s
  if o.watermark && !up then raiseProgress o.handles.1 (o.dy + new) s else s

/-- An operation has ended: the event at completion, and P becomes HEIGHT (R344, R345). -/
def endOperation (e : Nat) (j : TwoDJob) (s : State) : State :=
  match j.ops[j.cur]? with
  | none => s
  | some o =>
    let s := contentWritten (o.writeRanges s) s
    let s := if o.watermark && o.wmStep != 0 then raiseWatermark e j.bottomUp j.landed o.handles.1 s else s
    if o.watermark && !j.bottomUp then
      match s.surface o.handles.1 with
      | some u => raiseProgress o.handles.1 u.height s
      | none => s
    else s

/-! ### TWO_D_JOB_BEGIN (R327, R328, R344) -/

/-- A watermark job on a surface that is raced-bound to a RUNNING pipe waits for the pipe's next t_rel(0): it begins there,
before the lane has taken line 0 (R344). -/
def awaitsRelease (s : State) (o : TwoDOp) : Bool :=
  match racedPipe s o.handles.1 with
  | some p => decide ((s.pipe p).state = .running) &&
      !((s.pipe p).composing && ((s.pipe p).halves.take (s.pipe p).cfg.halfCount).all fun h => h.nextLine == 0 && !h.begun)
  | none => false

/-- The operation of a job begins: what it reads is read and its results are computed (R333, R340, R342). -/
def beginOperation (e : Nat) (j : TwoDJob) (o : TwoDOp) (s : State) : TwoDJob × State :=
  let d := (s.surface o.handles.1).getD {}
  let src := if o.readsS then s.surface o.handles.2 else none
  let up := o.bottomUp s
  let burst := if (s.engine e).rate = 0 then 256 else (s.engine e).burst
  let burst := if j.cur = 0 then burst else j.burst
  let (got, bad, s) := blitRead e (o.words s d src) s
  let parts := blitParts s.free burst (surfaceTwin s d) up (readImage got) o d src
  ({ j with burst, parts, landed := 0, bottomUp := up, bad := (j.bad ++ bad).eraseDups }, s.takeFree)

/-- A conflict with the job of the other engine, or a raced pipe, keeps an operation from beginning (R328, R344). -/
def beginBlocked (e : Nat) (o : TwoDOp) (s : State) : Bool :=
  (((s.engine (1 - e)).cur.bind fun k => if k.parts.isEmpty && decide (k.cur + 1 < k.ops.length) then none else k.ops[k.cur]?).toList.any fun k => twoDConflict s o k) ||
    (o.watermark && awaitsRelease s o)

/-- A job, or the next entry of the batch that runs, begins on its engine unless something keeps it (R327, R328, R344, R357). -/
def beginJob (e : Nat) (j : TwoDJob) (s : State) : State :=
  match j.ops[j.cur]? with
  | none => s
  | some o =>
    if beginBlocked e o s then s
    else
      let first := j.cur = 0
      let s := match (s.engine e).cur with | some k => endOperation e k s | none => s
      let (j, s) := beginOperation e { j with beginTime := if first then s.time else j.beginTime } o s
      let s := s.mapEngine e fun x => { x with cur := some j, queue := if first then x.queue.tail else x.queue }
      let s := if first then markCommitted j.barge s else s
      if o.watermark && !j.bottomUp && (racedPipe s o.handles.1).isSome then
        match s.surface o.handles.1 with
        | some u => damageLines u o.dy (o.dy + o.h) (s.mapSurface u.index fun x => { x with watermark := o.dy })
        | none => s
      else s

/-- TWO_D_JOB_BEGIN; R327. -/
def execTwoDJobBegin (e : Nat) (s : State) : Out :=
  .next (if holding s || engineOut s e then s
    else match (s.engine e).cur, (s.engine e).queue with
      | some j, _ =>
        if j.parts.isEmpty && decide (j.cur + 1 < j.ops.length) then
          beginJob e { j with cur := j.cur + 1 } s
        else s
      | none, j :: _ => if s.mode.contain then s else beginJob e j s
      | none, [] => s)

/-! ### TWO_D_BURST (R346, R347) -/

/-- The first burst that has not been issued is issued. -/
def issueBurst : List TwoDPart → List TwoDPart
  | [] => []
  | p :: l => if p.bursts.isEmpty then p :: issueBurst l else { p with bursts := p.bursts.tail } :: l

/-- TWO_D_BURST: a burst is issued when the credit covers it, or when no other client waits (R347); none in HOLD (R348). -/
def execTwoDBurst (e : Nat) (others : Bool) (s : State) : Out :=
  let s := accrueEngine e s
  .next (if holding s then s
    else match (s.engine e).cur with
      | none => s
      | some j =>
        match (j.parts.flatMap (·.bursts)).head? with
        | none => s
        | some c =>
          let paid := (s.engine e).rate != 0 && decide (c * 1000000 ≤ (s.engine e).credit)
          if paid || !others then
            s.mapEngine e fun x =>
              { x with cur := some { j with parts := issueBurst j.parts }
                       credit := if paid then x.credit - c * 1000000 else x.credit }
          else s)

/-! ### TWO_D_LINE_LANDED and TWO_D_JOB_COMPLETE -/

/-- Codewords of a run that lie on lost memory: their part of a write is dropped (R342). -/
def droppedWords (s : State) (r : Nat × List Byte) : List Nat := (runWords (r.1, r.2.length)).filter (wordLost s)

/-- TWO_D_LINE_LANDED; R342, R344, R345. -/
def execTwoDLineLanded (e : Nat) (s : State) : Out :=
  .next (match (s.engine e).cur with
    | none => s
    | some j =>
      match j.parts, j.ops[j.cur]? with
      | p :: rest, some o =>
        if !p.bursts.isEmpty then s
        else
          let bad := p.runs.flatMap (droppedWords s)
          let s := p.runs.foldl (fun s r => devWrite r.1 r.2 s) s
          let s := s.mapEngine e fun x =>
            { x with cur := some { j with parts := rest, landed := j.landed + p.lines, bad := (j.bad ++ bad).eraseDups } }
          passLines e o j.bottomUp j.landed (j.landed + p.lines) s
      | _, _ => s)

/-- Removals of the engine's reservation that no job precedes any more take effect (R356). -/
def settleRemovals (e : Nat) (s : State) : State :=
  let due := (s.engine e).removals.filter fun r => r.2 ≤ 1
  let s := s.mapEngine e fun x => { x with removals := (x.removals.filter fun r => 1 < r.2).map fun r => (r.1, r.2 - 1) }
  if due.isEmpty then s
  else readmitIf (due.foldl (fun s r => complete r.1 .ok s) (s.mapEngine e Engine.unreserved))

/-- Outcome of a job (R342, R351, R357). -/
def jobReply (j : TwoDJob) : Reply :=
  if j.batch then { detail := j.ops.length, report := some (batchBody 0xFFFFFFFF j.ops.length) }
  else .ok (min j.bad.length (2 ^ 32 - 1))

/-- TWO_D_JOB_COMPLETE; R329, R342, R351. -/
def execTwoDJobComplete (e : Nat) (s : State) : Out :=
  done (match (s.engine e).cur with
    | none => s
    | some j =>
      if !j.parts.isEmpty || decide (j.cur + 1 < j.ops.length) then s
      else
        let s := endOperation e j s
        let s := s.mapEngine e fun x => { x with cur := none, idleSince := if x.queue.isEmpty then s.time else x.idleSince }
        settleRemovals e (refreshSurfaces (complete j.barge (jobReply j) s)))

end Sys2Proof.Machine
end

