-- ==== Sys2Proof/Machine/CheckValue.lean ====
section
/-! DEFINITION. Check-value channels: opcodes of family 0x07, descriptor chains, the classes of mismatches, and signature
records with frozen-output detection (file 13). -/
namespace Sys2Proof.Machine

open Sys2Proof

/-! ### Configurations (R390 to R392) -/

/-- The CRC-64S configuration of a privileged channel loaded (Table 13-1, R389). -/
def Channel.loadCrc64 (x : Channel) : Channel :=
  { x with
    privileged := true, fold := 0, invert := true, refout := true, refin := true, width := 64
    poly := 0x42F0E1EBA9EA3693, init := 0xFFFFFFFFFFFFFFFF, running := 0xFFFFFFFFFFFFFFFF, seq := 0, bytes := 0, rate := 0 }

/-- The running value after a block (R390, R392): START, the fold bytes, then the data. -/
def Channel.process (x : Channel) (start : Bool) (addr : Nat) (data : List Byte) : Channel :=
  let r := if start then x.init else x.running
  let fold := if x.fold = 1 then leBytes 8 addr else if x.fold = 2 then leBytes 8 x.seq else []
  { x with
    running := crcRun x.width x.poly x.refin r (fold ++ data)
    seq := if x.fold = 2 then (x.seq + 1) % 2 ^ 64 else x.seq
    bytes := ((if start then 0 else x.bytes) + data.length) % 2 ^ 64 }

/-- The check value of the running value: FINISH (R390). -/
def Channel.finish (x : Channel) : Nat := crcOut x.width x.refout x.invert x.running

/-- Descriptor queue of a channel (Table 12-1). -/
def cvQueue (c : Nat) : Nat := 48 + c

/-! ### Checks shared by the family (R387) -/

/-- CHANNEL in range, and not a privileged channel: condition 0x10 (R387). -/
def generalChannel (b : Barge) (s : State) : List (Option Reply) :=
  [ fieldIf b 0 1 (decide (15 < b.pay 0 1)), failIf (privilegedChannel s (b.pay 0 1)) (.checkFailed stNotPermitted 0x10) ]

/-- Checks of CV_CONFIG; R390, R392, R410. -/
def cvConfigCheck (b : Barge) (s : State) : Option Reply :=
  let w := b.pay 1 1
  firstFail ([lenIs b 32] ++ generalChannel b s ++
    [ reservedBits b 2 0xC8, reservedBytes b 3 5,
      fieldIf b 1 1 (decide (w < 8) || decide (64 < w)), fieldIf b 2 1 (field (b.pay 2 1) 5 4 == 3),
      fieldIf b 8 8 (decide (2 ^ w ≤ b.pay 8 8) || b.pay 8 8 % 2 == 0), fieldIf b 0x10 8 (decide (2 ^ w ≤ b.pay 0x10 8)) ])

/-- The chain array and the results of a CV_DMA. -/
def cvRanges (b : Barge) : (Nat × Nat) × (Nat × Nat) := ((b.pay 8 8, 32 * b.pay 4 4), (b.pay 0x10 8, 16 * b.pay 4 4))

/-- Checks of CV_DMA; R411. -/
def cvDmaCheck (b : Barge) (s : State) : Option Reply :=
  let (chain, result) := cvRanges b
  firstFail ([lenIs b 24] ++ generalChannel b s ++
    [ reservedBits b 1 0xFE, reservedBytes b 2 2,
      fieldIf b 4 4 (b.pay 4 4 = 0 || decide (65536 < b.pay 4 4)),
      fieldIf b 8 8 (chain.1 % 32 != 0 || (hostRegion s chain.1 chain.2).isNone),
      fieldIf b 0x10 8 (result.1 != 0 &&
        (result.1 % 16 != 0 || (hostRegion s result.1 result.2).isNone || rangesMeet chain result)) ])

/-- Checks of CV_CONTEXT_SAVE, which may name a privileged channel; R387, R412. -/
def cvContextSaveCheck (b : Barge) (_ : State) : Option Reply :=
  firstFail [ lenIs b 8, reservedBytes b 1 7, fieldIf b 0 1 (decide (15 < b.pay 0 1)) ]

/-- Checks of CV_CONTEXT_LOAD; the bound of RUNNING is that of the configuration in force when it acts; R413. -/
def cvContextLoadCheck (b : Barge) (s : State) : Option Reply :=
  firstFail ([lenIs b 24] ++ generalChannel b s ++ [ reservedBytes b 1 7 ])

/-- Checks of CV_RESERVE; R415. -/
def cvReserveCheck (b : Barge) (s : State) : Option Reply :=
  firstFail ([lenIs b 16] ++ generalChannel b s ++
    [ reservedBytes b 1 7, reservedBytes b 0x0C 4, fieldIf b 8 4 (decide (25600000 < b.pay 8 4)) ])

/-! ### Reports (R411, R412) -/

/-- The register block of a channel (Table 13-6); STATE is never HASHING between commands (log 24). -/
def channelBlock (x : Channel) : List Byte :=
  leBytes 4 (x.order.tail.length * 2 ^ 24 + x.fold * 2 ^ 20 + b2n x.invert * 2 ^ 19 + b2n x.refout * 2 ^ 18 + b2n x.refin * 2 ^ 17 +
    b2n x.privileged * 2 ^ 16 + b2n x.chain.isSome * 2 ^ 8 + x.width) ++ leBytes 4 0 ++
  leBytes 8 x.poly ++ leBytes 8 x.init ++ leBytes 8 x.running ++ leBytes 8 x.seq ++ leBytes 8 x.bytes ++
  leBytes 4 x.rate ++ leBytes 4 x.mismatches ++ leBytes 4 x.descriptors ++ leBytes 4 x.suspects

/-- The signing block of a link (Table 13-7). -/
def signBytes (x : SignBlock) : List Byte :=
  leBytes 4 (b2n x.en * 2 ^ 31 + b2n x.frozen * 2 ^ 30 + b2n x.stale * 2 ^ 29 + b2n x.freezeAction * 2 ^ 28 + x.freezeFrames * 2 ^ 16 +
    x.sameOut * 2 ^ 8 + x.sameCam) ++ leBytes 4 x.alive ++ leBytes 4 (x.series * 2 ^ 16 + x.sigQueue * 2 ^ 8) ++
  leBytes 4 x.dropped ++ leBytes 8 x.lastSig ++ leBytes 8 x.logAddr ++ leBytes 4 x.logEntries ++ leBytes 4 x.logNext ++
  leBytes 4 (x.lastPc.getD 0) ++ leBytes 4 x.identical ++ leBytes 4 x.frozenEvents ++ leBytes 4 x.staleEvents ++ leBytes 8 0

/-- CV_CONTEXT_SAVE acts: RUNNING and the register blocks; R412. -/
def saveContext (b : Barge) (s : State) : State :=
  let c := b.pay 0 1
  let x := s.chan c
  let links := if x.privileged then [0, 4, 8].flatMap fun k => signBytes (s.signBlock (k + c % 4)) else List.replicate 192 0
  complete b { detail := x.running, report := some (channelBlock x ++ links) } s

/-! ### Descriptors (R395, R396) -/

/-- A descriptor (Table 13-2). -/
structure Descriptor where
  /-- ADDR. -/
  addr : Nat := 0
  /-- LENGTH. -/
  length : Nat := 0
  /-- DFLAGS. -/
  flags : Nat := 0
  /-- Reserved bytes. -/
  reserved : Nat := 0
  /-- EXPECT. -/
  expect : Nat := 0
  /-- TAG. -/
  tag : Nat := 0
  deriving DecidableEq, Repr, Inhabited

/-- The descriptor that 32 bytes hold. -/
def descriptorOf (l : List Byte) : Descriptor :=
  { addr := leNat (slice l 0 8), length := leNat (slice l 8 4), flags := leNat (slice l 0x0C 2), reserved := leNat (slice l 0x0E 2)
    expect := leNat (slice l 0x10 8), tag := leNat (slice l 0x18 8) }

/-- Bytes of a stored expected value (R395). -/
def expectRange (x : Channel) (d : Descriptor) : Nat × Nat := (d.addr + d.length, ceilDiv x.width 8)

/-- A descriptor is as R395 requires. -/
def descriptorGood (s : State) (x : Channel) (d : Descriptor) : Bool :=
  let f := fun i => bit d.flags i
  decide (1 ≤ d.length) && decide (d.length ≤ 268435456) && decide (d.flags < 32) && d.reserved == 0 &&
    (!f 2 || f 1) && (!f 4 || (f 2 && f 3)) && (hostRegion s d.addr d.length).isSome &&
    (!f 3 || (hostRegion s (expectRange x d).1 (expectRange x d).2).isSome) && (!f 4 || (hostRegion s d.expect 32).isSome)

/-- The descriptors of a list of bytes that are good, up to the first that is not. -/
def goodPrefix (s : State) (x : Channel) : List (List Byte) → List (List Byte)
  | [] => []
  | l :: r => if descriptorGood s x (descriptorOf l) then l :: goodPrefix s x r else []

/-- Firmware puts descriptors into the channel's queue, up to 8 in each item, while it has room (R396); `fuel` bounds the items. -/
def feedChannel (c : Nat) : Nat → State → State
  | 0, s => s
  | fuel + 1, s =>
    let x := s.chan c
    match x.chain with
    | none => s
    | some ch =>
      let n := min 8 (ch.barge.pay 4 4 - ch.put)
      if n = 0 || ch.error.isSome || !queueHasRoom s (cvQueue c) 256 then s
      else
        let (got, _, s) := devRead 0x02 4 (ch.barge.pay 8 8 + 32 * ch.put) (32 * n) s
        let bytes := got.map fun o => o.getD 0xFF
        let good := goodPrefix s x ((List.range n).map fun i => slice bytes (32 * i) 32)
        let s := if good.isEmpty then s else (putItem (cvQueue c) good.flatten s).getD s
        let bad := if good.length < n then some (ch.put + good.length) else none
        feedChannel c fuel (s.mapChan c fun x => { x with chain := some { ch with put := ch.put + good.length, error := bad } })

/-- Items that the queue of a channel can hold (Table 12-1). -/
def cvItems : Nat := 16

/-! ### Channel order (R388) -/

/-- Outcome of a chain (R396, R401, R411). -/
def chainReply (ch : CvChain) : Reply :=
  let ended := match ch.error with | some i => if ch.next = i then some i else none | none => none
  let (index, cls, v, e, tag) := ch.first.getD (0xFFFFFFFF, 0, 0, 0, 0)
  { status := if ended.isSome then stBadField else stOk
    detail := match ended with
      | some i => 0x48 + i * 2 ^ 32
      | none => ch.next + min 0xFFFF ch.mismatches * 2 ^ 32 + cls * 2 ^ 48
    report := some (leBytes 4 index ++ leBytes 1 cls ++ leBytes 3 0 ++ leBytes 8 v ++ leBytes 8 e ++ leBytes 8 tag ++
      leBytes 8 ch.bytes ++ leBytes 4 (ended.getD 0xFFFFFFFF) ++ leBytes 4 0) }

/-- The descriptor queue of a channel emptied. -/
def emptyCvQueue (c : Nat) (s : State) : State :=
  if (s.queue (cvQueue c)).state = .absent then s
  else (qFlush (cvQueue c) s).mapQueue (cvQueue c) fun x => { x with flushPending := false, voiding := false }

/-- The barge in progress on a channel has ended. -/
def leaveOrder (c : Nat) (s : State) : State := s.mapChan c fun x => { x with order := x.order.tail, chain := none }

/-- The chain in progress ends with a reply. -/
def endChain (c : Nat) (r : Reply) (s : State) : State :=
  match (s.chan c).chain with
  | none => s
  | some ch => complete ch.barge r (leaveOrder c (emptyCvQueue c s))

/-- The chain has nothing left to process. -/
def CvChain.isOver (ch : CvChain) : Bool :=
  decide (ch.barge.pay 4 4 ≤ ch.next) || ch.error == some ch.next || (bit (ch.barge.pay 1 1) 0 && decide (0 < ch.mismatches))

/-- Configuration of CV_CONFIG loaded (R410). -/
def loadConfig (b : Barge) (x : Channel) : Channel :=
  let f := b.pay 2 1
  { x with
    width := b.pay 1 1, refin := bit f 0, refout := bit f 1, invert := bit f 2, fold := field f 5 4
    poly := b.pay 8 8, init := b.pay 0x10 8, running := b.pay 0x10 8, seq := b.pay 0x18 8, bytes := 0 }

/-- The reservation of a channel is released with its queue (R394, R415). -/
def releaseChannel (c : Nat) (s : State) : State :=
  if (s.chan c).rate = 0 then s
  else readmitIf (deleteQueue (cvQueue c) (s.mapChan c fun x => { x with rate := 0, credit := 0 }))

/-- The barge at the head of a channel's order acts; a CV_DMA makes its chain the one in progress (R388, R394). -/
def actHead (c : Nat) (b : Barge) (s : State) : State :=
  match b.opcode with
  | 0x0701 => complete b .ok (leaveOrder c (s.mapChan c (loadConfig b)))
  | 0x0702 =>
    if (s.chan c).rate = 0 then complete b (wrongState s 0) (leaveOrder c s)
    else
      let s := s.mapChan c fun x =>
        { x with chain := some { barge := b }, credit := accrueCredit x.rate 16384 x.credit x.creditTime s.time, creditTime := s.time }
      feedChannel c cvItems s
  | 0x0703 => leaveOrder c (saveContext b s)
  | 0x0704 =>
    let x := s.chan c
    if 2 ^ x.width ≤ b.pay 8 8 then complete b (badField b 8 8) (leaveOrder c s)
    else complete b .ok (leaveOrder c (s.mapChan c fun x => { x with running := b.pay 8 8, seq := b.pay 0x10 8, bytes := 0 }))
  | _ => complete b .ok (leaveOrder c (releaseChannel c s))

/-- The channel's barges act in order until one is a chain that runs; `fuel` bounds them (R388). -/
def runOrder (c : Nat) : Nat → State → State
  | 0, s => s
  | fuel + 1, s =>
    let x := s.chan c
    match x.order, x.chain with
    | w :: _, none => runOrder c fuel (actHead c w.barge s)
    | _, some ch => if ch.isOver then runOrder c fuel (endChain c (chainReply ch) s) else s
    | [], none => s

/-- Steps that a channel's order can take at once. -/
def orderFuel (s : State) (c : Nat) : Nat := 2 * (s.chan c).order.length + 2

/-- A barge joins the channel order (R388); a channel out of service takes no work: ST_DEVICE_ABSENT (DESIGN CHOICE, log 25). -/
def joinChannel (b : Barge) (s : State) : State :=
  let c := b.pay 0 1
  if (s.chan c).failed then complete b (freeReply stDeviceAbsent s) s
  else
    let s := s.mapChan c fun x => { x with order := x.order ++ [{ barge := b }] }
    runOrder c (orderFuel s c) s

/-! ### Opcodes -/

/-- Effect of CV_CONFIG, in channel order; R388, R410. -/
def cvConfigApply (b : Barge) (s : State) : State := joinChannel b s
/-- CV_CONFIG; R410. -/
def execCvConfig (b : Barge) (s : State) : Out := bargeSync cvConfigCheck cvConfigApply b s

/-- Effect of CV_DMA, in channel order; R388, R411. -/
def cvDmaApply (b : Barge) (s : State) : State := joinChannel b s
/-- CV_DMA; R411. -/
def execCvDma (b : Barge) (s : State) : Out := bargeSync cvDmaCheck cvDmaApply b s

/-- Effect of CV_CONTEXT_SAVE: at once for a privileged channel, else in channel order; R412. -/
def cvContextSaveApply (b : Barge) (s : State) : State :=
  if privilegedChannel s (b.pay 0 1) then saveContext b s else joinChannel b s
/-- CV_CONTEXT_SAVE; R412. -/
def execCvContextSave (b : Barge) (s : State) : Out := bargeSync cvContextSaveCheck cvContextSaveApply b s

/-- Effect of CV_CONTEXT_LOAD, in channel order; R413. -/
def cvContextLoadApply (b : Barge) (s : State) : State := joinChannel b s
/-- CV_CONTEXT_LOAD; R413. -/
def execCvContextLoad (b : Barge) (s : State) : Out := bargeSync cvContextLoadCheck cvContextLoadApply b s

/-- Effect of CV_RESERVE with RATE_KBS 0, in channel order; R415. -/
def cvReserveRemoveApply (b : Barge) (s : State) : State := joinChannel b s

/-- Effect of CV_RESERVE: admitted and in force at once; R394, R415. -/
def cvReserveApply (b : Barge) (s : State) : State :=
  let c := b.pay 0 1
  if b.pay 8 4 = 0 then cvReserveRemoveApply b s
  else if (s.chan c).failed then complete b (freeReply stDeviceAbsent s) s
  else
    let fresh := (s.chan c).rate = 0
    let new := s.mapChan c fun x =>
      { x with rate := b.pay 8 4, credit := accrueCredit x.rate 16384 x.credit x.creditTime s.time, creditTime := s.time }
    match runAdmission s { rest := s.mapChan c fun x => { x with rate := 0 }, new } with
    | (some r, _) => complete b r s
    | (none, body) =>
      complete b { report := some body } (readmitIf (if fresh then createQueue (cvQueue c) 0x02 (0x20 + c) true 16 1 new else new))

/-- CV_RESERVE; R415. -/
def execCvReserve (b : Barge) (s : State) : Out := bargeSync cvReserveCheck cvReserveApply b s

/-- Checks of CV_RESERVE with RATE_KBS 0; R415. -/
def cvReserveRemoveCheck (b : Barge) (s : State) : Option Reply := cvReserveCheck b s
/-- CV_RESERVE with RATE_KBS 0; R415. -/
def execCvReserveRemove (b : Barge) (s : State) : Out := bargeSync cvReserveRemoveCheck cvReserveRemoveApply b s

/-- Checks of FRAME_SIGN_SET; R366, R414. -/
def frameSignSetCheck (b : Barge) (s : State) : Option Reply :=
  let q := signQueue b
  let n := b.pay 4 4
  let x := s.queue q
  firstFail [ lenIs b 32, reservedBits b 1 0xFC, reservedBytes b 0x10 16,
    fieldIf b 0 1 (decide (11 < b.pay 0 1)), fieldIf b 2 1 (decide (b.pay 2 1 < 2) || decide (60 < b.pay 2 1)),
    fieldIf b 3 1 (q != 0 && decide (q < 192)), fieldIf b 4 4 (decide (65536 < n)),
    fieldIf b 8 8 (n != 0 && (b.pay 8 8 % 64 != 0 || (hostRegion s (b.pay 8 8) (64 * n)).isNone)),
    failIf (q != 0 && decide (x.state = .absent)) (badHandle q),
    failIf (q != 0 && x.producer != 0 && !(signQueues s (b.pay 0 1)).contains q) (freeReply stBusy s) ]

/-- FRAME_SIGN_SET starts: the queue is bound, and the settings wait for a frame record (R366, R414). -/
def frameSignSetApply (b : Barge) (s : State) : State :=
  let l := b.pay 0 1
  let s := bindProducer (signQueue b) (0x20 + 12 + l % 4) s
  s.mapSign l fun x => { x with sets := x.sets ++ [{ barge := b, start := s.time }] }

/-- FRAME_SIGN_SET; R414. -/
def execFrameSignSet (b : Barge) (s : State) : Out := barge frameSignSetCheck frameSignSetApply b s

/-! ### CV_DESCRIPTOR (R396 to R401) -/

/-- What a comparison found. -/
structure Compared where
  /-- RESULT: 0 not compared, 1 MATCH, 2 MISMATCH. -/
  result : Nat := 0
  /-- CLASS (Table 13-3). -/
  cls : Nat := 0
  /-- The value compared with. -/
  expected : Nat := 0
  /-- Bytes hashed. -/
  hashed : Nat := 0
  deriving DecidableEq, Repr, Inhabited

/-- The comparison of a FINISH, and its class (R399, R400): a stored value that cannot be read is a mismatch, and what it is
compared with a free value. -/
def compareBlock (c : Nat) (x : Channel) (d : Descriptor) (v : Nat) (data : List Byte) (unreadable : Bool) (s : State) :
    Compared × State :=
  if !bit d.flags 2 then ({}, s)
  else
    let inMem := bit d.flags 3
    let (e, ebad, s) := if inMem then devRead (0x20 + c) 4 (expectRange x d).1 (expectRange x d).2 s else ([], [], s)
    let expected := (if !inMem then d.expect else if ebad.isEmpty then leNat (e.map fun o => o.getD 0) else Config.freeNat s.free) % 2 ^ x.width
    if expected = v && ebad.isEmpty then ({ result := 1, expected }, s)
    else if unreadable then ({ result := 2, cls := 4, expected }, s)
    else if !ebad.isEmpty then ({ result := 2, cls := 5, expected }, s.takeFree)
    else if !bit d.flags 4 then ({ result := 2, cls := 3, expected }, s)
    else
      let (h, hbad, s) := devRead (0x20 + c) 4 d.expect 32 s
      if !hbad.isEmpty then ({ result := 2, cls := 6, expected }, s)
      else
        let same := sha256 data == h.map fun o => o.getD 0
        ({ result := 2, cls := if same then 2 else 1, expected, hashed := data.length }, s)

/-- 64-byte units that a range touches, in bytes (R397). -/
def unitCharge (r : Nat × Nat) : Nat := if r.2 = 0 then 0 else 64 * ((r.1 + r.2 - 1) / 64 + 1 - r.1 / 64)

/-- The channel's bursts for a charge, and the hashing, take their time: module time reaches the instant at which the credit
has covered the last burst (R397). -/
def spendCredit (c charge hashed : Nat) (s : State) : State :=
  let x := s.chan c
  let due := charge * 1000000
  let wait := if x.credit < due then ceilDiv (due - x.credit) (max 1 x.rate) else 0
  let s := s.atTime (x.creditTime + wait + hashed)
  s.mapChan c fun x => { x with credit := min (16384 * 1000000) (x.credit + x.rate * (s.time - x.creditTime) - due), creditTime := s.time }

/-- A mismatch is counted, and the first of its chain raises EV_CV_MISMATCH (R401). -/
def noteMismatch (c : Nat) (ch : CvChain) (d : Descriptor) (v : Nat) (k : Compared) (s : State) : State :=
  let first := ch.first.isNone
  let s := s.mapChan c fun x =>
    { x with
      mismatches := inc32 x.mismatches, suspects := if k.cls = 2 then inc32 x.suspects else x.suspects
      chain := some { ch with mismatches := ch.mismatches + 1, first := ch.first.or (some (ch.next, k.cls, v, k.expected, d.tag)) } }
  if first then raise (84 + c) 0x0701 (leBytes 1 c ++ leBytes 1 k.cls ++ leBytes 2 0 ++ leBytes 4 ch.next ++ leBytes 8 d.tag) s else s

/-- FINISH of a block: compared, and its result entry written (R399 to R401). -/
def finishBlock (c : Nat) (ch : CvChain) (d : Descriptor) (data : List Byte) (unreadable : Bool) (s : State) : Nat × State :=
  let x := s.chan c
  let v := x.finish
  let (k, s) := compareBlock c x d v data unreadable s
  let at_ := ch.barge.pay 0x10 8
  let s := if at_ = 0 then s
    else devWrite (at_ + 16 * ch.finishes) (leBytes 8 v ++ leBytes 1 k.result ++ leBytes 1 k.cls ++ leBytes 2 0 ++ leBytes 4 ch.next) s
  let ch := { ch with finishes := ch.finishes + 1 }
  let s := s.mapChan c fun x => { x with chain := some ch }
  (k.hashed, if k.result = 2 then noteMismatch c ch d v k s else s)

/-- A descriptor is processed (R390, R392, R396, R399). -/
def runDescriptor (c : Nat) (d : Descriptor) (s : State) : State :=
  match (s.chan c).chain with
  | none => s
  | some ch =>
    let s := if ch.begun then s else markCommitted ch.barge s
    let (got, bad, s) := devRead (0x20 + c) 4 d.addr d.length s
    let data := got.map fun o => o.getD 0xFF
    let s := s.mapChan c fun x =>
      { x.process (bit d.flags 0) d.addr data with descriptors := inc32 x.descriptors, chain := some { ch with begun := true } }
    let (hashed, s) := if bit d.flags 1 then finishBlock c { ch with begun := true } d data (!bad.isEmpty) s else (0, s)
    let stored := if bit d.flags 2 && bit d.flags 3 then unitCharge (expectRange (s.chan c) d) else 0
    let s := spendCredit c (unitCharge (d.addr, d.length) + stored) hashed s
    s.mapChan c fun x => { x with chain := x.chain.map fun ch => { ch with next := ch.next + 1, bytes := ch.bytes + d.length } }

/-- The next descriptor taken from the channel's queue. -/
def takeDescriptor (c : Nat) (s : State) : Option Descriptor × State :=
  let q := cvQueue c
  match (s.queue q).current with
  | none => (none, s)
  | some i =>
    let s := qGet q 32 s
    let d := if s.pound.code = .ok then some (descriptorOf s.pound.got) else none
    (d, if i.bytes.length ≤ (s.queue q).readOff then qNext q s else s)

/-- CV_DESCRIPTOR: the channel takes the next descriptor and processes it; not in HOLD (R396, R397). An item whose words
cannot be corrected ends the chain with ST_INTERNAL, as a poisoned payload does (R374; DEDUCED, log 26). -/
def execCvDescriptor (c : Nat) (s : State) : Out :=
  done (if holding s then s
    else match (s.chan c).chain with
      | none => s
      | some _ =>
        let s := if s.mode.contain then s else feedChannel c cvItems s
        if ((s.queue (cvQueue c)).current).isNone then s
        else
          match takeDescriptor c s with
          | (some d, s) =>
            let s := runDescriptor c d s
            let s := if s.mode.contain then s else feedChannel c cvItems s
            runOrder c (orderFuel s c) s
          | (none, s) =>
            let b := ((s.chan c).chain.map (·.barge)).getD {}
            let s := endChain c (.err stInternal s.faults.nextIndex) (internalRecord b s)
            runOrder c (orderFuel s c) s)

/-! ### A channel out of service (R389, R558) -/

/-- Every barge of a channel ends with a reply, and its reservation and queue go (R389). -/
def clearChannel (c : Nat) (r : Reply) (s : State) : State :=
  let s := endChain c { r with report := ((s.chan c).chain.bind fun ch => (chainReply ch).report) } s
  let waiting := (s.chan c).order
  releaseChannel c (waiting.foldl (fun s w => complete w.barge r s) (s.mapChan c fun x => { x with order := [] }))

/-- A channel fails: a privileged one hands its links to C(8 + j), whose host work ends with ST_STATE, object state 3; a
general one stops taking work (R389, R558). -/
def failChannel (c : Nat) (s : State) : State :=
  let s := s.mapChan c fun x => { x with failed := true }
  if c < 12 then (if (s.chan c).privileged then s else clearChannel c (freeReply stDeviceAbsent s) s)
  else
    let g := c - 4
    if (s.chan g).failed then s
    else (clearChannel g (wrongState s 3) s).mapChan g Channel.loadCrc64

/-! ### Signature records (R403 to R407) -/

/-- Bytes 0x00 to 0x1F of a frame record (Table 7-6). -/
def frameBytes (r : FrameRecord) : List Byte :=
  leBytes 8 r.frame ++ leBytes 8 r.time ++ leBytes 4 r.crc ++ leBytes 2 r.written ++ leBytes 2 r.held ++ leBytes 2 r.repeated ++
    leBytes 1 r.link ++ leBytes 1 r.rflags ++ leBytes 4 r.camFrame

/-- BLACK of a frame record. -/
def FrameRecord.black (r : FrameRecord) : Bool := bit r.rflags 2

/-- The judgement of a record against the previous one of its series (R406): the block, and IDENTICAL_INPUT. -/
def judge (first : Bool) (r : FrameRecord) (x : SignBlock) : SignBlock × Bool :=
  let prev := x.prev.getD {}
  if first || x.prev.isNone then ({ x with sameCam := 0, sameOut := 0, lastPc := r.pc, prev := some r }, false)
  else if r.black || prev.black || r.camFrame = 0 then ({ x with sameCam := 0, sameOut := 0, prev := some r }, false)
  else
    let sameCam := r.camFrame == prev.camFrame
    let ident := r.crc == prev.crc && !sameCam && r.pc.isSome && r.pc == x.lastPc
    ({ x with
        sameCam := if sameCam then satAdd 255 x.sameCam 1 else 0
        sameOut := if r.crc != prev.crc then 0 else if sameCam || ident then x.sameOut else satAdd 255 x.sameOut 1
        identical := if ident then inc32 x.identical else x.identical
        lastPc := r.pc, prev := some r }, ident)

/-- DATA of the events of R407. -/
def freezeData (l : Nat) (second : Nat) (r : FrameRecord) : List Byte := leBytes 1 l ++ leBytes 1 second ++ leBytes 2 0 ++ leBytes 8 r.frame

/-- FROZEN and STALE follow their counters (R407). -/
def freezeStates (l : Nat) (r : FrameRecord) (s : State) : State :=
  let x := s.signBlock l
  let s := if !x.frozen && decide (x.freezeFrames ≤ x.sameOut) then
      raise (60 + l) 0x0702 (freezeData l 0 r ++ leBytes 4 r.camFrame)
        (s.mapSign l fun x => { x with frozen := true, frozenEvents := inc32 x.frozenEvents })
    else if x.frozen && x.sameOut == 0 then raise (60 + l) 0x0704 (freezeData l 1 r) (s.mapSign l fun x => { x with frozen := false })
    else s
  if !x.stale && decide (x.freezeFrames ≤ x.sameCam) then
    raise (60 + l) 0x0703 (freezeData l 0 r ++ leBytes 4 r.camFrame)
      (s.mapSign l fun x => { x with stale := true, staleEvents := inc32 x.staleEvents })
  else if x.stale && x.sameCam == 0 then raise (60 + l) 0x0704 (freezeData l 0 r) (s.mapSign l fun x => { x with stale := false })
  else s

/-- The series and ALIVE of the next record: first of a series, and by wrapping (R404). -/
def nextAlive (x : SignBlock) : Bool × Bool × SignBlock :=
  let wrap := !x.epochDue && decide (0xFFFFFFFF ≤ x.alive)
  if x.epochDue || wrap then (true, wrap, { x with epochDue := false, series := (x.series + 1) % 2 ^ 16, alive := 1 })
  else (false, false, { x with alive := x.alive + 1 })

/-- Delivery of a signature record: the log, the queue, recording (R405). -/
def deliverSignature (l : Nat) (r : FrameRecord) (bytes : List Byte) (s : State) : State :=
  let x := s.signBlock l
  let drop := fun (s : State) => s.mapSign l fun x => { x with dropped := inc32 x.dropped }
  let s := if x.logEntries = 0 then s
    else
      let a := x.logAddr + 64 * x.logNext
      let s := if (hostRegion s a 64).isSome then devWrite a bytes s else drop s
      s.mapSign l fun x => { x with logNext := (x.logNext + 1) % x.logEntries }
  let s := if x.sigQueue = 0 then s
    else if (s.queue x.sigQueue).state = .absent then drop s
    else match putItem x.sigQueue bytes s with
      | some t => t
      | none => drop s
  match pipeOfLink s l with
  | some p => if s.recording.streams.any fun k => k.live && k.kind == 1 && k.source == p
      then recordSignature l r.frame r.time r.crc bytes s else s
  | none => s

/-- The signature record of a frame record (Table 13-4); CHANNEL names C12 to C15 also when a general channel signs for it
(DEDUCED, log 27). -/
def signRecord (c l : Nat) (r : FrameRecord) (s : State) : State :=
  let old := s.signBlock l
  let (first, wrapped, x) := nextAlive old
  let prevSig := if first then 0 else old.lastSig
  let (x, ident) := judge first r x
  let s := freezeStates l r (s.mapSign l fun _ => x)
  let x := s.signBlock l
  let flags := b2n first + 2 * b2n x.stale + 4 * b2n x.frozen + 8 * b2n ident + 16 * b2n s.mode.contain + 32 * b2n wrapped
  let head := frameBytes r ++ leBytes 4 x.alive ++ leBytes 2 x.series ++ leBytes 1 flags ++ leBytes 1 (12 + l % 4) ++ leBytes 8 prevSig
  let s := s.mapChan c fun k => k.process true 0 head
  let sig := (s.chan c).finish
  let bytes := head ++ leBytes 8 sig ++ leBytes 8 0
  deliverSignature l r bytes (s.mapSign l fun x => { x with lastSig := sig, lastRecord := bytes })

/-- SIGNATURE_RECORD: the oldest frame record handed over for a link is signed (R402, R403). With no channel to sign for the
link the record goes unsigned. -/
def execSignatureRecord (l : Nat) (s : State) : Out :=
  done (match (s.signBlock l).inbox with
    | [] => s
    | r :: rest =>
      let s := s.mapSign l fun x => { x with inbox := rest }
      match signerOf s l with
      | some c => signRecord c l r s
      | none => s)

end Sys2Proof.Machine
end

