-- ==== Sys2Proof/Machine/Power.lean ====
section
/-! DEFINITION. The power manager and the work scheduler: supply, power domains, the thermal estimator, HOLD, sprint, one
scheduler tick, the patrol scrubber, and the opcodes of family 0x0B (file 16). -/
namespace Sys2Proof.Machine

open Sys2Proof

/-- The module is supplied and its main rails are on: neither OFF nor KEEPALIVE. -/
def railsOn (s : State) : Bool := decide (s.mode.base ≠ .off) && decide (s.mode.base ≠ .keepalive)

/-- A signed value as its two's complement in `n` bytes. -/
def leSigned (n : Nat) (v : Int) : List Byte := leBytes n (v % (2 ^ (8 * n) : Nat)).toNat

/-! ### HOLD (R477, R478, R485, R486) -/

/-- A hold cause has arisen: an entry is counted unless another cause lasts already, and MODE follows (R486). -/
def enterHold (cause : Nat) (set : Power → Power) (s : State) : State :=
  let fresh := !holding s && s.mode.base.isBase
  let s := s.mapPower fun p => { set p with holdEntries := if fresh then inc32 p.holdEntries else p.holdEntries }
  showMode cause s

/-- A hold cause has ended: HOLD ends with the last of them (R486). -/
def leaveHold (clear : Power → Power) (s : State) : State := showMode 9 (s.mapPower clear)

/-! ### Supply events (R495) -/

/-- EV_SUPPLY. -/
def supplyEvent (kind extreme durationUs : Nat) (s : State) : State :=
  raise 130 0x0B03 (leBytes 1 kind ++ leBytes 1 0 ++ leBytes 2 extreme ++ leBytes 4 durationUs ++ leBytes 2 s.power.storeMj) s

/-- VIN_LOW (R478): VIN below 4.5 V. A dip within an excursion that has not ended belongs to it. -/
def execVinLow (mv : Nat) (s : State) : Out :=
  done (if !railsOn s || decide (4500 ≤ mv) then s
    else if s.power.holdLow then
      s.mapPower fun p => { p with vin := mv, vinSince := none, lowest := min p.lowest mv }
    else
      let s := enterHold 7 (fun p => { p with vin := mv, vinSince := none, lowest := mv, holdLow := true }) s
      supplyEvent 1 mv 0 s)

/-- VIN_HIGH (R477): VIN above 36 V. -/
def execVinHigh (mv : Nat) (s : State) : Out :=
  done (if !railsOn s || decide (mv ≤ 36000) then s
    else if s.power.holdHigh then s.mapPower fun p => { p with vin := mv, highest := max p.highest mv }
    else
      let s := enterHold 7 (fun p => { p with vin := mv, highest := mv, highSince := s.time, holdHigh := true }) s
      supplyEvent 2 mv 0 s)

/-- VIN_RESTORED (R478): VIN at 4.8 V or more for 100 ms ends the cause; a dip that was ridden through is counted. -/
def execVinRestored (mv durationUs storeMj : Nat) (s : State) : Out :=
  done (if !s.power.holdLow then s
    else
      let s := leaveHold (fun p =>
        { p with
          vin := mv, holdLow := false, storeMj := storeMj, storeCharged := p.storeCharged && decide (p.storeMj ≤ storeMj)
          rideThroughs := inc32 p.rideThroughs }) s
      supplyEvent 3 s.power.lowest durationUs s)

/-- VIN_HIGH_END (R477): VIN is back at 36 V or below. -/
def execVinHighEnd (mv : Nat) (s : State) : Out :=
  done (if !s.power.holdHigh || decide (36000 < mv) then s
    else
      let s := leaveHold (fun p => { p with vin := mv, holdHigh := false }) s
      supplyEvent 3 s.power.highest ((s.time - s.power.highSince) / 1000) s)

/-- HOLD_UP_STORE_CHARGED (R478, R580): the store is full, with the usable energy that it then holds. -/
def execHoldUpStoreCharged (mj : Nat) (s : State) : Out :=
  done (if !railsOn s then s else s.mapPower fun p => { p with storeMj := mj, storeCharged := true, inrush := false })

/-! ### Power domains (R480) -/

/-- A pipe holds its domain ON: RUNNING or RETRAINING. -/
def pipeActive (s : State) (p : Nat) : Bool :=
  decide ((s.pipe p).state = .running) || decide ((s.pipe p).state = .retraining)

/-- A link serves such a pipe. -/
def linkPowered (s : State) (l : Nat) : Bool := match pipeOfLink s l with | some p => pipeActive s p | none => false

/-- The receiver of a camera input is on: its stream was started (Table 9-2). -/
def receiverOn (s : State) (i : Nat) : Bool :=
  match (s.cam i).state with
  | .waiting | .running | .lost => true
  | _ => false

/-- A self-test or BIST runs on an object of a kind of Table 18-10. -/
def underTest (s : State) (kind index : Nat) : Bool := s.faults.tests.any fun t => t.kind == kind && t.index == index

/-- A physical lane is ON: in service, and mapped, loading or under test. -/
def lanePowered (s : State) (k : Nat) : Bool :=
  !(s.lanes.bad.getD k false) &&
    (s.lanes.map.contains k || underTest s 1 k || (match s.lanes.handover with | some h => h.inc == k || h.out == k | none => false))

/-- A barge of family 0x08 is in flight. -/
def recordingBarge (s : State) : Bool := s.host.rings.any fun r => r.inflight.any fun f => f.started && f.barge.opcode / 256 == 8

/-- Domain PDn is ON (Table 16-3). -/
def domainOn (s : State) (n : Nat) : Bool :=
  let hold := holding s && s.mode.base.isBase
  if s.mode.base = .off then false
  else if n = 0 then true
  else if s.mode.base = .keepalive then false
  else if n ≤ 2 then !(s.faults.pairBad.getD (n - 1) false)
  else if n = 3 then true
  else if n ≤ 7 then s.pound.powered.getD (n - 4) false
  else if n ≤ 16 then lanePowered s (n - 8)
  else if n ≤ 33 then
    !(s.faults.bankBad.getD (n - 17) false) ||
      (match s.basin.failed with | some b => s.basin.map.getD b 99 == n - 17 | none => false)
  else if n = 34 then true
  else if n ≤ 42 then pipeActive s (n - 35)
  else if n ≤ 46 then linkPowered s (n - 43)
  else if n ≤ 54 then (if bit s.aphyDir (n - 47) then receiverOn s (n - 47) else linkPowered s (n - 43))
  else if n ≤ 56 then receiverOn s (n - 47)
  else if n ≤ 58 then !hold && !(s.power.idleOff.contains n)
  else if n ≤ 60 then !hold && (heldStreams s).any fun x => x.2.encoder == n - 59 || x.2.encoderNext == n - 59
  else if n = 61 then
    s.recording.present && (!hold || !s.recording.cmds.isEmpty) &&
      (!(heldStreams s).isEmpty || s.recording.programme.isSome || recordingBarge s)
  else if n = 62 || n = 79 then decide (s.host.dstate ≠ .d3cold)
  else if 63 ≤ n && n ≤ 66 then !(s.mem.lost.getD (n - 63) false)
  else if n = 70 || n = 73 then !(s.power.idleOff.contains n)
  else if n = 78 then s.faults.tests.any fun t => !t.preparing
  else true

/-- DOMAIN_IDLE_TIMEOUT (R480): a 2D engine without a queued job for 1 ms; the security engine or the boot flash unused for
10 ms. -/
def execDomainIdleTimeout (domain : Nat) (s : State) : Out :=
  let off := fun (s : State) => s.mapPower fun p => { p with idleOff := p.idleOff.filter (· != domain) ++ [domain] }
  done (if !railsOn s then s
    else if domain = 57 ∨ domain = 58 then
      let e := s.engine (domain - 57)
      if e.queue.isEmpty && e.cur.isNone then off (s.atTime (e.idleSince + 1000000)) else s
    else if domain = 70 then (if s.trust.signing.isEmpty then off s else s)
    else if domain = 73 then (if s.trust.flashJob.isNone && s.faults.copying.isNone then off s else s)
    else s)

/-! ### The thermal estimator (R483 to R485) -/

/-- Twice the median of a list of readings: with an even count, the sum of the two middle ones. -/
def twiceMedian (l : List Int) : Int :=
  let m := l.inOrder fun a b => decide (a ≤ b)
  m.getD ((m.length - 1) / 2) 0 + m.getD (m.length / 2) 0

/-- A reading is outside −60 to 170 °C. -/
def outOfRange (t : Int) : Bool := decide (t < -960) || decide (2720 < t)

/-- A junction reading marks its sensor faulty, by its die's readings (R483). -/
def junctionBad (die : List Int) (t : Int) : Bool := outOfRange t || decide (480 < (2 * t - twiceMedian die).natAbs)

/-- Junction sensors that a sample marks faulty: 0 to 15 on the main die, 16 and 17 on the basin die (R483). -/
def badJunctions (l : List Int) : List Nat :=
  let main := l.take 16
  let basin := (l.drop 16).take 2
  (List.range 18).filter fun k => junctionBad (if k < 16 then main else basin) (l.getD k 0)

/-- EV_THERMAL. The number of a sensor is a free value, as the manual numbers none (log 2). -/
def thermalEvent (kind : Nat) (t : Int) (s : State) : State :=
  raise 132 0x0B04 (leBytes 1 kind ++ leBytes 1 (Config.freeNat s.free) ++ leSigned 2 t) s.takeFree

/-- A sensor is marked faulty: the event and the fault record (R483, R547). -/
def sensorFaulty (t : Int) (s : State) : State :=
  thermalEvent 3 t (faultRecord 11 (Config.freeNat s.free % 65536) 2 0 [] s)

/-- The highest reading of a junction sensor in service; with none left it is a free value. -/
def hottest (s : State) (l : List Int) : Int :=
  match (l.zipIdx.filter fun x => !(s.power.sensorFault.getD x.2 false)).map (·.1) with
  | [] => (Config.freeNat s.free : Int)
  | a :: l => l.foldl max a

/-- ESTIMATOR_VALID (R484). -/
def estimatorValid (s : State) : Bool := decide (2000 ≤ s.power.valid) && !s.power.baseFault

/-- T_b is the filtered reading while the estimator is valid, else T_d (R483, R484). -/
def setBaseplate (filtered : Int) (s : State) : State :=
  s.mapPower fun p => { p with tb := if estimatorValid s then filtered else 16 * s.ledger.tD }

/-- A condition's start: kept while it lasts. -/
def sinceWhen (on : Bool) (old : Option Nat) (now : Nat) : Option Nat := if on then old.or (some now) else none

/-- A condition has lasted for a time. -/
def lasted (since : Option Nat) (ns now : Nat) : Bool := match since with | some t => decide (t + ns ≤ now) | none => false

/-- The thermal hold's conditions and the events of Table 16-10 after a sample (R485, R495). -/
def thermalCheck (oldTj : Int) (s : State) : State :=
  let p := s.power
  let d := 16 * s.ledger.tD
  let now := s.time
  let s := s.mapPower fun p =>
    { p with
      overTd := sinceWhen (decide (d + 48 < p.tb)) p.overTd now
      over125 := sinceWhen (decide (2000 < p.tb)) p.over125 now
      coolSince := sinceWhen (decide (p.tb ≤ d) && decide (p.tj ≤ 2240) && decide (p.tb ≤ 2000)) p.coolSince now
      aboveTold := decide (d < p.tb) }
  let s := if d < p.tb ∧ !p.aboveTold then thermalEvent 1 p.tb s else s
  let s := if 2320 ≤ p.tj ∧ oldTj < 2320 then thermalEvent 2 p.tj s else s
  if !s.power.holdThermal &&
      (lasted s.power.overTd 1000000000 now || decide (2320 ≤ s.power.tj) || lasted s.power.over125 1000000000 now) then
    enterHold 8 (fun p => { p with holdThermal := true }) s
  else s

/-- THERMAL_SAMPLE (R483 to R485): the baseplate's reading and its filtered value, and the 18 junction readings. -/
def execThermalSample (base filtered : Int) (junctions : List Int) (s : State) : Out :=
  done (if !railsOn s then s
    else
      let oldTj := s.power.tj
      let s := if outOfRange base then
          let s := if s.power.baseFault then s else sensorFaulty base s
          s.mapPower fun p => { p with baseFault := true, valid := 0 }
        else s.mapPower fun p => { p with valid := min 2000 (p.valid + 1) }
      let s := (badJunctions junctions).foldl (fun s k =>
        if s.power.sensorFault.getD k false then s
        else (sensorFaulty (junctions.getD k 0) s).mapPower fun p => { p with sensorFault := p.sensorFault.set k true }) s
      let s := setBaseplate filtered s
      let s := (s.mapPower fun p => { p with tj := hottest s (junctions.take 18) }).takeFree
      thermalCheck oldTj s)

/-- THERMAL_HOLD_END (R485): all three conditions have held for 10 s. -/
def execThermalHoldEnd (s : State) : Out :=
  done (match s.power.coolSince with
    | some t =>
      if !s.power.holdThermal then s
      else thermalEvent 4 s.power.tb (leaveHold (fun p => { p with holdThermal := false }) (s.atTime (t + 10000000000)))
    | none => s)

/-! ### Sprint (R487 to R490) -/

/-- Band of T_b (Table 16-6). -/
def bandOf (tb : Int) : Nat := if tb ≤ 1360 then 0 else if tb ≤ 1680 then 1 else if tb ≤ 2000 then 2 else 3

/-- Milliseconds of a span within the last `window` ms. -/
def spanWithin (now window : Nat) (x : SprintSpan) : Nat := x.upto - max x.from_ (now - window)

/-- Sprint milliseconds of the last `window` ms, the sprint in progress included (R488). -/
def sprintMs (s : State) (window : Nat) : Nat :=
  let now := s.time / 1000000
  (s.power.spans.map (spanWithin now window)).sum +
    (if s.power.sprinting then spanWithin now window { from_ := s.power.sprintStart / 1000000, upto := now } else 0)

/-- Allowance left in a band, none for unlimited (Table 16-6). -/
def allowanceLeft (s : State) (band : Nat) : Option Nat :=
  match band with
  | 0 => none
  | 1 => some (120000 - sprintMs s 600000)
  | 2 => some (30000 - sprintMs s 300000)
  | _ => some 0

/-- At least `ms` of allowance are left in a band. -/
def allows (s : State) (band ms : Nat) : Bool := match allowanceLeft s band with | none => true | some n => decide (ms ≤ n)

/-- A fault takeover is in catch-up (R487). -/
def catchUp (s : State) : Bool := match s.lanes.handover with | some h => h.takeover | none => false

/-- A step of rolling self-test is due or in progress (R555). -/
def selftestWaiting (s : State) : Bool :=
  !s.faults.tests.isEmpty || (List.range 5).any fun k =>
    let period := s.faults.periods.getD k 0
    period != 0 && decide (s.faults.lastStep.getD k 0 + period * 1000000000 ≤ s.time)

/-- 2D engines with queued work (Table 16-8). -/
def busyEngines (s : State) : Nat :=
  ((List.range 2).filter fun e => !engineOut s e && (!(s.engine e).queue.isEmpty || (s.engine e).cur.isSome)).length

/-- A use that SPRINT_POLICY permits has waiting work; `backlog` has the encoders with backlog (R487, R498). -/
def permittedWaiting (s : State) (backlog : Nat) : Bool :=
  let p := s.power.permit
  (bit p 1 && decide (0 < busyEngines s)) || (bit p 2 && backlog % 4 != 0) || (bit p 3 && selftestWaiting s)

/-- A permitted takeover in catch-up. -/
def permittedCatchUp (s : State) : Bool := bit s.power.permit 0 && catchUp s

/-- SPRINT_PERMITTED: R487 apart from the waiting work. -/
def sprintPermitted (s : State) : Bool :=
  let band := bandOf s.power.tb
  (modeNow s == 3 || modeNow s == 4 || modeNow s == 6) && estimatorValid s && lasted s.power.vinSince 100000000 s.time &&
    decide (s.power.iin < 12800) && decide (band ≤ s.power.maxBand) && decide (band < 3) && allows s band 100 &&
    !s.power.sprintBarred && s.power.permit != 0

/-- A permitted use has waited 10 ms, or a takeover is in catch-up (R487). -/
def sprintWanted (s : State) : Bool := lasted s.power.waitSince 10000000 s.time || permittedCatchUp s

/-- SPRINT_BEGIN (R487). -/
def execSprintBegin (s : State) : Out :=
  done (if s.power.sprinting || !sprintPermitted s || !sprintWanted s then s
    else s.mapPower fun p => { p with sprinting := true, sprintStart := s.time, sprints := inc32 p.sprints })

/-- The causes of Table 16-7 that the state shows, the first one. -/
def sprintEndCause (s : State) : Option Nat :=
  let band := bandOf s.power.tb
  if s.power.vin < 6000 then some 1
  else if 12800 ≤ s.power.iin then some 2
  else if band = 3 ∨ (holding s ∧ s.mode.base.isBase) then some 3
  else if !allows s band 2 then some 4
  else if s.power.maxBand < band ∨ s.power.permit = 0 ∨ s.power.sprintBarred then some 5
  else none

/-- The cause that is reported: the first that holds (R489). VIN and current are sampled every 10 µs, between ticks; a policy
that permits no waiting use and the end of work show in that nothing permitted waits. -/
def sprintCause (s : State) (told : Nat) : Option Nat :=
  let idle := s.power.waitSince.isNone && !permittedCatchUp s
  let ok := told == 1 || told == 2 || ((told == 5 || told == 6) && idle)
  match sprintEndCause s with
  | some c => some (if ok then min c told else c)
  | none => if ok then some told else none

/-- SPRINT_END (R489): the clock is back at 1.0 GHz, and the span enters the ledger. -/
def execSprintEnd (cause : Nat) (s : State) : Out :=
  done (if !s.power.sprinting then s
    else match sprintCause s cause with
    | none => s
    | some c =>
      let now := s.time / 1000000
      let start := s.power.sprintStart / 1000000
      let s := s.mapPower fun p =>
        { p with
          sprinting := false, endCause := c, justEnded := true
          spans := { from_ := start, upto := now } :: p.spans.filter fun x => decide (now < x.upto + 600000) }
      raise 128 0x0B01 (leBytes 1 c ++ leBytes 1 (bandOf s.power.tb) ++ leBytes 2 0 ++ leBytes 4 (now - start)) s)

/-! ### The scheduler (R491) -/

/-- Classes with waiting work (Table 16-8). -/
def waitingClasses (s : State) (backlog : Nat) : List Nat :=
  [0, 1, 2, 3].filter fun c => match c with
    | 0 => selftestWaiting s
    | 1 => decide (0 < busyEngines s)
    | 2 => backlog % 4 != 0
    | _ => s.power.scrubStart.isSome

/-- p_c in mW (Table 16-8). -/
def classPower (s : State) (backlog c : Nat) : Nat :=
  match c with
  | 0 => 700
  | 1 => busyEngines s * (if s.power.sprinting then 500 else 400)
  | 2 => 500 * (b2n (bit backlog 0) + b2n (bit backlog 1))
  | _ => 40

/-- Ticks of 100 µs in the 4 h of the scrubber's schedule. -/
abbrev scrubSchedule : Nat := 144000000

/-- The scrub pass is more than 30 min behind its schedule (R491). -/
def scrubBehind (s : State) : Bool :=
  match s.power.scrubStart with
  | some t => decide (s.power.scrubTicks + 18000000 < min scrubSchedule ((s.time - t) / 100000))
  | none => false

/-- State of one tick's loop: head, credits, classes run and held. -/
structure TickState where
  /-- Head in mW. -/
  head : Int := 0
  /-- Credits. -/
  credits : List Nat := []
  /-- Classes run, bit c. -/
  run : Nat := 0
  /-- Classes held, bit c. -/
  held : Nat := 0
  deriving DecidableEq, Repr, Inhabited

/-- One class in the tick's loop (R491). -/
def tickClass (weights : List Nat) (waiting : List Nat) (power : Nat → Nat) (t : TickState) (c : Nat) : TickState :=
  if weights.getD c 0 = 0 ∧ waiting.any (fun d => d != c && decide (0 < weights.getD d 0)) then t
  else if (power c : Int) ≤ t.head then
    { t with head := t.head - power c, credits := t.credits.modify c (· - 256), run := t.run ||| 2 ^ c }
  else { t with held := t.held ||| 2 ^ c }

/-- The order of the loop: credit descending, then class number descending (R491). -/
def classOrder (credits : List Nat) (waiting : List Nat) : List Nat :=
  waiting.inOrder fun a b =>
    decide (credits.getD b 0 < credits.getD a 0) || (decide (credits.getD a 0 = credits.getD b 0) && decide (b ≤ a))

/-- The algorithm of R491 for one tick. -/
def schedule (s : State) (w : SchedWork) : TickState :=
  let waiting := waitingClasses s w.backlog
  let credits := s.power.credits.zipIdx.map fun x =>
    if waiting.contains x.2 then min (x.1 + s.power.weights.getD x.2 0) 65535 else 0
  if holding s && s.mode.base.isBase then { credits := s.power.credits.zipIdx.map fun x => if waiting.contains x.2 then x.1 else 0 }
  else
    let head : Int := (if s.power.sprinting then 52000 else 44000) - (w.pIn : Int) - 1000
    let t : TickState := { head, credits }
    let t := if scrubBehind s then { t with head := head - 40, run := 8 } else t
    (classOrder credits waiting).foldl (tickClass s.power.weights waiting (classPower s w.backlog)) t

/-! ### The patrol scrubber (R541) -/

/-- Codewords of device memory. -/
abbrev devWords : Nat := 62914560

/-- The good content of a decoded copy, none if it is uncorrectable. -/
def goodCopy (s : State) (w : Nat) : Decoded → Option (List Byte)
  | .clean => some (wordBytes s w)
  | .corrected e => some (applyResidual (wordBytes s w) e)
  | .bad => none

/-- One codeword scrubbed: both copies are read; a corrected copy is rewritten, an uncorrectable one is rewritten from the
other, and one with no good copy raises EV_MEM_UNCORRECTABLE (R541). Copies on a lost device are skipped. -/
def scrubWord (w : Nat) (s : State) : State :=
  let g := granuleOf (128 * w)
  let lostP := s.lostGranule g
  let mirror := (s.mirrorOf g).filter fun m => !s.lostGranule m
  let p := if lostP then none else some (primaryState s w)
  let m := if mirror.isSome then mirrorState s w else none
  let isBad := fun (d : Option Decoded) => match d with | some .bad => true | _ => false
  let isCor := fun (d : Option Decoded) => match d with | some (.corrected _) => true | _ => false
  if !(isBad p || isBad m || isCor p || isCor m) then s
  else
    let s := if isCor p then noteCorrected s else s
    let s := if isCor m then noteCorrected s else s
    match (p.bind (goodCopy s w)).or (m.bind (goodCopy s w)) with
    | some bytes =>
      let s := if isBad p || isBad m then noteBad w 0x7F 1 s else s
      cleanWord w (s.mapMem fun x => { x with cells := Memory.writeBytes x.cells (128 * w) bytes })
    | none =>
      raise 104 0x0205 (leBytes 8 (128 * w) ++ leBytes 1 0x7F) (noteBad w 0x7F 4 s)

/-- The codewords that the pass reads from one count of ticks up to another. -/
def scrubRange (upto : Nat) (s : State) : State :=
  let lo := s.power.scrubTicks * devWords / scrubSchedule
  let hi := min devWords (upto * devWords / scrubSchedule)
  let words := ((s.mem.errs ++ s.mem.errsMirror).map (fun (x : Nat × List (Nat × Nat)) => x.1) ++ s.mem.poison ++
    (s.mem.badTags.flatMap fun (t : Nat × Nat) => (List.range 15).map fun k =>
      -- page i of a channel holds 15 codewords of one granule (R96)
      let granule := 4 * (t.2 / 16) + t.1 / 2
      (granule * 61440 + (2 * (t.2 % 16) + t.1 % 2) * 1920) / 128 + k)).eraseDups
  let s := ((words.filter fun w => decide (lo ≤ w) && decide (w < hi)).inOrder fun a b => decide (a ≤ b)).foldl
    (fun s w => scrubWord w s) s
  s.mapPower fun p => { p with scrubTicks := upto, scrubStart := if scrubSchedule ≤ upto then none else p.scrubStart }

/-- SCRUB_PASS_START (R541, R564): what is left of an earlier pass is read first; codewords are tracked afresh. -/
def execScrubPassStart (s : State) : Out :=
  done (if !railsOn s then s
    else
      let s := if s.power.scrubStart.isSome then scrubRange scrubSchedule s else s
      (s.mapPower fun p => { p with scrubStart := some s.time, scrubTicks := 0 }).mapFaults fun f => { f with tracked := [] })

/-- What the power manager measured at a tick enters its registers and counters (R476, R487, R493). -/
def measurePower (w : SchedWork) (s : State) : State :=
  s.mapPower fun p =>
    { p with
      pIn := w.pIn, vin := w.vin, iin := w.iin
      vinSince := sinceWhen (decide (6300 ≤ w.vin)) p.vinSince s.time
      lowest := if p.holdLow then min p.lowest w.vin else p.lowest
      highest := if p.holdHigh then max p.highest w.vin else p.highest
      energy := p.energy.zipIdx.map fun x => (x.1 + w.energy.getD x.2 0) % 2 ^ 64
      waitSince := sinceWhen (permittedWaiting s w.backlog) p.waitSince s.time }

/-- One scheduler tick: measurement, the denial count, the algorithm, EV_THROTTLE and the scrubber's share (R491). -/
def powerTick (w : SchedWork) (s : State) : State :=
  let s := measurePower w s
  let s := if lasted s.power.waitSince 10000000 s.time && !s.power.sprinting && !sprintPermitted s then
      s.mapPower fun p => { p with denials := inc32 p.denials } else s
  let t := schedule s w
  let grown := t.held &&& (15 - s.power.held % 16) != 0
  let cause := if s.power.justEnded then 1 else 2
  let s := s.mapPower fun p => { p with credits := t.credits, running := t.run, held := t.held, justEnded := false }
  let s := if grown then raise 129 0x0B02 (leBytes 1 t.held ++ leBytes 1 cause) s else s
  if bit t.run 3 then scrubRange (s.power.scrubTicks + 1) s else s

/-! ### Opcodes of family 0x0B -/

/-- PFLAGS of POWER_QUERY (Table 16-11). -/
def powerFlags (s : State) : Nat :=
  b2n (estimatorValid s) + 2 * b2n s.power.sprinting + 4 * b2n (sprintPermitted s) + 8 * b2n (electricalHold s) +
    16 * b2n s.power.holdThermal + 32 * b2n s.power.storeCharged

/-- POWERED, 80 bits. -/
def poweredBits (s : State) : Nat := ((List.range 80).map fun n => b2n (domainOn s n) * 2 ^ n).sum

/-- Body of the POWER_QUERY report (Table 16-11). -/
def powerBody (s : State) : List Byte :=
  let p := s.power
  let band := bandOf p.tb
  leBytes 2 p.vin ++ leBytes 2 p.iin ++ leBytes 4 p.pIn ++ leSigned 2 p.tb ++ leSigned 2 p.tj ++ leSigned 1 s.ledger.tD ++
    leBytes 1 (powerFlags s) ++ leBytes 1 band ++ leBytes 1 p.endCause ++
    leBytes 4 (sprintMs s 600000) ++ leBytes 4 (sprintMs s 300000) ++
    leBytes 4 ((allowanceLeft s band).getD 0xFFFFFFFF) ++ leBytes 4 (powerMw s) ++
    leBytes 4 p.sprints ++ leBytes 4 p.denials ++ leBytes 4 p.rideThroughs ++ leBytes 4 p.holdEntries ++
    (p.energy.map (leBytes 8)).flatten ++ leBytes 10 (poweredBits s) ++ leBytes 1 p.held ++ leBytes 1 0 ++
    leBytes 2 p.storeMj ++ leBytes 2 0 ++ (p.weights.map (leBytes 1)).flatten ++ leBytes 1 p.permit ++ leBytes 1 p.maxBand ++
    List.replicate 10 0

/-- Checks of POWER_QUERY; R496. -/
def powerQueryCheck (b : Barge) (_ : State) : Option Reply := firstFail [lenIs b 8, reservedBytes b 0 8]
/-- Effect of POWER_QUERY; R496. -/
def powerQueryApply (b : Barge) (s : State) : State := complete b { report := some (powerBody s) } s
/-- POWER_QUERY; R496. -/
def execPowerQuery (b : Barge) (s : State) : Out := barge powerQueryCheck powerQueryApply b s

/-- T_D of BASEPLATE_DECLARE: signed, 16 bits. -/
def declaredTd (b : Barge) : Int := (BitVec.ofNat 16 (b.pay 0 2)).toInt

/-- Checks of BASEPLATE_DECLARE; R497. -/
def baseplateDeclareCheck (b : Barge) (_ : State) : Option Reply :=
  firstFail [ring0Only b, lenIs b 8, reservedBytes b 2 6, fieldIf b 0 2 (decide (declaredTd b < 25) || decide (125 < declaredTd b))]

/-- Effect of BASEPLATE_DECLARE; R497: the ledger is re-admitted, DETAIL is the previous T_d in 64-bit two's complement. -/
def baseplateDeclareApply (b : Barge) (s : State) : State :=
  let old := s.ledger.tD
  let t := s.mapLedger fun l => { l with tD := declaredTd b }
  let body := admissionBody (readmit t) { rest := s, new := t } none
  let t := if estimatorValid t then t else setBaseplate 0 t
  complete b { detail := (old % (2 ^ 64 : Nat)).toNat, report := some body } (readmit t)

/-- BASEPLATE_DECLARE; R497. -/
def execBaseplateDeclare (b : Barge) (s : State) : Out := bargeSync baseplateDeclareCheck baseplateDeclareApply b s

/-- Checks of SPRINT_POLICY; R498. -/
def sprintPolicyCheck (b : Barge) (_ : State) : Option Reply :=
  firstFail [lenIs b 8, reservedBits b 0 0xF0, reservedBytes b 2 6, fieldIf b 1 1 (decide (2 < b.pay 1 1))]
/-- Effect of SPRINT_POLICY; R498. -/
def sprintPolicyApply (b : Barge) (s : State) : State :=
  complete b .ok (s.mapPower fun p => { p with permit := b.pay 0 1, maxBand := b.pay 1 1 })
/-- SPRINT_POLICY; R498. -/
def execSprintPolicy (b : Barge) (s : State) : Out := barge sprintPolicyCheck sprintPolicyApply b s

/-- Checks of SCHED_WEIGHTS; R499. -/
def schedWeightsCheck (b : Barge) (_ : State) : Option Reply := firstFail [lenIs b 8, reservedBytes b 4 4]
/-- Effect of SCHED_WEIGHTS; R499. -/
def schedWeightsApply (b : Barge) (s : State) : State :=
  complete b .ok (s.mapPower fun p => { p with weights := (List.range 4).map fun c => b.pay c 1 })
/-- SCHED_WEIGHTS; R499. -/
def execSchedWeights (b : Barge) (s : State) : Out := barge schedWeightsCheck schedWeightsApply b s

end Sys2Proof.Machine
end

