-- ==== Sys2Proof/Machine/BootOps.lean ====
section
/-! DEFINITION. The configuration image, what survives OFF and KEEPALIVE, and the first steps of BOOT (file 17). -/
namespace Sys2Proof.Machine

open Sys2Proof

/-! ### The configuration image (R509, R510) -/

/-- Offset in the body of an entry's header: KIND. -/
def entryKind (body : List Byte) (o : Nat) : Nat := leNat (slice body o 1)
/-- EFLAGS of an entry. -/
def entryFlags (body : List Byte) (o : Nat) : Nat := leNat (slice body (o + 1) 1)
/-- LENGTH of an entry. -/
def entryLength (body : List Byte) (o : Nat) : Nat := leNat (slice body (o + 4) 4)
/-- The bytes that follow an entry's header. -/
def entryData (body : List Byte) (o : Nat) : List Byte := slice body (o + 64) (entryLength body o)

/-- Offsets of a list of entries, each at the next multiple of 64 after the one before. -/
def entryOffsets (body : List Byte) : Nat → Nat → List Nat
  | 0, _ => []
  | n + 1, o => o :: entryOffsets body n (o + 64 + 64 * ceilDiv (entryLength body o) 64)

/-- Opcodes that LIGHT entries may use (R510). -/
def lightOpcodes : List Nat := [0x0201, 0x0203, 0x0207, 0x0301, 0x0303, 0x0304, 0x0306, 0x0401, 0x0402, 0x0106]

/-- An opcode that SERVICE entries may use (R510). -/
def serviceOpcode (op : Nat) : Bool :=
  decide (op / 256 ≠ 0x0C) && decide (op / 256 ≠ 0x0D) && !([0x0102, 0x0103, 0x0105, 0x0205, 0x0206, 0x0805, 0x0806, 0x0808].contains op)

/-- An entry keeps the rules of R509 and R510. -/
def entryGood (body : List Byte) (light : Bool) (o : Nat) : Bool :=
  let n := entryLength body o
  let b : Barge := { ring := 0, bytes := entryData body o }
  decide (o % 64 = 0) && decide (o + 64 + n ≤ body.length) && decide (entryFlags body o < 2) && zeros (slice body (o + 2) 2) &&
    (if entryKind body o = 1 then
      decide (64 ≤ n) && decide (n = b.slots * 64) && decide (b.ringField = 0) && decide (b.reportAddr = 0) &&
        (if light then lightOpcodes.contains b.opcode else serviceOpcode b.opcode)
    else decide (entryKind body o = 2))

/-- A list of entries keeps the rules. -/
def entriesGood (body : List Byte) (light : Bool) : Bool :=
  let o := leNat (slice body (if light then 0x08 else 0x10) 4)
  let n := leNat (slice body (if light then 0x0C else 0x14) 4)
  n == 0 || (decide (n * 64 ≤ body.length) && (entryOffsets body n o).all (entryGood body light))

/-- A CAN identifier of the image: bits 30 and 29 are zero. -/
def canIdGood (body : List Byte) (off : Nat) : Bool := decide (leNat (slice body off 4) / 2 ^ 29 % 4 = 0)

/-- A configuration body keeps the rules of R509, R510 and Table 17-6. -/
def imageGood (body : List Byte) : Bool :=
  let num := fun off n => leNat (slice body off n)
  decide (128 ≤ body.length) && decide (body.length ≤ 28298624) && num 0 4 == 0x42434850 && num 4 2 == 1 && num 6 2 == 0 &&
    (num 0x18 4 == 0 || (decide (100 ≤ num 0x18 4) && decide (num 0x18 4 ≤ 60000))) &&
    decide (num 0x20 1 < 8) && decide (num 0x21 1 < 4) && [125, 250, 500, 1000].contains (num 0x22 2) &&
    (if num 0x21 1 % 2 = 1 then [1000, 2000, 4000, 5000].contains (num 0x24 2) else num 0x24 2 == 0) &&
    (num 0x26 2 == 0 || (decide (10 ≤ num 0x26 2) && decide (num 0x26 2 ≤ 3600))) &&
    canIdGood body 0x28 && canIdGood body 0x2C && canIdGood body 0x30 &&
    decide (num 0x35 1 < 8) && decide (num 0x37 1 < 8) && zeros (slice body 0x38 72) &&
    entriesGood body true && entriesGood body false

/-- HB_TIMEOUT_MS of the image in use, 2,000 without one (R509). -/
def imageTimeout (s : State) : Nat := if imageNum s 0x18 4 = 0 then 2000 else imageNum s 0x18 4

/-! ### What survives (R508, R520, R554) -/

/-- The boot flash after power is lost: what a write had begun to replace is a free value, and its state record stands (R522). -/
def flashAfterLoss (s : State) : Trust :=
  let t := s.trust
  let lose := fun (l : List FlashSlot) (k : Nat) => l.modify k fun x => { x with bytes := leBytes 64 (Config.freeNat s.free) }
  match t.flashJob with
  | some j => if j.config then { t with configs := lose t.configs j.slot } else { t with patches := lose t.patches j.slot }
  | none => t

/-- The flash write in progress is given up, with what it had replaced. -/
def abandonFlash (s : State) : State := { s with trust := { flashAfterLoss s with flashJob := none } }.takeFree

/-- The state with only what no loss of power changes: fuses and flash, the drive, the levels of pins, and what the model
keeps of the world outside. -/
def carryOver (s : State) : State :=
  let t := flashAfterLoss s
  let r := s.recording
  { State.reset with
    pending := s.pending, free := s.free + 1, out := s.out, hostMem := s.hostMem, aphyDir := s.aphyDir
    links := s.links.map fun k => ({ hpd := k.hpd } : Link)
    trust := { t with
      patch := none, patchSlot := 0, patchTime := none, patchBefore := none, config := none, flashJob := none, signing := [], bootRecord := [] }
    faults := { s.faults with
      log := [], nextIndex := 0, tracked := [], recentBad := List.replicate 4 [], pairBad := [false, false], mismatchTime := [none, none]
      bankBad := List.replicate 17 false, engineBad := [false, false], encoderBad := [false, false], injected := [], probeBad := []
      periods := [20, 10, 60, 600, 60], lastStep := [0, 0, 0, 0, 0], nextTarget := [0, 0, 0, 0, 0], firstLane := false, tests := []
      foMask := 0x7E, conditions := 0, holdOverTime := 0, faultOut := false, dumps := [none, none], copying := none, tpQueue := [] }
    recording := { present := r.present, driveIdent := r.driveIdent, driveMib := r.driveMib, driveGood := r.driveGood, disk := r.disk
                   smartBytes := r.smartBytes, percentUsed := r.percentUsed } }

/-- What the always-on domain keeps as well: module time, CONTAIN_EPOCH, HANDOVERS and the SERIES of each link (R36, R508). -/
def keepOn (s : State) : State :=
  { carryOver s with
    time := s.time
    mode := { epoch := s.mode.epoch }
    lanes := { handovers := s.lanes.handovers }
    sign := s.sign.map fun (x : SignBlock) => ({ series := x.series } : SignBlock) }

/-- OFF (R479, R586): nothing is supplied. -/
def powerOff (s : State) : State := carryOver s

/-! ### Objects out of service at BOOT (R505, R554) -/

/-- A lane stays out: the spare takes its place, or its logical lane does not compose. -/
def bootLane (k : Nat) (s : State) : State :=
  s.mapLanes fun l =>
    let l := { l with bad := l.bad.set k true }
    match (l.map.zipIdx.find? fun (x : Nat × Nat) => x.1 == k).map (·.2) with
    | none => { l with noSpare := true }
    | some j => if l.noSpare then { l with stopped := l.stopped.set j true } else { l with map := l.map.set j l.spare, noSpare := true }

/-- A basin bank stays out: the shadow takes its place. -/
def bootBank (k : Nat) (s : State) : State :=
  let s := s.mapFaults fun f => { f with bankBad := f.bankBad.set k true }
  if s.basin.shadow = some k then s.mapBasin fun b => { b with shadow := none }
  else match (s.basin.map.zipIdx.find? fun (x : Nat × Nat) => x.1 == k).map (·.2), s.basin.shadow with
    | some j, some p => s.mapBasin fun b => { b with map := b.map.set j p, shadow := none }
    | some j, none => setCondition 1 (s.mapBasin fun b => { b with failed := some j })
    | none, _ => s

/-- A scan-out read path stays out: the other one is used. -/
def bootPath (k : Nat) (s : State) : State :=
  s.mapLink (k / 2) fun x =>
    { x with pathFaults := x.pathFaults ||| 2 ^ (k % 2), standby := if k % 2 = b2n x.standby then !x.standby else x.standby }

/-- A listed object stays out of service. -/
def bootOut (kind index : Nat) (s : State) : State :=
  match kind with
  | 1 => bootLane index s
  | 2 => bootBank index s
  | 3 => s.mapPound fun p => { p with faulted := p.faulted.set index true, powered := p.powered.set index false }
  | 4 => s.mapFaults fun f => { f with pairBad := f.pairBad.set index true }
  | 5 => s.mapFaults fun f => { f with engineBad := f.engineBad.set index true }
  | 6 => s.mapFaults fun f => { f with encoderBad := f.encoderBad.set index true }
  | 7 => failChannel index s
  | 8 => bootPath index s
  | 9 => s.mapMem fun m => { m with lost := m.lost.set index true }
  | _ => s

/-! ### The queues and sources that firmware sets up (Table 12-1, log 10) -/

/-- Queues that exist from BOOT: host event records, firmware's event queues, and those of CAN and the towpath. -/
def bootQueues (s : State) : State :=
  let s := createQueue 16 0x40 0x02 false 256 1 s
  let s := (List.range 15).foldl (fun s i => createQueue (17 + i) 0x41 0x01 false 64 1 s) s
  let s := createQueue 80 0x50 0x02 false 32 1 s
  let s := createQueue 81 0x02 0x50 false 32 1 s
  createQueue 83 0x02 0x51 false 32 1 (createQueue 82 0x51 0x02 false 32 1 s)

/-! ### Patch and image (R522) -/

/-- Position of the ACTIVE slot. -/
def activeSlot (l : List FlashSlot) : Option Nat := l.findIdx? fun x => decide (x.state = .active)

/-- A bit of BOOT_FLAGS set. -/
def setBootFlag (n : Nat) (s : State) : State := s.mapMode fun m => { m with bootFlags := m.bootFlags ||| 2 ^ n }

/-- A patch object passes the checks of a slot. -/
def patchGood (s : State) (o : List Byte) : Bool := (verifyObject s 1 o.length o).isNone && decide (objNum o 0x14 4 ≤ 524288)

/-- A configuration object passes the checks of a slot. -/
def configGood (s : State) (o : List Byte) : Bool := (verifyObject s 2 o.length o).isNone && imageGood (objBody o)

/-- Step 3: the patch of the ACTIVE slot is used if it verifies. -/
def selectPatch (s : State) : State :=
  match activeSlot s.trust.patches with
  | none => s
  | some k =>
    let o := (s.trust.patches.getD k {}).bytes
    if patchGood s o then s.mapTrust fun t => { t with patch := some o, patchSlot := k } else setBootFlag 1 s

/-- Step 5: the image of the ACTIVE slot, or of the other one if it is LOADED, is used if it verifies. -/
def selectConfig (s : State) : State :=
  match activeSlot s.trust.configs with
  | none => setBootFlag 4 s
  | some k =>
    let mine := s.trust.configs.getD k {}
    let other := s.trust.configs.getD (1 - k) {}
    if configGood s mine.bytes then s.mapTrust fun t => { t with config := some mine.bytes }
    else if other.state = .loaded ∧ configGood s other.bytes then
      setBootFlag 3 (s.mapTrust fun t => { t with config := some other.bytes })
    else setBootFlag 4 s

/-! ### BOOT starts (R502, R504, R506) -/

/-- Steps 1 to 5 of BOOT on a state that holds only what survives. A recovery boot uses no patch and no image. -/
def startBoot (wake retries bootTime : Nat) (s : State) : State :=
  let s := s.mapMode fun m =>
    { m with base := .boot, shown := 2, prev := 2, wakeCause := wake, bootRetries := retries, bootTime, recovery := decide (3 ≤ retries) }
  let s := s.mapEvents fun e => { e with internal := e.internal.map fun (x : Source) => { x with enabled := true } }
  let s := s.faults.quarantine.foldl (fun s q => bootOut q.1 q.2.1 s) (bootQueues s)
  let s := if s.mem.lost.any id then setBootFlag 7 s else s
  let s := if s.mode.recovery then setCondition 5 (setBootFlag 6 s) else selectConfig (selectPatch s)
  startAttach (s.mapMode fun m => { m with hbTimeout := imageTimeout s })

/-- BOOT starts again (R506): its bounds count from now, its times from the VIN valid or wake that led to it. -/
def restartBoot (s : State) : State := startBoot s.mode.wakeCause (satAdd 255 s.mode.bootRetries 1) s.mode.bootTime (keepOn s)

end Sys2Proof.Machine
end

