-- ==== Sys2Proof/Machine/Cameras.lean ====
section
/-! DEFINITION. Camera ingest: the events of an input and the barges of family 0x05 (file 09). -/
namespace Sys2Proof.Machine

open Sys2Proof

/-! ### Frame starts (R280, R289, R292, R297) -/

/-- SEQ after a SEQ: 0xFFFFFFFF is followed by 1 (R280). -/
def seqAfter (n : Nat) : Nat := if n = 0xFFFFFFFF then 1 else n + 1

/-- The receiver turns off and the stream returns to DECLARED; an open frame ends with it (R297). -/
def stopNow (i : Nat) (s : State) : State :=
  let s := dropOpen i 4 (landAll i (s.cam i).staged.length s)
  let m := s.cam i
  let s := freeTows i (s.mapCam i fun m => { m with state := .declared, phyUp := false, stops := [] })
  m.stops.foldl (fun s b => complete b .ok s) s

/-- The stamp of a frame start joins those of the towed pipes (R258). -/
def stampTows (i t seq : Nat) (s : State) : State :=
  (towedTo s i).foldl (fun s p => s.mapPipe p fun x => { x with tow := { x.tow with stamps := ((t, seq) :: x.tow.stamps).take 9 } }) s

/-- A slot is taken for an opened frame (R289, R292). -/
def takeSlot (i seq stamp number : Nat) (s : State) : State :=
  if ringGone s i then countDrop i 11 (lostToRecording i seq 11 s)
  else match pickSlot s i with
    | none => countDrop i 7 (lostToRecording i seq 7 s)
    | some k =>
      mapSlot i k (fun _ => { seq, fill := .filling, tSof := stamp, csiFrame := number })
        (s.mapCam i fun m => { m with open_ := some k })

/-- An FS opens a frame: stamp with 40 ns resolution, SEQ and slot (R280). -/
def openFrame (i number : Nat) (s : State) : State :=
  let m := s.cam i
  let stamp := s.time / 40 * 40
  let seq := m.nextSeq
  let s := s.mapCam i fun m =>
    { m with nextSeq := seqAfter seq, fsTimes := (s.time :: m.fsTimes).take 9, missing := 0, packets := 0, staged := [] }
  let s := stampTows i stamp seq s
  let s := if ringGone s i && (s.cam i).handles.isEmpty then replaceRing i s else s
  takeSlot i seq stamp number s

/-- The FS comes too early after the one that opened the last frame (R280). -/
def fsEarly (s : State) (i : Nat) : Bool :=
  let m := s.cam i
  match m.fsTimes with
  | t :: _ => decide ((s.time - t) * 8 < 7 * m.decl.framePeriod)
  | [] => false

/-- An FS of the stream: a pending stop takes effect, an open frame ends, and a frame opens (R280, R282, R297). -/
def frameStartPacket (i number : Nat) (s : State) : State :=
  if !(s.cam i).stops.isEmpty then stopNow i s
  else
    let s := dropOpen i 4 (landAll i (s.cam i).staged.length s)
    if fsEarly s i then countDrop i 6 s else openFrame i number s

/-- CAMERA_FS (R280). -/
def execCameraFs (i vc number : Nat) (s : State) : Out :=
  let m := s.cam i
  done (if !m.receiving then s
    else if vc ≠ m.decl.vc then countMalformed i 0 s
    else frameStartPacket i (number % 65536) s)

/-! ### Lines (R281 to R284) -/

/-- The next line of the open frame is checked and staged (R281, R284). -/
def stageLine (i : Nat) (x : CamPacket) (s : State) : State :=
  let m := s.cam i
  let line := m.packets
  let stored := m.decl.storeLine x.bytes
  let s := s.mapCam i fun m => { m with packets := m.packets + 1 }
  if x.bytes.length ≠ m.decl.wireBytes then dropOpen i 2 (countMalformed i 3 s)
  else if !queueHasRoom s (camQueue i) stored.length then dropOpen i 8 s
  else if !x.crcOk then dropOpen i 3 (countMalformed i 4 s)
  else match putItem (camQueue i) stored s with
    | some s => s.mapCam i fun m => { m with staged := m.staged ++ [line] }
    | none => dropOpen i 8 s

/-- A long packet of a stream (R276, R281, R282). -/
def linePacket (i : Nat) (x : CamPacket) (s : State) : State :=
  let m := s.cam i
  if x.dt = 0x10 ∨ x.dt = 0x11 then s
  else if x.vc ≠ m.decl.vc then countMalformed i 0 s
  else if x.dt ≠ m.decl.dt then countMalformed i 1 s
  else if m.open_.isNone || decide (m.decl.height ≤ m.packets) then countMalformed i 5 s
  else stageLine i x s

/-- CAMERA_LINE_PACKET (R281). -/
def execCameraLinePacket (i : Nat) (x : CamPacket) (s : State) : Out :=
  done (if (s.cam i).receiving then linePacket i x s else s)

/-- CAMERA_LINE_LANDED (R281). -/
def execCameraLineLanded (i : Nat) (s : State) : Out := done (landLineOf i s)

/-- CAMERA_FE (R282): a frame whose lines have not all come is truncated. -/
def execCameraFe (i vc _number : Nat) (s : State) : Out :=
  let m := s.cam i
  done (if !m.receiving then s
    else if vc ≠ m.decl.vc then countMalformed i 0 s
    else if m.open_.isSome && decide (m.packets < m.decl.height) then dropOpen i 4 s else s)

/-! ### Embedded data (R276, R282, R287) -/

/-- The slot that keeps embedded data now: that of the open frame, or of the newest complete one until the next FS. -/
def embeddedSlot (m : Camera) : Option Nat :=
  match m.open_, m.newest with
  | some k, _ => some k
  | none, some k => if seqAfter (m.slots.getD k {}).seq = m.nextSeq then some k else none
  | none, none => none

/-- Embedded data kept up to 4,096 bytes of its frame (R276, R287). -/
def keepEmbedded (i : Nat) (bytes : List Byte) (s : State) : State :=
  let m := s.cam i
  match embeddedSlot m with
  | none => countMalformed i 5 s
  | some k =>
    let had := (m.slots.getD k {}).embBytes
    let kept := bytes.take (4096 - had)
    if had = 4096 then countMalformed i 5 s
    else if !m.handles.isEmpty then s
    else mapSlot i k (fun x => { x with embBytes := had + kept.length })
      (devWrite (m.ringBase * 61440 + 4096 * ceilDiv (64 * m.slots.length) 4096 + 4096 * k + had) kept s)

/-- CAMERA_EMBEDDED_DATA (R276). -/
def execCameraEmbeddedData (i vc : Nat) (bytes : List Byte) (crcOk : Bool) (s : State) : Out :=
  let m := s.cam i
  done (if !m.receiving then s
    else if vc ≠ m.decl.vc then countMalformed i 0 s
    else if !crcOk then dropOpen i 3 (countMalformed i 4 s)
    else keepEmbedded i bytes s)

/-! ### Discarded packets, errors and timers (R276, R283, R296, R297, R299) -/

/-- CAMERA_PACKET_DISCARD (R276): cause 0 wrong virtual channel, 1 other data type, 2 uncorrectable header; any other is a
packet that Table 9-1 marks as not counted. -/
def execCameraPacketDiscard (i cause : Nat) (s : State) : Out :=
  done (if !(s.cam i).receiving then s
    else match cause with
      | 0 => countMalformed i 0 s
      | 1 => countMalformed i 1 s
      | 2 => dropOpen i 1 (countMalformed i 2 s)
      | _ => s)

/-- CAMERA_LINK_ERROR (R283). -/
def execCameraLinkError (i : Nat) (s : State) : Out :=
  done (if (s.cam i).receiving then dropOpen i 10 (countMalformed i 4 s) else s)

/-- FRAME_TIMEOUT (R283): the open frame is not complete 1.5 frame periods after its FS. -/
def execFrameTimeout (i : Nat) (s : State) : Out :=
  let m := s.cam i
  done (if !m.receiving || m.open_.isNone then s
    else dropOpen i 5 ((s.atTime (m.fsTimes.headD 0 + 3 * m.decl.framePeriod / 2)).mapCam i fun m => { m with missing := max 1 m.missing }))

/-- FS_MISSING (R283): instant k after the last FS that opened a frame. -/
def execFsMissing (i : Nat) (s : State) : Out :=
  let m := s.cam i
  let k := m.missing + 1
  done (match m.receiving, m.fsTimes with
    | true, t :: _ =>
      let s := (s.atTime (t + (2 * k + 1) * m.decl.framePeriod / 2)).mapCam i fun m => { m with missing := k }
      if k = 1 ∧ m.open_.isSome then dropOpen i 5 s else countDrop i 9 s
    | _, _ => s)

/-- CAMERA_START_TIMEOUT (R296): no complete frame within 2 s of the oldest CAMERA_START that waits. -/
def execCameraStartTimeout (i : Nat) (s : State) : Out :=
  done (match (s.cam i).starts with
    | [] => s
    | b :: l => complete b (.err stDeviceAbsent (i + 2 * 256)) (s.mapCam i fun m => { m with starts := l }))

/-- CAMERA_STOP_TIMEOUT (R297). -/
def execCameraStopTimeout (i : Nat) (s : State) : Out := done (if (s.cam i).stops.isEmpty then s else stopNow i s)

/-- CAMERA_PHY_LINK_UP (R299). -/
def execCameraPhyLinkUp (i : Nat) (s : State) : Out :=
  .next (s.mapCam i fun m => { m with phyUp := m.receiving })

/-- CAMERA_PHY_LINK_LOST (R299). -/
def execCameraPhyLinkLost (i : Nat) (s : State) : Out := .next (s.mapCam i fun m => { m with phyUp := false })

/-! ### CAMERA_DECLARE (R277, R295) -/

/-- State of a stream (Table 9-2). -/
def StreamState.code : StreamState → Nat
  | .undeclared => 0 | .declared => 1 | .waiting => 2 | .running => 3 | .lost => 4

/-- Layer slots that name a stream in active or shadow state (R295). -/
def slotsNaming (s : State) (i : Nat) : Nat :=
  (s.layers.filter fun l => decide (l.state ≠ .unassigned) &&
    [l.active, l.shadow].any fun c => c.hasSource && c.kind == 1 && c.input == i).length

/-- The declaration of a payload (Table 9-7). -/
def camDeclOf (b : Barge) : CamDecl :=
  { vc := b.pay 1 1, dt := b.pay 2 1, twin := bit (b.pay 3 1) 1, width := b.pay 4 2, height := b.pay 6 2
    framePeriod := b.pay 8 4, linePeriod := b.pay 0x0C 4, enc := b.pay 0x10 1, range := b.pay 0x11 1, transfer := b.pay 0x12 1
    lossFrames := if b.pay 0x13 1 = 0 then 6 else b.pay 0x13 1, hide := b.pay 0x14 1 == 1
    phyLanes := b.pay 0x15 1, gear := b.pay 0x16 1, laneRate := b.pay 0x18 2, maxCll := b.pay 0x1A 2, maxFall := b.pay 0x1C 2 }

/-- The wire line exceeds the input's capacity: the A-PHY payload of the gear, or 0.9 of the D-PHY rate (R295). -/
def overCapacity (aphy : Bool) (d : CamDecl) : Bool :=
  let bits := (d.wireBytes + 6) * 8
  if aphy then decide (ratePayload d.gear * d.linePeriod < bits * 1000000)
  else decide (9 * d.phyLanes * d.laneRate * d.linePeriod < bits * 10000)

/-- The input is camera-facing (R295). -/
def cameraFacing (s : State) (i : Nat) : Bool := decide (i < 10) && (decide (8 ≤ i) || bit s.aphyDir i)

/-- Fields of Table 9-7; R295. -/
def camDeclareFields (b : Barge) (s : State) : List (Option Reply) :=
  let i := b.pay 0 1
  let aphy := decide (i < 8)
  let d := camDeclOf b
  let ycc := d.dt == 0x1E || d.dt == 0x1F
  [ fieldIf b 0 1 (!cameraFacing s i), fieldIf b 1 1 (decide (15 < d.vc)),
    fieldIf b 2 1 (!([0x1E, 0x1F, 0x22, 0x24].contains d.dt)),
    fieldIf b 4 2 (decide (d.width < 64) || decide (4096 < d.width) || (ycc && d.width % 2 != 0)),
    fieldIf b 6 2 (decide (d.height < 64) || decide (4096 < d.height)),
    fieldIf b 8 4 (decide (d.framePeriod < 8333333) || decide (200000000 < d.framePeriod)),
    fieldIf b 0x0C 4 (d.linePeriod == 0 || decide (d.framePeriod < d.linePeriod * d.height)),
    fieldIf b 0x10 1 (if ycc then decide (d.enc < 2) || decide (4 < d.enc) else decide (1 < d.enc)),
    fieldIf b 0x11 1 (decide (1 < d.range)), fieldIf b 0x12 1 (decide (5 < d.transfer)),
    fieldIf b 0x13 1 (decide (d.lossFrames < 2) || decide (60 < d.lossFrames)),
    fieldIf b 0x14 1 (decide (1 < b.pay 0x14 1)),
    fieldIf b 0x15 1 (if aphy then d.phyLanes != 0 else !([1, 2, 4].contains d.phyLanes)),
    fieldIf b 0x16 1 (if aphy then decide (d.gear < 0x11) || decide (0x14 < d.gear) else d.gear != 0),
    fieldIf b 0x18 2 (if aphy then d.laneRate != 0 else decide (d.laneRate < 80) || decide (2500 < d.laneRate)),
    fieldIf b 0x1C 2 (decide (d.maxCll < d.maxFall)),
    fieldIf b (if aphy then 0x16 else 0x18) (if aphy then 1 else 2) (overCapacity aphy d) ]

/-- Reserved bits of a CAMERA_DECLARE payload; R295. -/
def camDeclareReserved (b : Barge) : List (Option Reply) :=
  [ lenIs b 32, reservedBits b 3 0xFC, reservedBytes b 0x17 1, reservedBytes b 0x1E 2 ]

/-- The stream receives, or a layer names it; R295. -/
def camInUse (b : Barge) (s : State) : List (Option Reply) :=
  let i := b.pay 0 1
  let m := s.cam i
  [ failIf m.receiving (wrongState s m.state.code),
    failIf (decide (0 < slotsNaming s i)) (.err stBusy (slotsNaming s i)) ]

/-- Checks of CAMERA_DECLARE; R277, R295. -/
def cameraDeclareCheck (b : Barge) (s : State) : Option Reply :=
  firstFail (camDeclareReserved b ++ camDeclareFields b s ++ camInUse b s ++
    [ failIf (decide ((s.cam (b.pay 0 1)).state = .undeclared) && decide (8 ≤ (heldCams s).length)) (noResource 0x0030 0) ])

/-- Frames of a stream that wait for its encoder are lost with the ring that holds them (R447). -/
def loseBacklog (i : Nat) (s : State) : State :=
  match streamOf s 0 i with
  | none => s
  | some k =>
    (s.stream k).backlog.foldl (fun s f => noteGap k 3 f.1 s) (s.mapStream k fun r => { r with backlog := [] })

/-- The stream of an input gone: ring and staging queue freed. -/
def undeclared (i : Nat) (s : State) : State :=
  let s := match camRegion s i with | some r => freeRegion r.base s | none => s
  deleteQueue (camQueue i) (s.mapCam i fun _ => {})

/-- A stream as declared, with a new ring of the default SLOTS; the region that the old ring took is freed after that. -/
def declared (i : Nat) (d : CamDecl) (s : State) : State × Option MemFail :=
  let old := s.cam i
  let t := loseBacklog i (s.mapCam i fun _ => { state := .declared, decl := d, recorded := old.recorded })
  let n := (t.cam i).slotsAdmitted
  match placeRing i n t with
  | .inl t => (refreshSurfaces (createStaging i (freshSlots i n (deleteQueue (camQueue i) t))), none)
  | .inr f => (t, some f)

/-- Admission and effect of CAMERA_DECLARE; R295, R302. -/
def cameraDeclareApply (b : Barge) (s : State) : State :=
  let i := b.pay 0 1
  let (new, memFail) := declared i (camDeclOf b) s
  let (r, body) := runAdmission s { rest := undeclared i s, new, memFail }
  match r with
  | some r => complete b r s
  | none => complete b { report := some body } (readmitIf new)

/-- CAMERA_DECLARE; R295. -/
def execCameraDeclare (b : Barge) (s : State) : Out := bargeSync cameraDeclareCheck cameraDeclareApply b s

/-- Checks of CAMERA_DECLARE with REMOVE; R295. -/
def cameraRemoveCheck (b : Barge) (s : State) : Option Reply :=
  let i := b.pay 0 1
  firstFail (camDeclareReserved b ++ [ fieldIf b 0 1 (!cameraFacing s i) ] ++ camInUse b s ++
    [ failIf (s.cam i).recorded (.err stBusy 0xFF) ])

/-- Effect of CAMERA_DECLARE with REMOVE; R295. -/
def cameraRemoveApply (b : Barge) (s : State) : State :=
  let i := b.pay 0 1
  complete b .ok (if (s.cam i).state = .undeclared then s else readmitIf (refreshSurfaces (undeclared i s)))

/-- CAMERA_REMOVE; R295. -/
def execCameraRemove (b : Barge) (s : State) : Out := bargeSync cameraRemoveCheck cameraRemoveApply b s

/-! ### CAMERA_START and CAMERA_STOP (R296, R297) -/

/-- Checks of CAMERA_START; R296. -/
def cameraStartCheck (b : Barge) (s : State) : Option Reply :=
  let i := b.pay 0 1
  firstFail [ lenIs b 8, reservedBytes b 1 7, fieldIf b 0 1 (decide (9 < i)),
    failIf (decide ((s.cam i).state = .undeclared)) (wrongState s 0) ]

/-- Effect of CAMERA_START; R286, R296. -/
def cameraStartApply (b : Barge) (s : State) : State :=
  let i := b.pay 0 1
  if (s.cam i).state = .declared then
    markCommitted b (s.mapCam i fun m =>
      { m with
        state := .waiting, anyComplete := false, consec := 0, runDrops := List.replicate 11 0, fsTimes := [], missing := 0
        open_ := none, starts := m.starts ++ [b] })
  else complete b .ok s

/-- CAMERA_START; R296. -/
def execCameraStart (b : Barge) (s : State) : Out := bargeSync cameraStartCheck cameraStartApply b s

/-- The stream is the source of a camera layer in a slot of a pipe. -/
def feedsSlot (s : State) (i p n : Nat) : Bool := cameraLayerOf s p n && (s.layer n).active.input == i

/-- The lowest-numbered pipe whose CRITICAL tow or contract names a layer of the stream (R297). -/
def criticalPipeOf (s : State) (i : Nat) : Option Nat :=
  (List.range 8).find? fun p =>
    let t := (s.pipe p).tow
    (decide (t.state ≠ .off) && t.cls == 2 && feedsSlot s i p t.slot) ||
      s.contracts.any fun c => c.pipe == p && c.cls == 2 && feedsSlot s i p c.slot

/-- Checks of CAMERA_STOP; R297. -/
def cameraStopCheck (b : Barge) (s : State) : Option Reply :=
  let i := b.pay 0 1
  let m := s.cam i
  firstFail [ lenIs b 8, reservedBits b 1 0xFE, reservedBytes b 2 6, fieldIf b 0 1 (decide (9 < i)),
    failIf (decide (m.state = .undeclared)) (wrongState s 0),
    if m.receiving && !bit (b.pay 1 1) 0 then (criticalPipeOf s i).map fun p => .err stCriticalPipe p else none ]

/-- Effect of CAMERA_STOP: it waits for the next FS; R297. -/
def cameraStopApply (b : Barge) (s : State) : State :=
  let i := b.pay 0 1
  if (s.cam i).receiving then markCommitted b (s.mapCam i fun m => { m with stops := m.stops ++ [b] })
  else complete b .ok s

/-- CAMERA_STOP; R297. -/
def execCameraStop (b : Barge) (s : State) : Out := bargeSync cameraStopCheck cameraStopApply b s

/-! ### CAMERA_RING_SET (R291, R298) -/

/-- Handles of a CAMERA_RING_SET payload. -/
def ringHandles (b : Barge) : List Nat := if b.pay 1 1 = 1 then (List.range (b.pay 2 1)).map fun k => b.pay (8 + 8 * k) 8 else []

/-- Checks of one surface of a host ring: registered in the stored format at WIDTH × HEIGHT, not sealed, not lost (R116, R291). -/
def ringHandle (b : Barge) (s : State) (d : CamDecl) (k : Nat) : List (Option Reply) :=
  let h := b.pay (8 + 8 * k) 8
  match s.surface h with
  | none => [some (badHandle h)]
  | some x =>
    [ failIf x.sealed (wrongState s 1), failIf (decide (x.state = .lost)) (wrongState s 3),
      fieldIf b (8 + 8 * k) 8 (x.format != dtFormat d.dt || x.width != d.width || x.height != d.height || x.compressed) ]

/-- Checks of CAMERA_RING_SET; R291, R298. -/
def cameraRingSetCheck (b : Barge) (s : State) : Option Reply :=
  let i := b.pay 0 1
  let m := s.cam i
  let dest := b.pay 1 1
  let count := b.pay 2 1
  let slots := b.pay 4 2
  let hs := ringHandles b
  let r := if m.recorded then m.decl.recSlots else 0
  firstFail ([ lenIs b 56, reservedBytes b 3 1, reservedBytes b 6 2,
    fieldIf b 0 1 (decide (9 < i)), fieldIf b 1 1 (decide (1 < dest)),
    fieldIf b 2 1 (if dest = 1 then decide (count < 3) || decide (6 < count) else count != 0),
    fieldIf b 4 2 (if dest = 1 then slots != 0 else slots != 0 && (decide (slots < 4) || decide (128 < slots))) ] ++
    ((List.range 6).map fun k => fieldIf b (8 + 8 * k) 8 (decide (hs.length ≤ k) && b.pay (8 + 8 * k) 8 != 0)) ++
    [ failIf (decide (m.state ≠ .declared)) (wrongState s m.state.code),
      fieldIf b 4 2 (decide (dest = 0) && slots != 0 && decide (slots < 4 + r)),
      fieldIf b 2 1 (decide (dest = 1) && decide (count < 3 + (pipesNaming s i).length)),
      failIf (decide (dest = 1) && m.recorded) (freeReply stBusy s) ] ++
    (List.range hs.length).flatMap (ringHandle b s m.decl))

/-- The stream with the ring that a CAMERA_RING_SET asks for. -/
def ringSet (b : Barge) (s : State) : State × Option MemFail :=
  let i := b.pay 0 1
  let hs := ringHandles b
  if b.pay 1 1 = 1 then
    let t := match camRegion s i with | some r => freeRegion r.base s | none => s
    (refreshSurfaces (freshSlots i hs.length (t.mapCam i fun m => { m with handles := hs, ringBase := 0, slotsAsked := 0 })), none)
  else
    let t := loseBacklog i (s.mapCam i fun m => { m with handles := [], slotsAsked := b.pay 4 2 })
    let n := (t.cam i).slotsAdmitted
    match placeRing i n t with
    | .inl t => (refreshSurfaces (freshSlots i n t), none)
    | .inr f => (t, some f)

/-- Admission and effect of CAMERA_RING_SET; R298. -/
def cameraRingSetApply (b : Barge) (s : State) : State :=
  let (new, memFail) := ringSet b s
  let (r, body) := runAdmission s { rest := undeclared (b.pay 0 1) s, new, memFail }
  match r with
  | some r => complete b r s
  | none => complete b { report := some body } (readmitIf new)

/-- CAMERA_RING_SET; R298. -/
def execCameraRingSet (b : Barge) (s : State) : Out := bargeSync cameraRingSetCheck cameraRingSetApply b s

/-! ### CAMERA_STATUS (R299) -/

/-- PERIOD_MEAS: mean of the last 8 FS intervals, to the nearest; 0 with fewer than 2 intervals (Table 9-9). -/
def Camera.periodMeas (m : Camera) : Nat :=
  let n := m.fsTimes.length - 1
  if n < 2 then 0 else (2 * (m.fsTimes.headD 0 - m.fsTimes.getLastD 0) + n) / (2 * n)

/-- Body of the CAMERA_STATUS report (Table 9-9). -/
def cameraStatusBody (s : State) (i : Nat) : List Byte :=
  let m := s.cam i
  leBytes 1 m.state.code ++ leBytes 1 (b2n (m.receiving && m.phyUp)) ++ leBytes 1 (min 255 m.consec) ++ leBytes 1 0 ++
    leBytes 2 m.slots.length ++ leBytes 2 ((List.range m.slots.length).filter (slotPinned s i)).length ++
    leBytes 4 m.periodMeas ++ leBytes 4 m.losses ++ (m.drops.map (leBytes 4)).flatten ++ (m.malformed.map (leBytes 4)).flatten ++
    (match m.newest with | some k => slotRecord (m.slots.getD k {}) | none => leBytes 32 0) ++ leBytes 4 (min (2 ^ 32 - 1) m.latMax) ++
    leBytes 8 0

/-- Checks of CAMERA_STATUS; R299. -/
def cameraStatusCheck (b : Barge) (_ : State) : Option Reply :=
  firstFail [ lenIs b 8, reservedBytes b 1 7, fieldIf b 0 1 (decide (9 < b.pay 0 1)) ]

/-- Effect of CAMERA_STATUS; R299. -/
def cameraStatusApply (b : Barge) (s : State) : State := complete b { report := some (cameraStatusBody s (b.pay 0 1)) } s

/-- CAMERA_STATUS; R299. -/
def execCameraStatus (b : Barge) (s : State) : Out := barge cameraStatusCheck cameraStatusApply b s

/-! ### LATENCY_CONTRACT_SET (R293, R300) -/

/-- The contract of a payload. -/
def contractOf (b : Barge) : Contract := { pipe := b.pay 0 1, slot := b.pay 1 1, cls := b.pay 2 1, boundUs := b.pay 4 4 }

/-- Checks of LATENCY_CONTRACT_SET; R300. -/
def latencyContractSetCheck (b : Barge) (s : State) : Option Reply :=
  let c := contractOf b
  let x := s.pipe c.pipe
  let held := heldContracts s
  let tow := match x.towHeld with | some t => t.slot == c.slot | none => false
  firstFail [ lenIs b 16, reservedBytes b 3 1, reservedBytes b 8 8,
    fieldIf b 0 1 (decide (7 < c.pipe)), fieldIf b 1 1 (decide (63 < c.slot)), fieldIf b 2 1 (decide (2 < c.cls)),
    failIf (decide (x.state = .unconfigured)) (wrongState s 0),
    fieldIf b 1 1 (c.cls != 0 && (!cameraLayerOf s c.pipe c.slot || tow)),
    failIf (c.cls != 0 && decide (16 ≤ held.length) && !(held.any fun d => d.pipe == c.pipe && d.slot == c.slot)) (noResource 0x0032 0) ]

/-- A contract set, replaced or removed in force (R300). -/
def setContract (c : Contract) (s : State) : State :=
  { s with contracts := if c.cls = 0 then s.contracts.filter fun d => !(d.pipe == c.pipe && d.slot == c.slot) else putContract s.contracts c }

/-- The state without a contract, in force and waiting. -/
def withoutContract (c : Contract) (s : State) : State :=
  setContract { c with cls := 0 } (s.mapPipe c.pipe fun x =>
    { x with atLock := x.atLock.filter fun a => match a with | .contract _ d => d.slot != c.slot | _ => true })

/-- Effect of LATENCY_CONTRACT_SET: admission, then the next lock, or at once on a CONFIGURED pipe; R293, R300. -/
def latencyContractSetApply (b : Barge) (s : State) : State :=
  let c := contractOf b
  let atOnce := decide ((s.pipe c.pipe).state = .configured)
  let none_ := !((heldContracts s).any fun d => d.pipe == c.pipe && d.slot == c.slot)
  if c.cls = 0 ∧ none_ then complete b .ok s
  else
    let new := if atOnce then setContract c s else s.mapPipe c.pipe fun x => { x with atLock := x.atLock ++ [.contract b c] }
    let (r, body) := if c.cls = 0 then (none, admissionBody s { rest := withoutContract c s, new } none)
      else runAdmission s { rest := withoutContract c s, new, pipe := some c.pipe }
    match r with
    | some r => complete b r s
    | none => if atOnce then complete b { report := some body } (readmitIf new) else markCommitted b (noteReport b body new)

/-- LATENCY_CONTRACT_SET; R300. -/
def execLatencyContractSet (b : Barge) (s : State) : Out := bargeSync latencyContractSetCheck latencyContractSetApply b s

end Sys2Proof.Machine
end

