-- ==== Sys2Proof/Machine/Pound.lean ====
section
/-! DEFINITION. The pound's commands: queue operations of its clients (Table 12-2) and the opcodes of family 0x09 (file 12). -/
namespace Sys2Proof.Machine

open Sys2Proof

/-- An operation of a queue's producer: it reaches an existing queue from its producer only (R366, R367; log 5). -/
def byProducer (q client : Nat) (op : State → State) (s : State) : State :=
  if (s.queue q).state ≠ .absent ∧ (s.queue q).producer = client ∧ client ≠ 0 then op s else s

/-- An operation of a queue's consumer (R366, R367; log 5). -/
def byConsumer (q client : Nat) (op : State → State) (s : State) : State :=
  if (s.queue q).state ≠ .absent ∧ (s.queue q).consumer = client ∧ client ≠ 0 then op s else s

/-- PUT; R367. -/
def execPut (q client : Nat) (bytes : List Byte) (s : State) : Out := .next (byProducer q client (qPut q bytes) s)
/-- END; R367. -/
def execEndItem (q client : Nat) (s : State) : Out := .next (byProducer q client (qEnd q) s)
/-- CANCEL; R367. -/
def execCancel (q client : Nat) (s : State) : Out := .next (byProducer q client (qCancel q) s)
/-- ITEM_COMPLETE; R359. -/
def execItemComplete (q : Nat) (s : State) : Out := .next (qComplete q s)
/-- GET; R367. -/
def execGet (q client n : Nat) (s : State) : Out := .next (byConsumer q client (qGet q n) s)
/-- NEXT; R367. -/
def execNextItem (q client : Nat) (s : State) : Out := .next (byConsumer q client (qNext q) s)
/-- DROP_REMAINDER; R373. -/
def execDropRemainder (q client : Nat) (s : State) : Out := .next (byConsumer q client (qDrop q) s)
/-- MARK; R372. -/
def execMarkRead (q client : Nat) (s : State) : Out := .next (byConsumer q client (qMark q) s)
/-- REWIND; R372. -/
def execRewind (q client : Nat) (s : State) : Out := .next (byConsumer q client (qRewind q) s)
/-- RELEASE; R372. -/
def execRelease (q client : Nat) (s : State) : Out := .next (byConsumer q client (qRelease q) s)

/-- QUARTER_DRAIN_TIMEOUT (R364): a quarter not emptied within 2 s skips its test for the round. -/
def execQuarterDrainTimeout (k : Nat) (s : State) : Out :=
  .next (if s.pound.draining.getD k false then
    (s.mapPound fun p => { p with draining := p.draining.set k false }).mapFaults fun f =>
      { f with tests := f.tests.filter fun t => !(t.kind = 3 && t.index = k && t.preparing) }
    else s)

/-- The lowest host queue that is ABSENT (R381). -/
def freeHostQueue (s : State) : Option Nat :=
  (((List.range 64).map (· + 192)).find? fun q => (s.queue q).state = .absent)

/-- Weir marks in range, WEIR_HI above WEIR_LO when both are enabled (Table 12-7). -/
def weirFields (b : Barge) (off : Nat) (flags : Nat) : List (Option Reply) :=
  [ fieldIf b off 2 (decide (16384 < b.pay off 2)),
    fieldIf b (off + 2) 2 (decide (16384 < b.pay (off + 2) 2)),
    fieldIf b off 2 (bit flags 0 && bit flags 1 && decide (b.pay off 2 ≤ b.pay (off + 2) 2)) ]

/-- Checks of Q_CREATE; R381. -/
def qCreateCheck (b : Barge) (s : State) : Option Reply :=
  let q := b.pay 0 1
  firstFail ([ lenIs b 16, reservedBits b 1 0xFC, reservedBytes b 6 2, reservedBits b 0x0C 0xFC, reservedBytes b 0x0D 3,
    fieldIf b 0 1 (decide (q < 192)),
    fieldIf b 2 2 (b.pay 2 2 = 0 || decide (256 < b.pay 2 2)),
    fieldIf b 4 2 (decide (b.pay 4 2 < b.pay 2 2) || decide (4096 < b.pay 4 2)) ] ++ weirFields b 0x08 (b.pay 0x0C 1) ++
   [ failIf (q != 0xFF && decide ((s.queue q).state ≠ .absent))
      (wrongState s (if (s.queue q).state = .bound then 2 else 1)),
     failIf (q = 0xFF && (freeHostQueue s).isNone) (.err stNoResource 0x0040) ])

/-- Effect of Q_CREATE; R381. -/
def qCreateApply (b : Barge) (s : State) : State :=
  let q := if b.pay 0 1 = 0xFF then (freeHostQueue s).getD 255 else b.pay 0 1
  complete b (.ok q) (s.mapQueue q fun _ =>
    { state := .created, notify := b.pay 1 1 % 4, maxItem := b.pay 2 2, quota := b.pay 4 2,
      weirHi := b.pay 8 2, weirLo := b.pay 10 2, hiEn := bit (b.pay 0x0C 1) 0, loEn := bit (b.pay 0x0C 1) 1 })

/-- Q_CREATE; R381. -/
def execQCreate (b : Barge) (s : State) : Out := barge qCreateCheck qCreateApply b s

/-- A queue that does not exist: ST_BAD_HANDLE with the number given. -/
def queueAbsent (b : Barge) (s : State) : Option Reply :=
  failIf (decide ((s.queue (b.pay 0 1)).state = .absent)) (.err stBadHandle (b.pay 0 1))

/-- Checks of Q_DELETE; R382. -/
def qDeleteCheck (b : Barge) (s : State) : Option Reply :=
  let x := s.queue (b.pay 0 1)
  firstFail [ lenIs b 8, reservedBytes b 1 7, queueAbsent b s,
    failIf (decide (b.pay 0 1 < 192)) (.err stNotPermitted 0x01),
    failIf (x.producer != 0 || x.consumer != 0) (.err stBusy (x.producer + x.consumer * 256)) ]

/-- Effect of Q_DELETE; R382. -/
def qDeleteApply (b : Barge) (s : State) : State := complete b .ok (deleteQueue (b.pay 0 1) s)

/-- Q_DELETE; R382. -/
def execQDelete (b : Barge) (s : State) : Out := barge qDeleteCheck qDeleteApply b s

/-- Checks of Q_QUOTA_SET; R383. -/
def qQuotaSetCheck (b : Barge) (s : State) : Option Reply :=
  let x := s.queue (b.pay 0 1)
  firstFail [ lenIs b 8, reservedBytes b 1 1, reservedBytes b 4 4, queueAbsent b s,
    failIf x.reserved (.err stNotPermitted 0x02),
    fieldIf b 2 2 (decide (b.pay 2 2 < x.maxItem) || decide (4096 < b.pay 2 2)) ]

/-- Effect of Q_QUOTA_SET: DETAIL holds the previous quota; R383. -/
def qQuotaSetApply (b : Barge) (s : State) : State :=
  let q := b.pay 0 1
  complete b (.ok (s.queue q).quota) (s.mapQueue q fun x => { x with quota := b.pay 2 2 })

/-- Q_QUOTA_SET; R383. -/
def execQQuotaSet (b : Barge) (s : State) : Out := barge qQuotaSetCheck qQuotaSetApply b s

/-- Checks of Q_WEIR_SET; R384. -/
def qWeirSetCheck (b : Barge) (s : State) : Option Reply :=
  firstFail ([ lenIs b 16, reservedBits b 1 0xC0, reservedBytes b 3 1, reservedBytes b 8 8 ] ++
    (if bit (b.pay 1 1) 3 then [] else weirFields b 4 (b.pay 1 1)) ++ [ queueAbsent b s ])

/-- Effect of Q_WEIR_SET; R384, R377. -/
def qWeirSetApply (b : Barge) (s : State) : State :=
  let q := b.pay 0 1
  let w := b.pay 1 1
  let x := s.queue q
  let clear := bit w 2 && x.notice && decide (x.crossings = b.pay 2 1)
  let s := if bit w 3 then s else s.mapQueue q fun x =>
    { x with hiEn := bit w 0, loEn := bit w 1, notify := field w 5 4, weirHi := b.pay 4 2, weirLo := b.pay 6 2 }
  let s := if clear then s.mapQueue q fun x =>
    { x with notice := false, crossings := 0, dirUp := false, dirDown := false, extHi := x.level, extLo := x.level } else s
  complete b (.ok (b2n clear + x.crossings * 256)) s

/-- Q_WEIR_SET; R384. -/
def execQWeirSet (b : Barge) (s : State) : Out := barge qWeirSetCheck qWeirSetApply b s

/-- Checks of Q_FLUSH; R385. -/
def qFlushCheck (b : Barge) (s : State) : Option Reply :=
  let q := b.pay 0 1
  firstFail [ lenIs b 8, reservedBytes b 1 7, queueAbsent b s,
    failIf (!(decide (32 ≤ q ∧ q ≤ 41) || decide (192 ≤ q))) (.err stNotPermitted 0x01) ]

/-- Effect of Q_FLUSH: DETAIL holds what was freed; R385. -/
def qFlushApply (b : Barge) (s : State) : State :=
  let q := b.pay 0 1
  let (items, voided, mark, cells) := flushCounts (s.queue q)
  complete b (.ok (items + voided * 2 ^ 32 + b2n mark * 2 ^ 40 + cells * 2 ^ 48)) (qFlush q s)

/-- Q_FLUSH; R385. -/
def execQFlush (b : Barge) (s : State) : Out := barge qFlushCheck qFlushApply b s

/-- Register block of a queue (Table 12-4). -/
def queueBlock (x : Queue) : List Byte :=
  let st : Nat := match x.state with | .absent => 0 | .created => 1 | .bound => 2
  if x.state = .absent then List.replicate 64 0
  else
    leBytes 4 (x.consumer * 2 ^ 24 + x.producer * 2 ^ 16 + x.notify * 2 ^ 10 + b2n x.reserved * 2 ^ 9 + b2n x.voiding * 2 ^ 8 +
      b2n x.hiEn * 2 ^ 7 + b2n x.loEn * 2 ^ 6 + st) ++
    leBytes 4 (x.quota * 2 ^ 16 + x.maxItem) ++
    leBytes 4 (x.weirHi * 2 ^ 16 + x.weirLo) ++
    leBytes 4 ((x.held ++ x.items.filter (·.complete)).length * 2 ^ 16 + x.level) ++
    leBytes 4 (x.crossings * 2 ^ 8 + b2n x.dirDown * 4 + b2n x.dirUp * 2 + b2n x.notice) ++
    leBytes 4 (x.extHi * 2 ^ 16 + x.extLo) ++
    leBytes 4 (b2n x.markOff.isSome * 2 ^ 31 + b2n x.flushPending * 2 ^ 30 + x.readOff) ++
    leBytes 4 (x.held.length * 2 ^ 16 + x.markOff.getD 0) ++
    leBytes 4 x.itemsIn ++ leBytes 4 x.itemsOut ++ leBytes 4 x.voided ++ leBytes 4 x.quotaRefusals ++ leBytes 4 x.poisoned ++
    List.replicate 12 0

/-- Four flags as a number. -/
def flags4 (l : List Bool) : Nat := ((List.range 4).map fun k => b2n (l.getD k false) * 2 ^ k).sum

/-- Pool registers of Table 12-5, 16 bytes. -/
def poolBlock (p : Pound) : List Byte :=
  leBytes 4 (commonHeld p * 2 ^ 16 + min 0xFFFF (freeCells p)) ++
  leBytes 4 (guarantee p * 2 ^ 16 + reservedSum p) ++
  leBytes 4 (flags4 p.faulted * 2 ^ 12 + flags4 p.underTest * 2 ^ 8 + flags4 p.draining * 2 ^ 4 + flags4 p.powered) ++
  List.replicate 4 0

/-- Checks of Q_QUERY; R386. -/
def qQueryCheck (b : Barge) (_ : State) : Option Reply := firstFail [ lenIs b 8, reservedBytes b 1 7 ]

/-- Effect of Q_QUERY: its report; R386. -/
def qQueryApply (b : Barge) (s : State) : State :=
  complete b { report := some (queueBlock (s.queue (b.pay 0 1)) ++ poolBlock s.pound) } s

/-- Q_QUERY; R386. -/
def execQQuery (b : Barge) (s : State) : Out := barge qQueryCheck qQueryApply b s

end Sys2Proof.Machine
end

