-- ==== Sys2Proof/Machine/Faults.lean ====
section
/-! DEFINITION. Objects taken out of service by a fault or a failed test, and what follows from it: GDDR6 devices, control
pairs, regulator phases, pound quarters, 2D engines, encoders; rolling self-test and BIST (file 18). -/
namespace Sys2Proof.Machine

open Sys2Proof

/-! ### Loss of a GDDR6 device (R544 to R546) -/

/-- A surface that has a byte in a non-twin granule of the lost device becomes LOST (R101, Table 18-8). -/
def loseSurfaces (s : State) : State :=
  s.surfaces.foldl (fun t x =>
    if x.live && decide (x.state ≠ .lost) && surfaceLost t x then
      raise 103 0x0202 (leBytes 8 x.handle) (t.mapSurface x.index fun y => { y with state := .lost })
    else t) s

/-- A region has lost a granule without a copy. -/
def regionLost (s : State) (r : Region) : Bool := rangeLost s r.base r.count

/-- Frames of a source that its streams have not encoded are gaps with cause MEMORY: 0 a camera, 1 a pipe (R447, R545). -/
def loseFrames (kind source : Nat) (s : State) : State :=
  (List.range 16).foldl (fun s k =>
    let r := s.stream k
    if r.live && r.kind == kind && r.source == source then
      (r.backlog.foldl (fun s f => noteGap k 4 f.1 s) s).mapStream k fun r => { r with backlog := [] }
    else s) s

/-- A camera's private ring has lost memory: its open frame is dropped, and it is replaced at the next FS (R292). -/
def loseCamRing (i : Nat) (s : State) : State :=
  match camRegion s i with
  | some r =>
    if regionLost s r && !(s.cam i).ringLost then
      (loseFrames 0 i (dropOpen i 11 s)).mapCam i fun m => { m with ringLost := true }
    else s
  | none => s

/-- A write-back ring has lost memory: it is allocated again, and its frames are lost (R545). -/
def loseWbRing (p : Nat) (s : State) : State :=
  match wbRegion s p with
  | none => s
  | some r =>
    if !regionLost s r then s
    else
      let s := (loseFrames 1 p (freeRegion r.base s)).mapPipe p fun x => { x with wb := { x.wb with frames := [], next := 0 } }
      match placeRegion r.count false (.writeback p) s with
      | some (_, s) => s
      | none => memoryShort (0x10 + p) r.count (longestRun s) true s

/-- Granules of the pound backing in the fixed private area (log 20). -/
def backingGranules : List Nat := (List.range 69).map (fixedGranule + 1393 + ·)

/-- The pound backing's granules on a lost device are allocated again from the pool (R545). -/
def replaceBacking (d : Nat) (s : State) : State :=
  (backingGranules.filter fun g => deviceOf g == d).foldl (fun s g =>
    match newMirror s d with
    | some n => s.mapMem fun m => { m with fixedCopies := m.fixedCopies ++ [(g, n)] }
    | none => s) s

/-- Live cells that an out-of-service quarter has in a lost granule of the backing are lost (R364, R552). -/
def loseBackedCells (d : Nat) (s : State) : State :=
  s.mapPound fun p =>
    { p with badCells := (p.badCells ++ p.used.filter fun c =>
        p.faulted.getD (c / 4096) false && deviceOf (fixedGranule + 1393 + 256 * c / 61440) == d).eraseDups }

/-- A device is declared lost (R544, R545, R553). -/
def declareDevice (d : Nat) (s : State) : State :=
  if s.mem.lost.getD d true then s
  else
    let second := s.mem.lost.any (·)
    let s := quarantine 9 d (faultRecord 2 d 2 (objectFlags s 9 d second) [] s)
    let s := if second then setCondition 1 s else s
    let s := (s.mapMem fun m => { m with lost := m.lost.set d true, crcFails := m.crcFails.set d 0 }).mapLedger fun l =>
      { l with deviceLost := true }
    let waiting := (twinGranules s).filter fun g => (survivors s g).length == 1
    let s := s.mapMem fun m => { m with remirror := waiting }
    let s := raise 161 0x0D05 (leBytes 1 d ++ leBytes 3 0 ++ leBytes 4 waiting.length) s
    let s := loseSurfaces s
    let s := (List.range 10).foldl (fun s i => loseCamRing i s) s
    let s := (List.range 8).foldl (fun s p => loseWbRing p s) s
    readmit (replaceBacking d (loseBackedCells d s))

/-- GDDR6_CRC_FAIL (R544): a burst, or its retry, has failed its CRC; `retryOk` tells whether the retry that follows passes.
Three retries that fail declare the device lost. -/
def execGddr6CrcFail (d : Nat) (retryOk : Bool) (s : State) : Out :=
  done (if s.mem.lost.getD d true then s
    else
      let n := if retryOk then 0 else s.mem.crcFails.getD d 0 + 1
      let s := s.mapMem fun m => { m with crcFails := m.crcFails.set d n }
      if 3 ≤ n then declareDevice d s else s)

/-- GDDR6_SUPPLY_FAULT (R544). -/
def execGddr6SupplyFault (d : Nat) (s : State) : Out := done (declareDevice d s)

/-- REMIRROR_COMPLETE (R546): the waiting granules have their new copies, as far as the pool had room. -/
def execRemirrorComplete (s : State) : Out :=
  done (if s.mem.remirror.isEmpty || oneCopyShort s then s
    else
      let t := remirrorAll s
      let left := t.mem.remirror.length
      let t := raise 161 0x0D06 (leBytes 4 (s.mem.remirror.length - left) ++ leBytes 4 left) t
      memoryShort 0xFFFF left 0 (decide (0 < left)) t)

/-- Devices with 32 uncorrectable codewords within 10 ms are declared lost (R544). -/
def dueDevices (s : State) : State :=
  (List.range 4).foldl (fun s d =>
    if 32 ≤ ((s.faults.recentBad.getD d []).filter fun t => decide (s.time < t + 10000000)).length then declareDevice d s else s) s

/-! ### Control pairs (R549) -/

/-- The internal sources that a pair has claimed are completed and sampled again (R426, R549). -/
def completeClaims (pair : Nat) (s : State) : State :=
  let l := (at_ s.events.pairs pair).claims
  let s := l.foldl (fun s c => s.mapSource false c.1 fun x => x.complete (internalLevelKind c.1)) s
  s.mapEvents fun e => { e with pairs := e.pairs.modify pair fun p => { p with claims := [] } }

/-- The records of barges that the halted pair had committed carry RECOVERED; which of a ring's committed barges were that
pair's is a free value (R549). -/
def recoverCommitted (s : State) : State :=
  (s.mapHost fun h => { h with rings := h.rings.zipIdx.map fun r =>
    { r.1 with inflight := r.1.inflight.zipIdx.map fun f =>
        if f.1.committed && f.1.result.isNone && Config.freeNat (s.free + 64 * r.2 + f.2) % 2 == 1 then
          { f.1 with recovered := true } else f.1 } }).takeFree

/-- A pair is out of service: the other one carries the load (R549). The count of barges executed again is a free value. -/
def pairFault (pair : Nat) (s : State) : State :=
  if s.faults.pairBad.getD pair true then s
  else
    let s := quarantine 4 pair (faultRecord 6 pair 2 (objectFlags s 4 pair false) [] s)
    let s := s.mapFaults fun f =>
      { f with pairBad := f.pairBad.set pair true, tests := f.tests.filter fun t => !(t.kind == 4 && t.barge.isNone && !t.offline) }
    let s := recoverCommitted (completeClaims pair s)
    raise 162 0x0D07 (leBytes 1 pair ++ leBytes 1 0 ++ leBytes 2 (Config.freeNat s.free)) s.takeFree

/-! ### Regulator phases (R550) -/

/-- Phases of the rails of Table 16-1. -/
def railPhases : List Nat := [1, 7, 3, 4, 3]

/-- A phase is disabled; the second of a rail forbids sprint (R550, R553). A phase stands as kind 10 among injected objects,
as Table 18-10 has no kind for it. -/
def phaseFault (rail phase : Nat) (s : State) : State :=
  let k := rail * 8 + phase
  if s.power.phases.contains k || decide (railPhases.getD rail 0 ≤ phase) then s
  else
    let second := s.power.phases.any fun x => x / 8 == rail
    let s := faultRecord 7 k 2 (objectFlags s 10 k second) [] s
    let s := s.mapPower fun p => { p with phases := p.phases ++ [k], sprintBarred := p.sprintBarred || second }
    let s := if second then setCondition 1 s else s
    raise 162 0x0D08 (leBytes 1 rail ++ leBytes 1 phase) s

/-- PHASE_FAULT (R550). -/
def execPhaseFault (rail phase : Nat) (s : State) : Out := done (if railsOn s then phaseFault rail phase s else s)

/-! ### Pound quarters (R364, R552) -/

/-- A quarter is out of service: its cell indexes are served from the backing (R364). -/
def quarterFault (k : Nat) (s : State) : State :=
  if s.pound.faulted.getD k true then s
  else
    let s := quarantine 3 k (faultRecord 8 k 2 (objectFlags s 3 k false) [] s)
    s.mapPound fun p =>
      powerQuarters { p with
        faulted := p.faulted.set k true, powered := p.powered.set k false, draining := p.draining.set k false
        underTest := p.underTest.set k false }

/-- QUARTER_SUBSTITUTION (R552): the live cells are copied to the backing; those with an uncorrectable word are poisoned. -/
def execQuarterSubstitution (quarter : Nat) (badCells : List Nat) (s : State) : Out :=
  done (if railsOn s && decide (quarter < 4) then
      (quarterFault quarter s).mapPound fun p =>
        { p with badCells := (p.badCells ++ badCells.filter fun c => c / 4096 == quarter && p.used.contains c).eraseDups }
    else s)

/-! ### 2D engines, encoders (R558) -/

/-- A job as it stands before it begins. -/
def freshJob (j : TwoDJob) : TwoDJob := { barge := j.barge, ops := j.ops, batch := j.batch }

/-- A 2D engine is out of service: its jobs and its reservation move to the other engine (R558). -/
def engineFault (e : Nat) (s : State) : State :=
  if s.faults.engineBad.getD e true then s
  else
    let o := 1 - e
    let x := s.engine e
    let s := quarantine 5 e (s.mapFaults fun f => { f with engineBad := f.engineBad.set e true })
    let n := (s.engine o).queue.length + b2n (s.engine o).cur.isSome + b2n x.cur.isSome
    let s := (s.mapEngine o fun y =>
      { y with
        queue := y.queue ++ x.cur.toList.map freshJob ++ x.queue
        burst := if y.rate = 0 then x.burst else y.burst
        rate := min 32000000 (y.rate + x.rate)
        removals := y.removals ++ x.removals.map fun r => (r.1, n + r.2) }).mapEngine e fun y =>
          { y with queue := [], cur := none, rate := 0, removals := [], idleSince := s.time }
    readmit s

/-- An encoder is out of service: its streams move to the other one (R558). -/
def encoderFault (e : Nat) (s : State) : State :=
  if s.faults.encoderBad.getD e true then s
  else
    let s := quarantine 6 e (s.mapFaults fun f => { f with encoderBad := f.encoderBad.set e true })
    let s := replaceEncoders s
    let s := s.mapRec fun r => { r with streams := r.streams.map fun x => { x with encoder := x.encoderNext } }
    readmit s

/-- A check-value channel is out of service (R389, R558). -/
def channelFault (c : Nat) (s : State) : State :=
  if (s.chan c).failed then s else readmit (quarantine 7 c (failChannel c s))

/-- A scan-out read path has failed its test: as the path in use under R551, or the standby path alone (R553). -/
def testedPathFault (k : Nat) (s : State) : State :=
  let l := k / 2
  let path := k % 2
  if b2n (s.link l).standby = path then pathFault l s
  else if bit (s.link l).pathFaults path then s
  else
    let s := quarantine 8 k (faultRecord 9 k 2 (objectFlags s 8 k false) [] s)
    s.mapLink l fun x => { x with pathFaults := x.pathFaults ||| 2 ^ path, switchDue := false }

/-! ### A failed test (R558) -/

/-- The target of a failed test taken out of service as if it had faulted. -/
def takeOut (kind index : Nat) (s : State) : State :=
  match kind with
  | 1 => declareLane index 5 s
  | 2 =>
    if s.basin.shadow = some index then shadowFails s
    else match (s.basin.map.zipIdx.find? fun x => x.1 == index).map (·.2) with
      | some b => bankFails b s
      | none => s
  | 3 => quarterFault index s
  | 4 => pairFault index s
  | 5 => engineFault index s
  | 6 => encoderFault index s
  | 7 => channelFault index s
  | 8 => testedPathFault index s
  | _ => s

/-- The target is out of service already. -/
def targetOut (s : State) (kind index : Nat) : Bool :=
  match kind with
  | 1 => s.lanes.bad.getD index false
  | 2 => bankDead s index
  | 3 => s.pound.faulted.getD index false
  | 4 => s.faults.pairBad.getD index false
  | 5 => s.faults.engineBad.getD index false
  | 6 => s.faults.encoderBad.getD index false
  | 7 => (s.chan index).failed
  | 8 => bit (s.link (index / 2)).pathFaults (index % 2)
  | 9 => s.mem.lost.getD index false
  | _ => s.power.phases.contains index

/-- EV_SELFTEST_FAILED, the record, the condition and the target's removal (R558, R564, R569). Which BIST failed, and the
signature, are free values. -/
def selftestFailed (kind index : Nat) (s : State) : State :=
  let which := Config.freeNat s.free % 3
  let s := faultRecord 12 index 2 (objectFlags s kind index false) [] s
  let s := raise 163 0x0D09 (leBytes 1 kind ++ leBytes 1 index ++ leBytes 1 (b2n (which != 1)) ++ leBytes 1 (b2n (which != 0)) ++
    leBytes 8 (Config.bistSignature s.free).toNat) s
  takeOut kind index (setCondition 6 s.takeFree)

/-! ### Return to service (R571, R575) -/

/-- A lane in service again: it composes for its stopped logical lane, or becomes the spare. -/
def laneBack (k : Nat) (s : State) : State :=
  s.mapLanes fun l =>
    let l := { l with bad := l.bad.set k false }
    match (l.map.zipIdx.find? fun x => x.1 == k).map (·.2) with
    | some j => { l with stopped := l.stopped.set j false }
    | none => { l with spare := k, noSpare := false }

/-- A channel in service again; the general channel that signed in place of a privileged one is general again. -/
def channelBack (c : Nat) (s : State) : State :=
  let s := s.mapChan c fun x => { x with failed := false }
  if c < 12 then s else s.mapChan (c - 4) fun x => { ({} : Channel) with failed := x.failed }

/-- An object returns to service and leaves the quarantine record; a GDDR6 device returns at the next BOOT (R554, R571). -/
def restoreObject (kind index : Nat) (s : State) : State :=
  let out := targetOut s kind index
  let s := (unquarantine kind index s).mapFaults fun f => { f with injected := f.injected.filter (· != (kind, index)) }
  if !out then s
  else readmit (match kind with
    | 1 => laneBack index s
    | 2 => (s.mapFaults fun f => { f with bankBad := f.bankBad.set index false }).mapBasin fun b =>
        if b.shadow.isNone && b.failed.isNone && !b.map.contains index then { b with shadow := some index, shadowErrs := [] } else b
    | 3 => s.mapPound fun p => powerQuarters { p with faulted := p.faulted.set index false }
    | 4 => s.mapFaults fun f => { f with pairBad := f.pairBad.set index false }
    | 5 => s.mapFaults fun f => { f with engineBad := f.engineBad.set index false }
    | 6 => replaceEncoders (s.mapFaults fun f => { f with encoderBad := f.encoderBad.set index false })
    | 7 => channelBack index s
    | 8 => s.mapLink (index / 2) fun x => { x with pathFaults := x.pathFaults &&& (3 - 2 ^ (index % 2)) }
    | 10 => s.mapPower fun p => { p with phases := p.phases.filter (· != index) }
    | _ => s)

/-! ### Rolling self-test (R555 to R558) -/

/-- Quarters are tested only while empty, with the guarantee met by the others (R364). -/
def othersCover (s : State) (k : Nat) : Bool := decide (guarantee s.pound ≤ freeCellsOf s.pound fun j => j != k)

/-- A quarter prepared for a test: tested at once when it is empty, else it drains (R364). -/
def prepareQuarter (k : Nat) (t : TestRun) (s : State) : State :=
  if quarterUsed s.pound k = 0 then
    (s.mapPound fun p => { p with underTest := p.underTest.set k true }).mapFaults fun f => { f with tests := f.tests ++ [t] }
  else
    (s.mapPound fun p => { p with draining := p.draining.set k true }).mapFaults fun f =>
      { f with tests := f.tests ++ [{ t with preparing := true }] }

/-- A handover of the logical lane of a physical lane begins, so that the lane can be tested (R234, R555). -/
def relieveLane (phys : Nat) (s : State) : State :=
  match (s.lanes.map.zipIdx.find? fun x => x.1 == phys).map (·.2) with
  | some k =>
    if s.lanes.handover.isNone && s.lanes.queue.isEmpty && !s.lanes.noSpare then
      s.mapLanes fun l => { l with handover := some { lane := k, out := phys, inc := l.spare, test := true } }
    else s
  | none => s

/-- The mapped physical lane tested least recently, the lowest number on a tie. -/
def oldestLane (s : State) : Option Nat :=
  (((List.range 9).filter fun k => s.lanes.map.contains k && !s.lanes.bad.getD k false).inOrder fun a b =>
    decide (s.lanes.tested.getD a 0 ≤ s.lanes.tested.getD b 0)).head?

/-- A test in progress added. -/
def addTest (t : TestRun) (s : State) : State := s.mapFaults fun f => { f with tests := f.tests ++ [t] }

/-- The LANE step (R555): first the spare without a handover, then the lane tested least recently. -/
def laneStep (s : State) : State :=
  if s.lanes.noSpare || s.lanes.handover.isSome || !s.lanes.queue.isEmpty then s
  else if !s.faults.firstLane then
    addTest { kind := 1, index := s.lanes.spare, start := s.time } (s.mapFaults fun f => { f with firstLane := true })
  else match oldestLane s with
    | some k => relieveLane k (addTest { kind := 1, index := k, preparing := true, start := s.time } s)
    | none => s

/-- Target of an IDLE step: two engines, two encoders and sixteen channels in turn. -/
def idleTarget (n : Nat) : Nat × Nat := if n < 2 then (5, n) else if n < 4 then (6, n - 2) else (7, n - 4)

/-- A step on a target number of its kind (R555 to R557); a step whose target cannot be tested now is skipped. -/
def startStep (kind n : Nat) (s : State) : State :=
  match kind with
  | 0 => laneStep s
  | 1 => if bankDead s n || s.basin.failed.isSome then s else addTest { kind := 2, index := n, start := s.time } s
  | 2 => if s.pound.faulted.getD n true || !othersCover s n then s else prepareQuarter n { kind := 3, index := n, start := s.time } s
  | 3 => if s.faults.pairBad.any id then s else addTest { kind := 4, index := n, start := s.time } (completeClaims n s)
  | _ =>
    let t := idleTarget n
    if targetOut s t.1 t.2 then s else addTest { kind := t.1, index := t.2, start := s.time } s

/-- Targets of each kind of step. -/
def stepTargets : List Nat := [1, 17, 4, 2, 20]

/-- The step kind of Table 18-3 that tests a target kind of Table 18-10. -/
def stepOf (kind : Nat) : Nat := if 5 ≤ kind then 4 else kind - 1

/-- SELFTEST_STEP (R555): a step of a kind starts when its period has passed and the scheduler runs class SELFTEST. -/
def execSelftestStep (kind : Nat) (s : State) : Out :=
  let period := s.faults.periods.getD kind 0
  let n := s.faults.nextTarget.getD kind 0
  done (if !s.mode.base.isBase || s.mode.contain || holding s || !bit s.power.running 0 || period = 0 ||
      decide (s.time < s.faults.lastStep.getD kind 0 + period * 1000000000) ||
      (s.faults.tests.any fun t => t.barge.isNone && stepOf t.kind == kind) then s
    else startStep kind n (s.mapFaults fun f =>
      { f with lastStep := f.lastStep.set kind s.time
               nextTarget := f.nextTarget.set kind ((n + 1) % max 1 (stepTargets.getD kind 1)) }))

/-- A target that has passed is as before its test. -/
def endTest (t : TestRun) (s : State) : State :=
  match t.kind with
  | 1 => s.mapLanes fun l => { l with tested := l.tested.set t.index s.time }
  | 3 => s.mapPound fun p =>
    trimQuarters { p with underTest := p.underTest.set t.index false, draining := p.draining.set t.index false }
  | _ => s

/-- SELFTEST_STEP_END (R558). -/
def execSelftestStepEnd (kind : Nat) (pass : Bool) (s : State) : Out :=
  done (match s.faults.tests.find? fun t => t.barge.isNone && !t.offline && !t.preparing && stepOf t.kind == kind with
    | none => s
    | some t =>
      let s := endTest t (s.mapFaults fun f => { f with tests := f.tests.filter (· != t) })
      if pass then s else selftestFailed t.kind t.index s)

/-! ### BIST_RUN (R571) -/

/-- Number of instances of a kind (Table 18-10). -/
def instances (kind : Nat) : Nat := [0, 9, 17, 4, 2, 2, 2, 16, 24, 4].getD kind 0

/-- Checks of BIST_RUN; R571. -/
def bistRunCheck (b : Barge) (s : State) : Option Reply :=
  let kind := b.pay 0 1
  let index := b.pay 1 1
  let mode := b.pay 2 1
  firstFail [ lenIs b 8, reservedBits b 2 0xFC, reservedBytes b 3 5,
    fieldIf b 0 1 (kind = 0 || decide (9 < kind)), fieldIf b 1 1 (decide (instances kind ≤ index)),
    fieldIf b 2 1 (mode == 2 || (kind == 9 && mode != 3)),
    failIf (mode != 0 && decide (s.mode.base ≠ .depot)) (.err stNotPermitted 0x30),
    failIf ((kind == 1 && s.lanes.noSpare && !targetOut s 1 index) || (kind == 4 && s.faults.pairBad.getD (1 - index) false) ||
        (targetOut s kind index && !bit mode 1)) (wrongStateFree s) ]

/-- The BIST report body (R571). EXPECTED is the ROM's signature of the kind and mode; a failing run's signature, address and
RESULT are free values. -/
def bistBody (t : TestRun) (pass : Bool) (s : State) : List Byte :=
  let expected := (Config.bistSignature (2 * t.kind + b2n t.offline)).toNat
  leBytes 8 (if pass then expected else (Config.bistSignature (64 + s.free)).toNat) ++ leBytes 8 expected ++
    leBytes 8 (if pass then 2 ^ 64 - 1 else Config.freeNat s.free) ++ leBytes 4 ((s.time - t.start) / 1000) ++
    leBytes 4 (if t.offline then 262144 else 16384) ++ leBytes 1 (Config.freeNat (s.free + 1)) ++ List.replicate 15 0

/-- Effect of BIST_RUN: the target is prepared as a rolling step prepares it, and a device, which is not tested, leaves the
record; R571. -/
def bistRunApply (b : Barge) (s : State) : State :=
  let t : TestRun :=
    { kind := b.pay 0 1, index := b.pay 1 1, barge := some b, offline := bit (b.pay 2 1) 0, restore := bit (b.pay 2 1) 1, start := s.time }
  let s := s.mapFaults fun f => { f with tests := f.tests.filter fun x => !(x.kind == t.kind && x.index == t.index && x.barge.isNone && !x.offline) }
  match t.kind with
  | 9 => complete b { detail := 1, report := some (bistBody t true s) } (restoreObject 9 t.index s)
  | 1 => if s.lanes.map.contains t.index && !s.lanes.bad.getD t.index false then
      relieveLane t.index (addTest { t with preparing := true } s) else addTest t s
  | 3 => if targetOut s 3 t.index then addTest t s else prepareQuarter t.index t s
  | 4 => addTest t (completeClaims t.index s)
  | _ => addTest t s

/-- BIST_RUN; R571. -/
def execBistRun (b : Barge) (s : State) : Out := bargeSync bistRunCheck bistRunApply b s

/-- BIST_COMPLETE (R571, R575): the run of a BIST_RUN, or the offline test of an injected object after DEPOT, ends. -/
def execBistComplete (kind index : Nat) (pass : Bool) (s : State) : Out :=
  done (match s.faults.tests.find? fun t => t.kind == kind && t.index == index && !t.preparing && (t.barge.isSome || t.offline) with
    | none => s
    | some t =>
      let body := bistBody t pass s
      let s := endTest t (s.mapFaults fun f => { f with tests := f.tests.filter (· != t) }).takeFree.takeFree
      let s := if pass then (if t.restore || t.barge.isNone then restoreObject kind index s else s) else selftestFailed kind index s
      match t.barge with
      | some b => complete b { detail := b2n pass, report := some body } s
      | none => s)

/-- Checks of SELFTEST_POLICY; R572. -/
def selftestPolicyCheck (b : Barge) (s : State) : Option Reply :=
  let period := fun (k : Nat) =>
    let v := b.pay (2 * k) 2
    fieldIf b (2 * k) 2 (v != 0 && (decide (v < 5) || decide (3600 < v)))
  firstFail ([ lenIs b 16, reservedBits b 10 0x81, reservedBytes b 11 1, reservedBits b 12 0xFE, reservedBytes b 13 3 ] ++
    (List.range 5).map period ++
    [ failIf (bit (b.pay 12 1) 0 && decide (s.mode.base ≠ .depot)) (.err stNotPermitted 0x30) ])

/-- The latched conditions of Table 18-7 end (R569, R572). -/
def ackConditions (s : State) : State := [1, 2, 5, 6].foldl (fun s i => clearCondition i s) s

/-- Effect of SELFTEST_POLICY; R572. -/
def selftestPolicyApply (b : Barge) (s : State) : State :=
  let s := s.mapFaults fun f => { f with periods := (List.range 5).map fun k => b.pay (2 * k) 2, foMask := b.pay 10 1 }
  complete b .ok (if bit (b.pay 12 1) 0 then ackConditions s else s)

/-- SELFTEST_POLICY; R572. -/
def execSelftestPolicy (b : Barge) (s : State) : Out := bargeSync selftestPolicyCheck selftestPolicyApply b s

/-- FAULT_OUT_CONDITION_END (R569): HOLD_OVER_CRITICAL ends 1 s after the last such line. -/
def execFaultOutConditionEnd (s : State) : Out :=
  done (if bit s.faults.conditions 3 then clearCondition 3 (s.atTime (s.faults.holdOverTime + 1000000000)) else s)

/-! ### What follows by itself -/

/-- Draining quarters that are empty come under test (R364). -/
def drainedQuarters (s : State) : State :=
  (List.range 4).foldl (fun s k =>
    if s.pound.draining.getD k false && decide (quarterUsed s.pound k = 0) then
      (s.mapPound fun p => { p with draining := p.draining.set k false, underTest := p.underTest.set k true }).mapFaults fun f =>
        { f with tests := f.tests.map fun t => if t.kind == 3 && t.index == k then { t with preparing := false } else t }
    else s) s

/-- A BIST_RUN on a lane that composes waits until a handover can begin. -/
def waitingLaneTests (s : State) : State :=
  match s.faults.tests.find? fun t => t.kind == 1 && t.preparing && s.lanes.map.contains t.index with
  | some t => relieveLane t.index s
  | none => s

/-- What the module does by itself between commands: devices with too many bad codewords are declared lost, drained quarters
come under test, and handovers for waiting tests begin. -/
def housekeep (s : State) : State := waitingLaneTests (drainedQuarters (dueDevices s))

end Sys2Proof.Machine
end

