-- ==== Sys2Proof/Machine/Locks.lean ====
section
/-! DEFINITION. The lock of a pipe: what is applied there, the scenes of the standing programme in QUIET, and the frame that
the lanes begin (files 04, 07, 08 and 15). -/
namespace Sys2Proof.Machine

open Sys2Proof

/-! ### Scenes (R465) -/

/-- A scene layer or a saved state applied to a slot, as a commit does it. -/
def applyLayer (p slot mask : Nat) (c : LayerCfg) (s : State) : State := (applyChange p { slot, mask, cfg := c } s).2

/-- Active state of a programme pipe's slots as QUIET finds them: named slots, and the others that are enabled. -/
def saveSlots (p : Nat) (s : State) : State :=
  let l := ((slotsOf s p).filter fun x => namedSlot s x.1 || x.2.active.enable).map fun x => (x.1, x.2.active)
  s.mapRec fun r => { r with saved := r.saved ++ l }

/-- The current scene applied to the named slots of a pipe, with EV_PROGRAMME_SCENE (R465). -/
def showScene (p : Nat) (g : Programme) (s : State) : State :=
  let scene := currentScene s
  let first := !(s.recording.sceneShown.any fun x => x.1 == p)
  let s := if first then saveSlots p s else s
  let s := (g.named.zipIdx.filter fun x => x.1.1 == p).foldl (fun s x =>
    let (mask, c) := sceneLayer s g scene x.2 x.1.2
    applyLayer p x.1.2 mask c s) s
  raise 116 0x0808 (leBytes 2 scene ++ leBytes 2 s.recording.stop ++ leBytes 1 (b2n s.recording.doors))
    (s.mapRec fun r => { r with sceneShown := (r.sceneShown.filter fun x => x.1 != p) ++ [(p, scene)] })

/-- 100 µs have passed since the last entry to or exit from QUIET and the last change of scene. -/
def sceneDue (s : State) : Bool :=
  let from_ := max (s.recording.sceneFrom.getD 0) s.recording.sceneTime
  decide (from_ + 100000 ≤ s.time)

/-- At a lock in QUIET a programme pipe that does not show the current scene shows it (R465). -/
def lockScene (p : Nat) (s : State) : State :=
  match s.recording.programme with
  | none => s
  | some g =>
    let shown := (s.recording.sceneShown.find? fun x => x.1 == p).map (·.2)
    if s.mode.base = .quiet ∧ !s.mode.contain ∧ programmePipe s p ∧ sceneDue s ∧ shown ≠ some (currentScene s) then
      refreshSurfaces (showScene p g s)
    else s

/-- The slots of a pipe return to the state that QUIET entry found (R465). -/
def restoreSlots (p : Nat) (s : State) : State :=
  let mine := s.recording.saved.filter fun x => (s.layer x.1).pipe == p
  let s := mine.foldl (fun s x => if namedSlot s x.1 then applyLayer p x.1 0x1FF x.2 s else s) s
  refreshSurfaces (s.mapRec fun r =>
    { r with
      saved := r.saved.filter fun x => !(mine.any fun y => y.1 == x.1)
      sceneShown := r.sceneShown.filter fun x => x.1 != p })

/-- At the first lock at least 100 µs after QUIET exit a programme pipe shows the host's layers again (R465). -/
def lockUnscene (p : Nat) (s : State) : State :=
  if s.mode.base ≠ .quiet ∧ !s.mode.contain ∧ (s.recording.sceneShown.any fun x => x.1 == p) ∧ sceneDue s then restoreSlots p s else s

/-! ### The frame that begins (R136, R221, R237) -/

/-- The probe of a link is written in the first frame after the frame is allocated (R237). -/
def writeProbe (p h : Nat) (s : State) : State :=
  let x := s.pipe p
  if (s.half p h).probeWritten.isSome || !laneAlive s p h then s
  else
    let l := linkOfHalf x.cfg h
    let words := (probeAddrs x h).zipIdx.map fun a => (a.1, probeWord l a.2)
    (writeBasin words s).mapHalf p h fun q => { q with probeWritten := some x.compFrame }

/-- The lanes begin the next frame. -/
def beginFrame (p : Nat) (s : State) : State :=
  s.mapPipe p fun x =>
    { x with
      compFrame := if x.composing then x.compFrame + 1 else (s.pipeCtr p).frames + 1
      composing := true, lockTime := s.time
      halves := x.halves.map fun q => { q with nextLine := 0, begun := false, late := [], heldTiles := [], tilesRead := [] } }

/-- The new LEAD whose lock has come (R251). -/
def takeLead (p : Nat) (s : State) : State :=
  s.mapPipe p fun x =>
    match x.leadNext with
    | some (0, k) => { x with cfg := { x.cfg with lead := k }, leadNext := none }
    | some (n + 1, k) => if n = 0 then { x with cfg := { x.cfg with lead := k }, leadNext := none } else { x with leadNext := some (n, k) }
    | none => x

/-- Step 2 of a link-class change: the pipe enters RETRAINING and the tow FREE (Table 8-7). -/
def enterRetraining (p : Nat) (r : Retime) (s : State) : State :=
  freeTow p (markCommitted r.barge (s.mapPipe p fun x =>
    { x with state := .retraining, composing := false, retime := some { r with step := 2 } }))

/-- A lock at which the lanes begin a frame: banks, settings, scenes, visibility, probe and tap (R136 to R147, R251, R465). -/
def frameLock (p : Nat) (s : State) : State :=
  let s := beginFrame p (lockTones p s)
  let s := lockBank p (lockUnscene p s)
  let s := match (s.pipe p).retime with
    | some r => if !r.linkClass && decide (r.startTime + 100000 ≤ s.time) then applyLockClass p r s else s
    | none => s
  let s := lockVisibility p (lockScene p (applyAtLocks p s))
  let s := (List.range (s.pipe p).cfg.links).foldl (fun s h => writeProbe p h s) (setPhase p s)
  s.mapPipe p fun x => { x with capturing := x.wb.enable && x.compFrame % max 1 x.wb.rateDiv == 0 }

/-- LOCK of a pipe (R136, R140, R252). -/
def lock (p : Nat) (s : State) : State :=
  if (s.pipe p).state ≠ .running then s
  else
    let s := takeLead p s
    let x := s.pipe p
    match x.retime with
    | some r => if r.linkClass && r.step == 1 && x.disables.isEmpty && x.black.isNone then enterRetraining p r s else frameLock p s
    | none => frameLock p s

/-- LOCK; R136. -/
def execLock (p : Nat) (s : State) : Out := done (lock p s)

end Sys2Proof.Machine
end

