-- ==== Sys2Proof/Machine/Contain.lean ====
section
/-! DEFINITION. CONTAIN: its entry, the fatal dump, the recovery on exit; DUMP_READ, DUMP_CLEAR and FAULT_INJECT (files 02
and 18). -/
namespace Sys2Proof.Machine

open Sys2Proof

/-! ### The dump (R563 to R567) -/

/-- Bytes of one copy of the fault log (Table 18-5). -/
abbrev faultLogBytes : Nat := 262144

/-- Byte `off` of a fault log: the record with INDEX mod 4,096 = entry, a free value where none is stored. -/
def logByte (log : List (List Byte)) (next off : Nat) : Byte :=
  let k := (next + 4095 - off / 64 % 4096) % 4096
  match log[k]? with
  | some r => r.getD (off % 64) 0
  | none => Config.dumpByte 0 off

/-- Sections of a dump: TYPE and bytes (Table 18-6). The lengths of BANK_MIRROR and FW_DATA are free up to their limits. -/
def dumpSections (d : Dump) : List (Nat × Nat) :=
  [(1, 16384), (2, 2097152), (3, if d.patched then 524288 else 0), (4, 262144), (5, 65536), (6, 45056), (7, 8192), (8, 2048),
   (9, Config.freeNat d.free % 524289), (10, 4096), (11, 262144), (12, Config.freeNat (d.free + 1) % 16834561)]

/-- A section of a dump as it is placed. -/
structure Placed where
  /-- TYPE. -/
  type : Nat := 0
  /-- SFLAGS [0] TRUNCATED. -/
  cut : Bool := false
  /-- OFFSET. -/
  offset : Nat := 0
  /-- LENGTH. -/
  length : Nat := 0
  deriving DecidableEq, Repr, Inhabited

/-- Sections placed one after another, each at a multiple of 4,096, within `limit` bytes. -/
def placeSections (limit : Nat) : Nat → List (Nat × Nat) → List Placed
  | _, [] => []
  | off, (t, n) :: l =>
    let off := 4096 * ceilDiv off 4096
    let m := min n (limit - off)
    { type := t, cut := decide (m < n), offset := off, length := m } :: placeSections limit (off + m) l

/-- Order of the sections in the flash copy (R567). -/
def flashOrder : List Nat := [1, 4, 11, 5, 6, 7, 8, 10, 9, 2, 3, 12]

/-- Bytes of the flash dump slot (Table 18-5). -/
abbrev flashSlotBytes : Nat := 8380416

/-- Sections of a dump in a device slot, or of its flash copy. -/
def placedSections (d : Dump) (flash : Bool) : List Placed :=
  if flash then
    placeSections flashSlotBytes 4096 (flashOrder.filterMap fun t => (dumpSections d).find? fun x => x.1 == t)
  else placeSections 33030144 4096 (dumpSections d)

/-- LENGTH of a dump. -/
def dumpLength (d : Dump) (flash : Bool) : Nat := (placedSections d flash).foldl (fun n p => max n (p.offset + p.length)) 4096

/-- A byte of a section. -/
def sectionByte (d : Dump) (type i : Nat) : Byte :=
  if type = 4 then logByte d.log d.logNext i else Config.dumpByte (16 * d.free + type) i

/-- Byte `off` of the body of a dump, `off` counted from its start; the bytes between sections are free values. -/
def bodyByte (d : Dump) (flash : Bool) (off : Nat) : Byte :=
  match (placedSections d flash).find? fun p => decide (p.offset ≤ off) && decide (off < p.offset + p.length) with
  | some p => sectionByte d p.type (off - p.offset)
  | none => Config.dumpByte (16 * d.free) off

/-- The header of a dump, 4,096 bytes (R565). -/
def dumpHeader (d : Dump) (flash : Bool) : List Byte :=
  let sec := placedSections d flash
  let len := dumpLength d flash
  let body := (List.range (len - 4096)).map fun i => bodyByte d flash (4096 + i)
  let entry := fun (p : Placed) =>
    leBytes 2 p.type ++ leBytes 2 (b2n p.cut) ++ leBytes 4 p.offset ++ leBytes 4 p.length ++
      leBytes 4 (crc32c ((List.range p.length).map fun i => bodyByte d flash (p.offset + i)))
  let h := leBytes 4 0x50444850 ++ leBytes 2 1 ++ leBytes 2 (d.flags + (if sec.any (·.cut) then 4 else 0)) ++ leBytes 4 d.index ++
    leBytes 4 d.epoch ++ leBytes 8 d.time ++ leBytes 2 d.cause ++ leBytes 1 d.pair ++ leBytes 1 d.mode ++ padTo 10 d.serial ++
    leBytes 2 Config.romRelease ++ leBytes 4 d.patchLevel ++ leBytes 4 len ++ leBytes 8 d.patchGen ++ leBytes 8 d.detail ++
    leBytes 2 sec.length ++ leBytes 30 0 ++ sha256 body ++ leBytes 128 0 ++ (sec.map entry).flatten
  let h := padTo 0xFFC h
  h ++ leBytes 4 (crc32c h)

/-- `n` bytes of a dump from an offset. -/
def dumpBytes (d : Dump) (flash : Bool) (off n : Nat) : List Byte :=
  let header := if off < 4096 then dumpHeader d flash else []
  (List.range n).map fun i => if off + i < 4096 then header.getD (off + i) 0 else bodyByte d flash (off + i)

/-- The quarantine record, 4,096 bytes (Table 18-5). -/
def quarantineBytes (s : State) : List Byte :=
  let q := s.faults.quarantine
  let l := leBytes 4 0x52514850 ++ leBytes 4 q.length ++
    (q.map fun e => leBytes 1 e.1 ++ leBytes 1 e.2.1 ++ leBytes 2 e.2.2.1 ++ leBytes 8 e.2.2.2).flatten
  l ++ List.replicate (4096 - l.length) 0xFF

/-- A SOURCE of DUMP_READ and of the towpath's READ: its length, none if it holds no dump (R568, R573). -/
def sourceLength (s : State) (src : Nat) : Option Nat :=
  match src with
  | 0 | 1 => (s.faults.dumps.getD src none).map fun d => dumpLength d false
  | 2 => s.faults.flashDump.map fun d => dumpLength d true
  | 3 => some faultLogBytes
  | 4 => some 4096
  | _ => none

/-- `n` bytes of a SOURCE from an offset, as far as it has them. -/
def sourceBytes (s : State) (src off n : Nat) : List Byte :=
  let n := min n ((sourceLength s src).getD 0 - off)
  match src with
  | 0 | 1 => match s.faults.dumps.getD src none with | some d => dumpBytes d false off n | none => []
  | 2 => match s.faults.flashDump with | some d => dumpBytes d true off n | none => []
  | 3 => (List.range n).map fun i => logByte s.faults.log s.faults.nextIndex (off + i)
  | _ => slice (quarantineBytes s) off n

/-- The dump of an entry: its number is that of the dumps written since manufacture (R565). -/
def makeDump (cause detail pair mode : Nat) (s : State) : Dump :=
  { cause, flags := 1, index := s.faults.dumpIndex, epoch := s.mode.epoch, time := s.time, pair, mode, detail
    patchLevel := patchLevel s, patchGen := match s.trust.patch with | some o => objGen o | none => 0
    patched := s.trust.patch.isSome, serial := s.trust.serial, log := s.faults.log, logNext := s.faults.nextIndex, free := s.free }

/-- The device slot that the next dump takes: slot 0 for the first one after it was cleared (R563). -/
def dumpSlot (s : State) : Nat := if (s.faults.dumps.getD 0 none).isNone then 0 else 1

/-- The dump written to its slot (R563). -/
def writeDump (cause detail pair mode : Nat) (s : State) : State :=
  let d := makeDump cause detail pair mode s
  let k := dumpSlot s
  (s.mapFaults fun f => { f with dumps := f.dumps.set k (some d), dumpIndex := f.dumpIndex + 1 }).takeFree.takeFree

/-- The slot of the newest dump. -/
def newestSlot (s : State) : Nat :=
  match s.faults.dumps.getD 0 none, s.faults.dumps.getD 1 none with
  | some a, some b => if a.index < b.index then 1 else 0
  | none, some _ => 1
  | _, _ => 0

/-! ### Entry (R28, R426, R562) -/

/-- COMMITs whose shadow bank is not complete are discarded; their changes stay pending (R28, R132). -/
def discardCommits (p : Nat) (s : State) : State :=
  let x := s.pipe p
  let gone := x.shadow.toList.filter (fun c => !c.complete) ++ x.waiting
  let s := gone.foldl (fun s c => returnCommit c s) s
  s.mapPipe p fun x => { x with shadow := x.shadow.filter (·.complete), waiting := [] }

/-- Jobs that have not begun, chains whose first descriptor is not taken, and the barges behind them in channel order, are
discarded (R327, R398). -/
def discardQueued (s : State) : State :=
  { s with
    engines := s.engines.map fun e => { e with queue := [] }
    cv := s.cv.map fun c =>
      match c.chain with
      | some ch => if ch.begun then { c with order := c.order.take 1 } else { c with order := [], chain := none }
      | none => { c with order := [] } }

/-- The rings are FROZEN (R81). -/
def freezeRings (s : State) : State :=
  s.mapHost fun h => { h with rings := h.rings.map fun r =>
    if r.state = .absent then r else { r with prevState := r.state, state := .frozen } }

/-- The barges waiting at a pipe that the test keeps. -/
def dropFromPipe (keep : Barge → Bool) (p : Pipe) : Pipe :=
  let lock := p.atLock.filter fun a => match a with
    | .emptyCommit x | .damage x | .sameTiming x | .writeback x _ | .contract x _ => keep x
    | .tow t => keep t.barge
  let retime := p.retime.filter fun r => keep r.barge
  { p with atLock := lock, retime := retime, disables := p.disables.filter keep, enables := p.enables.filter keep }

/-- A barge leaves every place of the module in which it waits. -/
def dropBarge (b : Barge) (s : State) : State :=
  let keep := fun (x : Barge) => decide (x ≠ b)
  let tests := s.faults.tests.filter fun t => decide (t.barge = some b)
  let s := tests.foldl (fun s t => endTest t s) s
  let s := { s with seals := s.seals.filter fun j => keep j.barge }
  let s := { s with dmas := s.dmas.filter fun j => keep j.barge }
  let s := { s with pipes := s.pipes.map (dropFromPipe keep) }
  let s := { s with cams := s.cams.map fun (m : Camera) =>
    { m with starts := m.starts.filter keep, stops := m.stops.filter keep } }
  let s := { s with engines := s.engines.map fun (e : Engine) =>
    { e with removals := e.removals.filter fun r => keep r.1 } }
  let s := { s with cv := s.cv.map fun (c : Channel) => { c with order := c.order.filter fun w => keep w.barge } }
  let s := s.mapRec fun r =>
    { r with
      streams := r.streams.map fun x => { x with add := x.add.filter keep }
      cmds := r.cmds.filter fun c => decide (c.why.barge? ≠ some b)
      removing := r.removing.filter keep }
  let s := if s.trust.flashJob.any fun j => !keep j.barge then abandonFlash s else s
  let s := s.mapTrust fun t => { t with signing := t.signing.filter fun w => match w with | .attest x _ => keep x | _ => true }
  let s := s.mapFaults fun f => { f with tests := f.tests.filter fun t => decide (t.barge ≠ some b) }
  let s := (List.range 12).foldl (fun s l =>
    let front : Bool := match (s.link l).aux with | j :: _ => decide (j.barge = some b) | [] => false
    let s := s.mapLink l fun k => { k with aux := k.aux.filter fun j => decide (j.barge ≠ some b) }
    let s := if front then sendAux l s else s
    let mine := (s.signBlock l).sets.filter fun p => decide (p.barge = b)
    let s := s.mapSign l fun x => { x with sets := x.sets.filter fun p => keep p.barge }
    mine.foldl (fun s p => unbindProducer l (signQueue p.barge) s) s) s
  s.mapMode fun m => match m.sleeping with
    | some (some x) => if x = b then { m with sleeping := some none } else m
    | _ => m

/-- The barges that are not committed when CONTAIN is entered take no further effect: they are aborted on exit (R79, R81). -/
def stopUncommitted (s : State) : State :=
  (s.host.rings.flatMap fun r => r.inflight.filter fun f => f.result.isNone && !f.committed).foldl (fun s f => dropBarge f.barge s) s

/-- A fatal control-plane error (R561, R562): CONTAIN is entered. During CONTAIN it makes the dump PARTIAL and restarts the
sequence; in BOOT it restarts BOOT (Table 17-2), and without power there is none. -/
def enterContain (cause detail pair : Nat) (s : State) : State :=
  if s.mode.base = .boot then restartBoot s
  else if !s.mode.base.isBase then s
  else if s.mode.contain then
    let k := newestSlot s
    s.mapFaults fun f => { f with dumps := f.dumps.modify k fun d => d.map fun d => { d with flags := 2 } }
  else
    let mode := modeNow s
    let times := s.time :: s.mode.containTimes.filter fun t => decide (s.time < t + 600000000000)
    let s := faultRecord 14 0 5 (b2n (cause == 6)) (leBytes 2 cause ++ leBytes 8 detail) s
    let s := s.mapMode fun m =>
      { m with contain := true, epoch := (m.epoch + 1) % 2 ^ 32, containTimes := times, containCause := (cause, detail, pair) }
    let s := if 3 ≤ times.length then setCondition 2 s else s
    let s := writeDump cause detail pair mode (completeClaims 1 (completeClaims 0 (freezeRings (stopUncommitted s))))
    let s := discardQueued ((List.range 8).foldl (fun s p => discardCommits p s) s)
    showMode 10 s

/-- CONTAIN_ENTRY; R562. -/
def execContainEntry (cause detail pair : Nat) (s : State) : Out := done (enterContain cause detail pair s)

/-- WATCHDOG (R561): the firmware tick has not been claimed for 50 ms. The program counter is a free value. -/
def execWatchdog (s : State) : Out :=
  done (match (s.source false 55).fifo with
    | r :: _ => (enterContain 1 (Config.freeNat s.free) 2 (s.atTime (r.time + 50000000))).takeFree
    | [] => s)

/-- A lockstep mismatch in a pair (R549, R553, R561). -/
def lockstep (pair : Nat) (s : State) : State :=
  if !railsOn s || s.faults.pairBad.getD pair true then s
  else
    let other := 1 - pair
    let both := match s.faults.mismatchTime.getD other none with | some t => decide (s.time ≤ t + 1000000) | none => false
    let s := s.mapFaults fun f => { f with mismatchTime := f.mismatchTime.set pair (some s.time) }
    if both || s.faults.pairBad.getD other false then
      let s := if s.faults.pairBad.getD other false then setCondition 1 s else s
      (enterContain 2 (Config.freeNat s.free) (if both then 2 else pair) s).takeFree
    else pairFault pair s

/-- LOCKSTEP_MISMATCH; R549. -/
def execLockstepMismatch (pair : Nat) (s : State) : Out := done (lockstep pair s)

/-! ### Exit (R81) -/

/-- One journalled barge of a ring on exit (R81): a result of CONTAIN becomes its record, a committed barge goes on, an
uncommitted one is aborted. A new barge that had not started has used its SEQ, as it is resubmitted with it (R80). -/
def recoverBarge (n : Nat) (f : InFlight) (s : State) : State :=
  match f.result with
  | some r => complete f.barge { r with cflags := r.cflags ||| 16 } s
  | none =>
    if f.committed then
      s.mapRing n fun r => { r with inflight := r.inflight.map fun g => if g = f then { g with recovered := true } else g }
    else
      let s := if f.started then s
        else s.mapRing n fun r =>
          { r with
            inflight := r.inflight.map fun g => if g = f then { g with started := true } else g
            nextSeq := if f.barge.resubmit then r.nextSeq else r.nextSeq + 1 }
      complete f.barge (.err stContainAborted s.mode.epoch) s

/-- The journalled barges of a ring, and its state before CONTAIN; a ring that waited for a fence has no barge that waits any
more (R81). -/
def recoverRing (n : Nat) (s : State) : State :=
  let s := (s.ring n).inflight.foldl (fun s f => recoverBarge n f s) s
  s.mapRing n fun r =>
    if r.state = .frozen then { r with state := if r.prevState = .waiting then .active else r.prevState } else r

/-- A patch active for less than 60 s at entry is reverted: the patch state before its activation is in force (R526). -/
def revertPatch (s : State) : State :=
  match s.trust.patchTime with
  | none => s
  | some t =>
    if (s.mode.containTimes.headD s.time) < t + 60000000000 then
      let slot := s.trust.patchSlot
      let gen := match s.trust.patch with | some o => objGen o | none => 0
      let old := s.trust.patchBefore
      let s := s.mapTrust fun u =>
        { u with
          patch := old.map (·.1), patchSlot := match old with | some o => o.2 | none => u.patchSlot
          patchTime := none, patchBefore := none
          patches := (match old with
            | some o => u.patches.modify o.2 fun x => { x with state := .active }
            | none => u.patches).modify slot fun x => { x with state := .reverted } }
      raise 144 0x0C02 (leBytes 1 slot ++ leBytes 3 0 ++ leBytes 8 gen) s
    else s

/-- The flash copy of the newest dump starts: the earlier copy is no longer VALID (R567). -/
def startCopy (s : State) : State :=
  s.mapFaults fun f => { f with copying := some (newestSlot s), flashDump := none }

/-- CONTAIN is left (R81, R304, R378, R562): the patch is reverted, the rings and their queues recover, sources are admitted
again, and what CONTAIN had stopped goes on. -/
def leaveContain (s : State) : State :=
  let s := revertPatch (s.mapMode fun m => { m with contain := false })
  let s := (List.range 16).foldl (fun s n => recoverRing n s) s
  let s := (List.range 17 ++ [80, 81, 82, 83]).foldl (fun s q => if decide ((s.queue q).state = QState.absent) then s else
    (qFlush q s).mapQueue q fun x => { x with flushPending := false, voiding := false }) s
  let s := readmit (raiseRetired s)
  let entry := s.mode.containTimes.headD 0
  let s := s.mapRec fun r =>
    { r with sceneFrom := match r.sceneFrom with | some t => some (if entry ≤ t then s.time else t) | none => none }
  let s := showMode 10 s
  let s := raise 111 0x0102 (leBytes 4 s.mode.epoch ++ leBytes 1 (modeNow s)) s
  let s := match s.faults.dumps.getD (newestSlot s) none with
    | some d => raise 164 0x0D0A (leBytes 1 (newestSlot s) ++ leBytes 1 d.cause ++ leBytes 2 d.flags ++ leBytes 4 d.index) s
    | none => s
  let s := startCopy s
  let s := refreshSurfaces s
  let s := (List.range 16).foldl (fun s c => feedChannel c 16 s) s
  let s := (List.range 8).foldl (fun s p => settleRetime p s) s
  let s := if driveOpen s then writeBootSlot s else startAttach s
  match s.mode.sleeping with
  | some _ => advanceClose (closeSegment (s.mapMode fun m => { m with stopping := false }))
  | none => advanceClose s

/-- CONTAIN_EXIT (R81, R304, R378, R562): recovery records, queues flushed, retire events, the mode restored, the events and
the flash copy; then firmware goes on with the drive, an interrupted KEEPALIVE entry and link-class changes. -/
def execContainExit (s : State) : Out := done (if !s.mode.contain then s else leaveContain s)

/-- DUMP_COPY_COMPLETE (R567): the copy is read back and marked VALID, or it is not. -/
def execDumpCopyComplete (ok : Bool) (s : State) : Out :=
  done (match s.faults.copying with
    | none => s
    | some k =>
      let s := s.mapFaults fun f => { f with copying := none }
      match s.faults.dumps.getD k none with
      | some d =>
        if ok then
          raise 164 0x0D0B (leBytes 4 d.index ++ leBytes 4 (dumpLength d true)) (s.mapFaults fun f => { f with flashDump := some d })
        else s
      | none => s)

/-! ### DUMP_READ, DUMP_CLEAR (R573, R574) -/

/-- Checks of DUMP_READ; R573. -/
def dumpReadCheck (b : Barge) (s : State) : Option Reply :=
  let src := b.pay 0 1
  let len := b.pay 4 4
  firstFail [ lenIs b 24, reservedBytes b 1 3, fieldIf b 0 1 (decide (4 < src)), fieldIf b 4 4 (len = 0 || decide (33030144 < len)),
    fieldIf b 16 8 (!inHostRegion s (b.pay 16 8) len),
    failIf (sourceLength s src).isNone (wrongStateFree s) ]

/-- Effect of DUMP_READ: DETAIL holds the bytes copied; R573. -/
def dumpReadApply (b : Barge) (s : State) : State :=
  let bytes := sourceBytes s (b.pay 0 1) (b.pay 8 8) (b.pay 4 4)
  complete b (.ok bytes.length) (devWrite (b.pay 16 8) bytes s)

/-- DUMP_READ; R573. -/
def execDumpRead (b : Barge) (s : State) : Out := barge dumpReadCheck dumpReadApply b s

/-- Checks of DUMP_CLEAR; R574. -/
def dumpClearCheck (b : Barge) (s : State) : Option Reply :=
  let flash := bit (b.pay 0 1) 1
  firstFail [ ring0Only b, lenIs b 8, reservedBits b 0 0xFC, reservedBytes b 1 7,
    failIf (flash && decide (s.mode.base ≠ .depot)) (.err stNotPermitted 0x30),
    failIf (flash && s.faults.copying.isSome) (freeReply stBusy s) ]

/-- Effect of DUMP_CLEAR; R574. -/
def dumpClearApply (b : Barge) (s : State) : State :=
  let s := if bit (b.pay 0 1) 0 then s.mapFaults fun f => { f with dumps := [none, none], log := [] } else s
  let s := if bit (b.pay 0 1) 1 then s.mapFaults fun f => { f with flashDump := none } else s
  complete b .ok s

/-- DUMP_CLEAR; R574. -/
def execDumpClear (b : Barge) (s : State) : Out := bargeSync dumpClearCheck dumpClearApply b s

/-! ### FAULT_INJECT (R575) -/

/-- Limit of INDEX of a kind of fault, 256 where it has none. -/
def injectLimit (kind : Nat) : Nat := [0, 9, 256, 17, 256, 4, 2, 256, 256, 12].getD kind 0

/-- Checks of FAULT_INJECT; a phase is named rail × 8 + phase, of the multi-phase rails; R575. -/
def faultInjectCheck (b : Barge) (s : State) : Option Reply :=
  let kind := b.pay 0 1
  let index := b.pay 1 1
  let addr := b.pay 8 8
  firstFail [ ring0Only b, lenIs b 24, reservedBytes b 2 2, fieldIf b 0 1 (kind = 0 || decide (9 < kind)),
    fieldIf b 1 1 (decide (injectLimit kind ≤ index) ||
      (kind == 7 && (decide (index < 8) || decide (railPhases.getD (index / 8) 0 ≤ index % 8)))),
    fieldIf b 8 8 ((kind == 2 && (addr % 2 != 0 || decide (33554432 ≤ addr))) || (kind == 4 && decide (devBytes < addr + 8))),
    failIf (decide (s.mode.base ≠ .depot)) (.err stNotPermitted 0x30) ]

/-- An object noted as taken out by injection. -/
def markInjected (kind index : Nat) (s : State) : State :=
  s.mapFaults fun f => if f.injected.contains (kind, index) then f else { f with injected := f.injected ++ [(kind, index)] }

/-- Errors of 8 injected bytes of device memory: upsets of the codewords that they lie in (R539). -/
def injectedUpsets (addr pattern : Nat) : List Upset :=
  (List.range 8).filterMap fun i =>
    let e := pattern / 256 ^ i % 256
    if e = 0 then none else some { word := (addr + i) / 128, syms := [(135 - (addr + i) % 128, e)] }

/-- The fault of a kind injected; the detection cause of an injected lane fault is a free value. -/
def inject (kind index count addr pattern : Nat) (s : State) : State :=
  match kind with
  | 1 => (declareLane index (Config.freeNat s.free % 256) (markInjected 1 index s)).takeFree
  | 2 => addBasinUpsets [{ row := addr / 8, data := (pattern % 2 ^ 64) * 2 ^ (32 * (addr % 8)) }] (markInjected 21 (addr / 8) s)
  | 3 => takeOut 2 index (markInjected 2 index s)
  | 4 => let l := injectedUpsets addr pattern
    addUpsets l (l.foldl (fun s u => markInjected 20 u.word s) s)
  | 5 => declareDevice index (markInjected 9 index s)
  | 6 => lockstep index (markInjected 4 index s)
  | 7 => phaseFault (index / 8) (index % 8) (markInjected 10 index s)
  | 8 => enterContain 6 (Config.freeNat s.free) 2 s
  | _ => (markInjected 8 (2 * index + b2n (s.link index).standby) s).mapFaults fun f =>
      { f with probeBad := (f.probeBad.filter fun x => x.1 != index) ++ (if count = 0 then [] else [(index, count)]) }

/-- Effect of FAULT_INJECT: the barge completes before the fault, so that an injected CONTAIN does not abort it; R575. -/
def faultInjectApply (b : Barge) (s : State) : State :=
  inject (b.pay 0 1) (b.pay 1 1) (b.pay 4 4) (b.pay 8 8) (b.pay 16 8) (complete b .ok s)

/-- FAULT_INJECT; R575. -/
def execFaultInject (b : Barge) (s : State) : Out := bargeSync faultInjectCheck faultInjectApply b s

/-- DEPOT has ended: each object that injection took out is tested by offline BIST; a device waits for the next BOOT (R575). -/
def testInjected (s : State) : State :=
  let l := s.faults.injected
  let s := s.mapFaults fun f => { f with injected := l.filter fun x => targetOut s x.1 x.2 && (x.1 ≤ 10), probeBad := [] }
  l.foldl (fun s x =>
    if x.1 ≤ 10 && x.1 != 9 && targetOut s x.1 x.2 then addTest { kind := x.1, index := x.2, offline := true, start := s.time } s else s) s

end Sys2Proof.Machine
end

