-- ==== Sys2Proof/Machine/ModeOps.lean ====
section
/-! DEFINITION. Changes of the base mode, the KEEPALIVE entry sequence, and the vehicle state (file 17). -/
namespace Sys2Proof.Machine

open Sys2Proof

/-! ### QUIET (R502, R512, R513) -/

/-- The time for which IGNITION has been off and the vehicle STATIONARY in QUIET (R502). -/
def syncSleep (s : State) : State :=
  let on := decide (s.mode.base = .quiet) && stationary s && !s.can.ignition
  { s with can := { s.can with sleepFrom := if on then s.can.sleepFrom.or (some s.time) else none } }

/-- Programme pipes change at their first lock at least 100 µs from now (R465). -/
def noteScene (s : State) : State := s.mapRec fun r => { r with sceneFrom := some s.time }

/-- QUIET becomes the base mode. -/
def enterQuiet (s : State) : State :=
  syncSleep (noteScene (setBase .quiet 2 (s.mapMode fun m => { m with quietEntries := inc32 m.quietEntries })))

/-- The heartbeat timer restarts, and QUIET ends (R502, R512). -/
def heartbeat (s : State) : State :=
  let s := s.mapMode fun m => { m with hbStart := s.time }
  if s.mode.base = .quiet then syncSleep (noteScene (setBase .service 3 s)) else s

/-! ### DEPOT (R514) -/

/-- The open challenge: one that has not expired. -/
def openChallenge (s : State) : Option (List Byte × Nat) := s.mode.challenge.filter fun c => decide (s.time < c.2)

/-- Barges of offline BIST in progress, with their tests. -/
def offlineTests (s : State) : List TestRun := s.faults.tests.filter fun t => t.offline && t.barge.isSome

/-- FORMAT of a drive that is not UNFORMATTED, in progress. -/
def depotFormats (s : State) : List Barge :=
  if s.recording.drive = .unformatted then []
  else s.recording.cmds.filterMap fun c => match c.why with | .format b => some b | _ => none

/-- DEPOT-only operations stop, each after it has restored what it had taken out: offline BIST and FORMAT end with
ST_NOT_PERMITTED. The others are over within their command. -/
def stopDepot (s : State) : State :=
  let tests := offlineTests s
  let formats := depotFormats s
  let s := tests.foldl (fun s t => endTest t s) s
  let s := s.mapFaults fun f => { f with tests := f.tests.filter fun t => !tests.contains t }
  let s := s.mapRec fun r => { r with cmds := r.cmds.filter fun c => match c.why with | .format b => !formats.contains b | _ => true }
  (tests.filterMap (·.barge) ++ formats).foldl (fun s b => complete b (.err stNotPermitted 0x30) s) s

/-- DEPOT is left: its operations stop, and what injection took out is tested (R514, R575). -/
def leaveDepot (s : State) : State := testInjected (stopDepot s)

/-- STATIONARY is lost: DEPOT ends. Which bits the mask of stopped operations has is a free value (Table 17-12). -/
def stationaryLost (s : State) : State :=
  if s.mode.base ≠ .depot then s
  else
    let any := !(offlineTests s).isEmpty || !(depotFormats s).isEmpty
    let mask := if any then Config.freeNat s.free % 256 else 0
    setBase .service 6 (raise 146 0x0C05 (leBytes 1 mask) (leaveDepot s.takeFree))

/-! ### Vehicle state (R517) -/

/-- The vehicle state changes: EV_VEHICLE_STATE when its flags do, and what follows from them. -/
def setVehicle (f : Can → Can) (s : State) : State :=
  let old := vehicleFlags s
  let s := { s with can := f s.can }
  let s := if vehicleFlags s = old then s else raise 146 0x0C04 (leBytes 1 (vehicleFlags s)) s
  syncSleep (if stationary s then s else stationaryLost s)

/-! ### KEEPALIVE entry (R515) -/

/-- A pipe or camera that the module stops by itself waits under a barge that no ring carries. -/
def ownBarge : Barge := { ring := imageRing }

/-- A RUNNING pipe is disabled. -/
def Pipe.stop (x : Pipe) : Pipe :=
  if x.state = .running ∧ x.disables.isEmpty ∧ !linkChanging x then { x with disables := [ownBarge] } else x

/-- A stream stops. -/
def Camera.stop (m : Camera) : Camera := if m.receiving && m.stops.isEmpty then { m with stops := [ownBarge] } else m

/-- Step 2: every RUNNING pipe is disabled with FORCE, and every stream stops. -/
def stopAll (s : State) : State := { s with pipes := s.pipes.map (·.stop), cams := s.cams.map (·.stop) }

/-- Every pipe and every stream has stopped. -/
def allStopped (s : State) : Bool :=
  (s.pipes.all fun x => decide (x.state = .configured) || decide (x.state = .unconfigured)) && s.cams.all fun m => !m.receiving

/-- Event records that wait are moved, at most `n` of them. -/
def moveRecords : Nat → State → State
  | 0, s => s
  | n + 1, s => if (s.events.host.any fun x => canMove s x) then moveRecords n (recordMove s) else s

/-- Entries of an event ring that can be written, at most `n`. -/
def writeRing (k : Nat) : Nat → State → State
  | 0, s => s
  | n + 1, s => if entryReady s k then writeRing k n (writeEntry k false s) else s

/-- Event records that wait are written while the function is in D0. -/
def writeEvents (s : State) : State :=
  let s := moveRecords 1280 s
  if s.host.dstate = .d0 then (List.range 16).foldl (fun s k => writeRing k 256 s) s else s

/-- The four steps of KEEPALIVE entry go on as far as they can: the drive is closed, everything stops, the barge completes
with the mode's event, and power goes. A wake that came meanwhile starts BOOT (R503). -/
def advanceSleep (s : State) : State :=
  match s.mode.sleeping with
  | none => s
  | some b =>
    if s.mode.contain then s
    else if s.recording.drive ≠ .none then advanceClose s
    else
      let s := stopAll ((s.mapMode fun m => { m with stopping := true }).mapRec fun r => { r with testing := false, prepared := true })
      if !allStopped s then s
      else
        let s := match b with | some b => complete b .ok s | none => s
        let s := writeEvents (setBase .keepalive 11 (s.mapMode fun m => { m with sleeping := none }))
        let t := (keepOn s).mapMode fun m => { m with base := .keepalive, shown := 1 }
        let t := t.mapTrust fun u => { u with config := s.trust.config }
        match s.mode.wakePending with
        | some c => startBoot c 0 t.time t
        | none => t

/-- KEEPALIVE entry begins: recording is closed as by PREPARE_REMOVE. -/
def startSleep (b : Option Barge) (s : State) : State :=
  advanceSleep (advanceClose (closeSegment (endBursts (s.mapMode fun m => { m with sleeping := some b, stopping := false }))))

/-- A wake source that WAKE_MASK enables (R516). -/
def wakeEnabled (s : State) (cause : Nat) : Bool := decide (1 ≤ cause) && decide (cause ≤ 3) && bit (imageNum s 0x20 1) (cause - 1)

/-- BOOT from KEEPALIVE: module time goes on from the always-on count, rounded up to 40 ns (R36). -/
def wakeUp (cause : Nat) (s : State) : State :=
  let t := 40 * ceilDiv s.time 40
  startBoot cause 0 t { keepOn s with time := t }

end Sys2Proof.Machine
end

