-- ==== Sys2Proof/Machine/Modes.lean ====
section
/-! DEFINITION. Modes, heartbeat, depot, CAN and the opcodes of family 0x01 that file 17 defines. -/
namespace Sys2Proof.Machine

open Sys2Proof

/-! ### IDENTIFY, STATUS_REPORT (R529, R532) -/

/-- BOOT_FLAGS (Table 17-5): bits 0 and 8 follow the patch RAM and the fuses. -/
def bootFlags (s : State) : Nat := s.mode.bootFlags ||| b2n s.trust.patch.isSome ||| b2n (ownerEnrolled s) * 256

/-- GEN of an object in use, 0 without one. -/
def genOf : Option (List Byte) → Nat
  | some o => objGen o
  | none => 0

/-- LEVEL of the configuration object in use. -/
def configLevel (s : State) : Nat := match s.trust.config with | some o => objLevel o | none => 0

/-- Body of the IDENTIFY report; R529. -/
def identifyBody (s : State) : List Byte :=
  let m := s.mode
  let (phase, index, status, _) := m.firstFail.getD (0, 0, 0, 0)
  ((List.range 10).flatMap fun i => leBytes 4 (readBar0 s (4 * i))) ++ leBytes 2 (bootFlags s) ++ leBytes 1 m.wakeCause ++
    leBytes 1 m.bootRetries ++ leBytes 4 0 ++ leBytes 8 (genOf s.trust.patch) ++ leBytes 8 (genOf s.trust.config) ++
    leBytes 1 s.trust.patchFuse ++ leBytes 1 s.trust.configFuse ++ leBytes 1 (slotsByte s false) ++ leBytes 1 (slotsByte s true) ++
    leBytes 4 (configLevel s) ++ leBytes 4 (m.firstLightMs.getD 0) ++ leBytes 4 m.readyMs ++ keyIds s false ++ keyIds s true ++
    leBytes 2 m.configFails ++ leBytes 1 phase ++ leBytes 1 0 ++ leBytes 4 index ++ leBytes 2 status ++ leBytes 6 0

/-- Checks of IDENTIFY; R529. -/
def identifyCheck (b : Barge) (_ : State) : Option Reply := firstFail [ lenIs b 8, reservedBytes b 0 8 ]
/-- Effect of IDENTIFY; R529. -/
def identifyApply (b : Barge) (s : State) : State := complete b { report := some (identifyBody s) } s
/-- IDENTIFY; R529. -/
def execIdentify (b : Barge) (s : State) : Out := barge identifyCheck identifyApply b s

/-- VFLAGS of STATUS_REPORT; R532. -/
def statusFlags (s : State) : Nat :=
  vehicleFlags s + 8 * b2n s.can.busOff + 16 * b2n (decide (127 < s.can.tec) || decide (127 < s.can.rec_)) + 32 * b2n (openChallenge s).isSome

/-- Body of the STATUS_REPORT report; R532. -/
def statusBody (s : State) : List Byte :=
  let m := s.mode
  leBytes 1 m.shown ++ leBytes 1 m.base.code ++ leBytes 1 (b2n (electricalHold s) + 2 * b2n s.power.holdThermal) ++
    leBytes 1 (statusFlags s) ++ leBytes 4 m.hbTimeout ++ leBytes 4 (hbRemain s) ++ leBytes 4 m.epoch ++ leBytes 8 s.time ++
    leBytes 8 m.tMode ++ leBytes 8 s.can.tVehicle ++ leBytes 4 m.quietEntries ++ leBytes 4 m.depotEntries ++ leBytes 4 s.can.rxFrames ++
    leBytes 1 (min 255 s.can.tec) ++ leBytes 1 s.can.rec_ ++ leBytes 2 s.recording.stop ++ leBytes 24 0

/-- Checks of STATUS_REPORT; R532. -/
def statusReportCheck (b : Barge) (_ : State) : Option Reply := firstFail [ lenIs b 8, reservedBytes b 0 8 ]
/-- Effect of STATUS_REPORT; R532. -/
def statusReportApply (b : Barge) (s : State) : State := complete b { report := some (statusBody s) } s
/-- STATUS_REPORT; R532. -/
def execStatusReport (b : Barge) (s : State) : Out := barge statusReportCheck statusReportApply b s

/-! ### Heartbeat (R502, R512, R530) -/

/-- HEARTBEAT: a write to the register; R512. -/
def execHeartbeat (value : Word32) (s : State) : Out :=
  done (if railsOn s then heartbeat (s.mapHost fun h => { h with heartbeat := value }) else s)

/-- Checks of HEARTBEAT_SET; R530. -/
def heartbeatSetCheck (b : Barge) (_ : State) : Option Reply :=
  let v := b.pay 0 4
  firstFail [ ring0Only b, lenIs b 8, reservedBytes b 4 4, fieldIf b 0 4 (v != 0 && (decide (v < 100) || decide (60000 < v))) ]
/-- Effect of HEARTBEAT_SET: the timeout is applied at completion and the timer restarts; R530. -/
def heartbeatSetApply (b : Barge) (s : State) : State :=
  complete b (.ok s.mode.hbTimeout) (heartbeat (s.mapMode fun m => { m with hbTimeout := b.pay 0 4 }))
/-- HEARTBEAT_SET; R530. -/
def execHeartbeatSet (b : Barge) (s : State) : Out := bargeSync heartbeatSetCheck heartbeatSetApply b s

/-- HEARTBEAT_TIMEOUT (R502, R503): the timer has reached 0; in DEPOT the DEPOT-only operations stop first. -/
def execHeartbeatTimeout (s : State) : Out :=
  done (if !s.mode.hbRuns || s.mode.hbTimeout == 0 then s
    else
      let t := s.atTime (s.mode.hbStart + 1000000 * s.mode.hbTimeout)
      match s.mode.base with
      | .service => enterQuiet t
      | .depot => enterQuiet (leaveDepot t)
      | _ => s)

/-! ### MODE_REQUEST (R514, R515, R531) -/

/-- Payload of MODE_REQUEST. The command's row fixes which operation a valid OP names; an OP of none goes by any of the four
rows and is refused. -/
def requestForm (b : Barge) : List (Option Reply) :=
  [ ring0Only b, lenIs b 16, reservedBytes b 1 7, fieldIf b 0 1 (b.pay 0 1 = 0 || decide (4 < b.pay 0 1)) ]

/-- Checks of SLEEP; R531. -/
def sleepCheck (b : Barge) (s : State) : Option Reply :=
  firstFail (requestForm b ++
    [ failIf (decide (modeNow s ≠ 3) && decide (modeNow s ≠ 4)) (wrongState s 0),
      failIf (!stationary s) (.err stNotPermitted 0x31), failIf s.mode.sleeping.isSome (freeReply stBusy s) ])
/-- Effect of SLEEP: the KEEPALIVE entry sequence begins; R515. -/
def sleepApply (b : Barge) (s : State) : State := startSleep (some b) (markCommitted b s)
/-- SLEEP; R531. -/
def execSleep (b : Barge) (s : State) : Out := bargeSync sleepCheck sleepApply b s

/-- SLEEP_TIMER (R502): IGNITION off and STATIONARY for SLEEP_AFTER_S in QUIET. -/
def execSleepTimer (s : State) : Out :=
  let n := imageNum s 0x26 2
  done (match s.can.sleepFrom with
    | some t => if n = 0 || s.mode.sleeping.isSome || decide (modeNow s ≠ 4) then s else startSleep none (s.atTime (t + 1000000000 * n))
    | none => s)

/-- Checks of DEPOT_CHALLENGE; R531. -/
def depotChallengeCheck (b : Barge) (_ : State) : Option Reply := firstFail (requestForm b)
/-- Effect of DEPOT_CHALLENGE: the open challenge, or a new one that expires 300 s on; R531. -/
def depotChallengeApply (b : Barge) (s : State) : State :=
  let (c, s) := match openChallenge s with
    | some c => (c, s)
    | none => (((List.range 32).map (Config.randomByte s.free), s.time + 300000000000), s.takeFree)
  complete b { report := some (c.1 ++ leBytes 8 c.2 ++ leBytes 8 0) } (s.mapMode fun m => { m with challenge := some c })
/-- DEPOT_CHALLENGE; R531. -/
def execDepotChallenge (b : Barge) (s : State) : Out := barge depotChallengeCheck depotChallengeApply b s

/-- CHALLENGE_EXPIRED; R531. -/
def execChallengeExpired (s : State) : Out :=
  .next (match s.mode.challenge with
    | some c => (s.atTime c.2).mapMode fun m => { m with challenge := none }
    | none => s)

/-- An object of `n` bytes that firmware reads, none if a codeword of it cannot be read. -/
def readObject (a n : Nat) (s : State) : Option (List Byte) × State :=
  let (l, bad, s) := devRead 0x02 4 a n s
  (if bad.isEmpty then some (l.map fun o => o.getD 0) else none, s)

/-- Length of the object at an address, from its BODY_LEN. -/
def ticketLength (a : Nat) (s : State) : Nat := 0x2280 + leNat (devPeek s (a + 0x14) 4)

/-- The ticket names this module and the open challenge; where its body holds them is not stated (R514). -/
def ticketGood (s : State) (o : List Byte) : Option Reply :=
  firstFail
    [ failIf (decide (Config.ticketSerial (objBody o) ≠ s.trust.serial)) (freeReply stBadField s),
      failIf (decide ((openChallenge s).map (·.1) ≠ some (Config.ticketChallenge (objBody o)))) (.err stNotPermitted 0x33) ]

/-- Checks of DEPOT_ENTER before the ticket is read, in the order of R514; in DEPOT there are none. -/
def depotEnterCheck (b : Barge) (s : State) : Option Reply :=
  let a := b.pay 8 8
  let n := ticketLength a s
  firstFail (requestForm b ++ (if s.mode.base = .depot then [] else
    [ failIf (decide (s.mode.base ≠ .service)) (wrongState s 0), failIf (!stationary s) (.err stNotPermitted 0x31),
      failIf (openChallenge s).isNone (.err stNotPermitted 0x33), fieldIf b 8 8 (!inHostRegion s a n || decide (16384 < n)) ]))
/-- Effect of DEPOT_ENTER: the ticket is read and verified, the challenge consumed, and DEPOT entered at completion; R514. -/
def depotEnterApply (b : Barge) (s : State) : State :=
  if s.mode.base = .depot then complete b .ok s
  else
    let a := b.pay 8 8
    let n := ticketLength a s
    match readObject a n s with
    | (none, s) => complete b (.err stInternal s.faults.nextIndex) (internalRecord b s)
    | (some o, s) =>
      match firstFail [verifyObject s 3 n o, ticketGood s o] with
      | some r => complete b r s
      | none =>
        setBase .depot 4 (complete b .ok (s.mapMode fun m => { m with challenge := none, depotEntries := inc32 m.depotEntries }))
/-- DEPOT_ENTER; R514. -/
def execDepotEnter (b : Barge) (s : State) : Out := bargeSync depotEnterCheck depotEnterApply b s

/-- Checks of DEPOT_EXIT; R531. -/
def depotExitCheck (b : Barge) (_ : State) : Option Reply := firstFail (requestForm b)
/-- Effect of DEPOT_EXIT; outside DEPOT there is none; R531. -/
def depotExitApply (b : Barge) (s : State) : State :=
  complete b .ok (if s.mode.base = .depot then setBase .service 5 (leaveDepot s) else s)
/-- DEPOT_EXIT; R531. -/
def execDepotExit (b : Barge) (s : State) : Out := bargeSync depotExitCheck depotExitApply b s

/-! ### CAN (R464, R517) -/

/-- The controller is set up by an image, and takes part in the bus. -/
def canOn (s : State) : Bool := railsOn s && s.trust.config.isSome && !s.can.busOff

/-- An identifier that the controller takes in. -/
def canTakes (s : State) (id : Nat) : Bool :=
  id == imageNum s 0x28 4 || id == imageNum s 0x2C 4 || (match s.recording.programme with | some g => id == g.canId | none => false)

/-- A bit of a frame. -/
def frameBit (data : List Byte) (byte n : Nat) : Bool := bit (leNat (slice data byte 1)) n

/-- A vehicle-state frame whose data covers both configured bytes (R517). -/
def vehicleFrame (id : Nat) (data : List Byte) (s : State) : State :=
  let b1 := imageNum s 0x34 1
  let b2 := imageNum s 0x36 1
  if id = imageNum s 0x2C 4 ∧ max b1 b2 < data.length then
    setVehicle (fun c =>
      { c with
        tVehicle := s.time, valid := true, stationary := frameBit data b1 (imageNum s 0x35 1)
        ignition := frameBit data b2 (imageNum s 0x37 1) }) s
  else s

/-- The time of a change of scene (R465). -/
def sceneChange (old : Nat) (s : State) : State :=
  if currentScene s = old then s else s.mapRec fun r => { r with sceneTime := s.time }

/-- A stop frame of the programme (R464). -/
def stopFrame (id : Nat) (data : List Byte) (s : State) : State :=
  match s.recording.programme with
  | none => s
  | some g =>
    if id = g.canId ∧ g.stopByte + 1 < data.length ∧ g.doorByte < data.length then
      sceneChange (currentScene s) (s.mapRec fun r =>
        { r with stop := leNat (slice data g.stopByte 2), doors := frameBit data g.doorByte g.doorBit, stopValid := true, stopTime := s.time })
    else s

/-- CAN_FRAME_RECEIVED (R464, R517): the frame passes through Q80 to firmware, which does not run in CONTAIN. -/
def execCanFrameReceived (id : Nat) (data : List Byte) (s : State) : Out :=
  done (if !canOn s || !canTakes s id || decide ((if bit (imageNum s 0x21 1) 0 then 64 else 8) < data.length) then s
    else match putItem 80 (leBytes 4 id ++ data) s with
      | none => s
      | some s =>
        let s := { s with can := { s.can with rxFrames := inc32 s.can.rxFrames } }
        if s.mode.contain then s
        else match takeItem 80 s with
          | none => s
          | some (_, s) => stopFrame id data (vehicleFrame id data s))

/-- VEHICLE_STATE_TIMEOUT (R517): 1 s without a vehicle-state frame. -/
def execVehicleStateTimeout (s : State) : Out :=
  done (if s.can.valid then setVehicle (fun c => { c with valid := false }) (s.atTime (s.can.tVehicle + 1000000000)) else s)

/-- CAN_TIMEOUT (R464): DEFAULT_SCENE applies. -/
def execCanTimeout (s : State) : Out :=
  .next (match s.recording.programme with
    | none => s
    | some g =>
      if s.recording.stopValid then
        let s := s.atTime (s.recording.stopTime + 1000000 * g.canTimeout)
        sceneChange (currentScene s) (s.mapRec fun r => { r with stopValid := false })
      else s)

/-- STATUS_CAN_TX (R517): through Q81 to the controller. -/
def execStatusCanTx (s : State) : Out :=
  .next (if !canOn s || !bit (imageNum s 0x21 1) 1 || decide (modeNow s < 3) || s.mode.contain then s
    else
      let data := leBytes 1 s.mode.shown ++ leBytes 1 (bootFlags s) ++ leBytes 1 (faultSummary s) ++ leBytes 1 s.can.alive ++ leBytes 4 0
      let s := { s with can := { s.can with alive := (s.can.alive + 1) % 256 } }
      match (putItem 81 data s).bind fun s => takeItem 81 s with
      | none => s
      | some (data, s) => s.send (.can (imageNum s 0x30 4) data))

/-- CAN_BUS_ERROR (R517): TEC and REC after the error; TEC above 255 is bus-off. -/
def execCanBusError (tec rec_ : Nat) (s : State) : Out :=
  done (if canOn s then { s with can := { s.can with tec := min 511 tec, rec_ := min 255 rec_, busOff := decide (255 < tec) } } else s)

/-- CAN_BUS_OFF_RECOVERY (R517): the controller is error-active again. -/
def execCanBusOffRecovery (s : State) : Out :=
  done (if s.can.busOff then { s with can := { s.can with tec := 0, rec_ := 0, busOff := false } } else s)

end Sys2Proof.Machine
end

