-- ==== Sys2Proof/Machine/Towpath.lean ====
section
/-! DEFINITION. The towpath (file 18, R568; file 19, R582). -/
namespace Sys2Proof.Machine

open Sys2Proof

/-- A frame: SYNC, LEN, CMD, TAG, payload and its CRC-32C. -/
def towFrame (cmd tag : Nat) (payload : List Byte) : List Byte :=
  let body := leBytes 2 payload.length ++ leBytes 1 cmd ++ leBytes 1 tag ++ payload
  leBytes 1 0x7E ++ body ++ leBytes 4 (crc32c body)

/-- A reply is sent, or waits for TP_CTS#. -/
def sendTow (bytes : List Byte) (s : State) : State :=
  if s.faults.ctsOk && s.faults.tpQueue.isEmpty then s.send (.towpath bytes)
  else s.mapFaults fun f => { f with tpQueue := f.tpQueue ++ [bytes] }

/-- A reply to a request in every mode but OFF and KEEPALIVE. -/
def answerTow (cmd : Nat) (tag : Byte) (payload : List Byte) (s : State) : State :=
  if railsOn s then sendTow (towFrame cmd tag.toNat payload) s else s

/-- TOWPATH_IDENTIFY; R568. -/
def execTowpathIdentify (tag : Byte) (s : State) : Out := .next (answerTow 0x81 tag (leBytes 1 0 ++ identifyBody s) s)

/-- TOWPATH_STATUS; R568. -/
def execTowpathStatus (tag : Byte) (s : State) : Out := .next (answerTow 0x82 tag (leBytes 1 0 ++ statusBody s) s)

/-- TOWPATH_SUMMARY: BAR0 bytes 0x0100 to 0x012F; R568. -/
def execTowpathSummary (tag : Byte) (s : State) : Out :=
  .next (answerTow 0x83 tag (leBytes 1 0 ++ (List.range 12).flatMap fun i => leBytes 4 (readBar0 s (0x100 + 4 * i))) s)

/-- TOWPATH_READ: the request's payload is SOURCE, OFFSET and LENGTH; R568. What it does not hold is BAD_RANGE. -/
def execTowpathRead (tag : Byte) (bytes : List Byte) (s : State) : Out :=
  let src := leNat (slice bytes 0 1)
  let off := leNat (slice bytes 1 4)
  let n := leNat (slice bytes 5 2)
  let good := bytes.length == 7 && decide (1 ≤ n) && decide (n ≤ 4095) &&
    (match sourceLength s src with | some len => decide (off + n ≤ len) | none => false)
  .next (answerTow 0x84 tag (if good then leBytes 1 0 ++ sourceBytes s src off n else leBytes 1 2) s)

/-- TOWPATH_BAD_FRAME: a wrong CRC, or an unknown CMD; R568. -/
def execTowpathBadFrame (crcOk : Bool) (cmd tag : Byte) (s : State) : Out :=
  .next (if crcOk then answerTow (cmd.toNat ||| 0x80) tag (leBytes 1 1) s else answerTow 0xFF tag [] s)

/-- TP_CTS_CHANGE: replies that waited are sent in order; R582. -/
def execTpCtsChange (maySend : Bool) (s : State) : Out :=
  .next (if maySend then
      (s.faults.tpQueue.foldl (fun s l => s.send (.towpath l)) s).mapFaults fun f => { f with ctsOk := true, tpQueue := [] }
    else s.mapFaults fun f => { f with ctsOk := false })

end Sys2Proof.Machine
end

