-- ==== Sys2Proof/Machine/Trust.lean ====
section
/-! DEFINITION. Patches, attestation, keys, the configuration image and rollback: family 0x0C, the boot flash and the
security engine (file 17). -/
namespace Sys2Proof.Machine

open Sys2Proof

/-- STATE of a flash slot as R522 numbers it. -/
def FlashState.code : FlashState → Nat
  | .empty => 0 | .loaded => 1 | .active => 2 | .reverted => 3

/-- A slot that holds an object becomes LOADED. -/
def FlashSlot.demote (x : FlashSlot) : FlashSlot := if x.state = .empty then x else { x with state := .loaded }

/-- A flash write, or the copy of a dump, is in progress. -/
def flashBusy (s : State) : Bool := s.trust.flashJob.isSome || s.faults.copying.isSome

/-- The slot that is not ACTIVE, the lower one if neither is. -/
def spareSlot (l : List FlashSlot) : Nat := if activeSlot l = some 0 then 1 else 0

/-- The object without the bytes that follow its body. -/
def objTrim (o : List Byte) : List Byte := o.take (0x2280 + objNum o 0x14 4)

/-! ### PATCH_LOAD, CONFIG_IMAGE_STORE (R533, R537) -/

/-- Payload of a barge that names an object: address, LENGTH and 4 reserved bytes. -/
def objectForm (b : Barge) (s : State) : List (Option Reply) :=
  [ ring0Only b, lenIs b 16, reservedBytes b 12 4, fieldIf b 0 8 (!inHostRegion s (b.pay 0 8) (b.pay 8 4)) ]

/-- A verified object is written to a slot; the barge completes when it has been read back. -/
def programSlot (b : Barge) (config : Bool) (o : List Byte) (s : State) : State :=
  let slot := spareSlot (if config then s.trust.configs else s.trust.patches)
  s.mapTrust fun t => { t with flashJob := some { barge := b, config, slot, bytes := objTrim o } }

/-- Checks of PATCH_LOAD; R533. -/
def patchLoadCheck (b : Barge) (s : State) : Option Reply := firstFail (objectForm b s ++ [ failIf (flashBusy s) (freeReply stBusy s) ])
/-- Effect of PATCH_LOAD: the object is read, verified and programmed; R522, R533. -/
def patchLoadApply (b : Barge) (s : State) : State :=
  match readObject (b.pay 0 8) (b.pay 8 4) s with
  | (none, s) => complete b (.err stInternal s.faults.nextIndex) (internalRecord b s)
  | (some o, s) =>
    match firstFail [verifyObject s 1 (b.pay 8 4) o, failIf (decide (524288 < objNum o 0x14 4)) (freeReply stBadField s)] with
    | some r => complete b r s
    | none => programSlot b false o s
/-- PATCH_LOAD; R533. -/
def execPatchLoad (b : Barge) (s : State) : Out := barge patchLoadCheck patchLoadApply b s

/-- Checks of CONFIG_IMAGE_STORE; R537. -/
def configImageStoreCheck (b : Barge) (s : State) : Option Reply :=
  firstFail (objectForm b s ++
    [ failIf (decide (modeNow s ≠ 3) && decide (modeNow s ≠ 6)) (wrongState s 0), failIf (!ownerEnrolled s) (.err stNotPermitted 0x32),
      failIf (flashBusy s) (freeReply stBusy s) ])
/-- Effect of CONFIG_IMAGE_STORE: the object is read, verified as a slot's is at BOOT, and programmed; R537. -/
def configImageStoreApply (b : Barge) (s : State) : State :=
  match readObject (b.pay 0 8) (b.pay 8 4) s with
  | (none, s) => complete b (.err stInternal s.faults.nextIndex) (internalRecord b s)
  | (some o, s) =>
    match firstFail [verifyObject s 2 (b.pay 8 4) o, failIf (!imageGood (objBody o)) (freeReply stBadField s)] with
    | some r => complete b r s
    | none => programSlot b true o s
/-- CONFIG_IMAGE_STORE; R537. -/
def execConfigImageStore (b : Barge) (s : State) : Out := barge configImageStoreCheck configImageStoreApply b s

/-- FLASH_PROGRAM_COMPLETE (R522, R533, R537): the state records are rewritten and the barge completes with the slot. An object
that does not read back ends it with ST_INTERNAL, and leaves the slot's contents free. -/
def execFlashProgramComplete (ok : Bool) (s : State) : Out :=
  .next (match s.trust.flashJob with
    | none => s
    | some j =>
      if !ok then complete j.barge (.err stInternal s.faults.nextIndex) (internalRecord j.barge (abandonFlash s))
      else
        let new : FlashSlot := { state := if j.config then .active else .loaded, bytes := j.bytes }
        let s := s.mapTrust fun t =>
          let t := { t with flashJob := none }
          if j.config then { t with configs := (t.configs.map (·.demote)).set j.slot new } else { t with patches := t.patches.set j.slot new }
        complete j.barge (.ok j.slot) s)

/-! ### Live activation (R525, R534) -/

/-- Payload of PATCH_ACTIVATE, whose DEACTIVATE the command's row fixes. -/
def activateForm (b : Barge) : List (Option Reply) :=
  [ ring0Only b, lenIs b 8, reservedBits b 1 0xFE, reservedBytes b 2 6, fieldIf b 0 1 (decide (1 < b.pay 0 1)) ]

/-- Checks of PATCH_ACTIVATE; R534. -/
def patchActivateCheck (b : Barge) (s : State) : Option Reply :=
  let x := s.trust.patches.getD (b.pay 0 1) {}
  firstFail (activateForm b ++
    [ failIf (decide (x.state = .empty) || decide (x.state = .reverted)) (wrongState s x.state.code),
      failIf (decide (x.state ≠ .active) && s.trust.flashJob.isSome) (freeReply stBusy s) ])
/-- Effect of PATCH_ACTIVATE: the slot is verified again, its body put in patch RAM, and the state records rewritten; R525. -/
def patchActivateApply (b : Barge) (s : State) : State :=
  let k := b.pay 0 1
  let x := s.trust.patches.getD k {}
  if x.state = .active then complete b .ok s
  else match verifyObject s 1 x.bytes.length x.bytes with
    | some r => complete b r s
    | none =>
      let s := s.mapTrust fun t =>
        { t with
          patchBefore := t.patch.map fun o => (o, t.patchSlot), patch := some x.bytes, patchSlot := k, patchTime := some s.time
          patches := (t.patches.map (·.demote)).set k { x with state := .active } }
      raise 144 0x0C01 (leBytes 1 k ++ leBytes 3 0 ++ leBytes 4 (objLevel x.bytes) ++ leBytes 8 (objGen x.bytes)) (complete b .ok s)
/-- PATCH_ACTIVATE; R525. -/
def execPatchActivate (b : Barge) (s : State) : Out := barge patchActivateCheck patchActivateApply b s

/-- Checks of PATCH_DEACTIVATE; R534. -/
def patchDeactivateCheck (b : Barge) (s : State) : Option Reply :=
  firstFail (activateForm b ++ [ failIf s.trust.flashJob.isSome (freeReply stBusy s) ])
/-- Effect of PATCH_DEACTIVATE: the hook table returns to the ROM, and both slots become LOADED; R534. -/
def patchDeactivateApply (b : Barge) (s : State) : State :=
  complete b .ok (s.mapTrust fun t =>
    { t with patch := none, patchSlot := 0, patchTime := none, patchBefore := none, patches := t.patches.map (·.demote) })
/-- PATCH_DEACTIVATE; R534. -/
def execPatchDeactivate (b : Barge) (s : State) : Out := barge patchDeactivateCheck patchDeactivateApply b s

/-! ### Attestation (R507, R527, R535) -/

/-- SHA-384 of the signed part of an object in use, 0 without one. -/
def objectHash : Option (List Byte) → List Byte
  | some o => sha384 (objSigned o)
  | none => List.replicate 48 0

/-- Bytes 0x000 to 0x33F of an attestation record (Table 17-10). -/
def attestBody (kind : Nat) (nonce : List Byte) (s : State) : List Byte :=
  let m := s.mode
  let key := certKeys s false
  [0x50, 0x48, 0x41, 0x54] ++ leBytes 2 1 ++ leBytes 1 kind ++ leBytes 1 m.shown ++ padTo 10 s.trust.serial ++
    leBytes 2 Config.romRelease ++ leBytes 2 Config.ohmainVersion ++ leBytes 2 (bootFlags s) ++ leBytes 8 s.time ++
    leBytes 1 m.wakeCause ++ leBytes 1 m.bootRetries ++ leBytes 1 s.trust.patchFuse ++ leBytes 1 s.trust.configFuse ++
    leBytes 1 (slotsByte s false) ++ leBytes 1 (slotsByte s true) ++ leBytes 2 0 ++ leBytes 4 m.epoch ++ leBytes 4 (faultSummary s) ++
    padTo 32 nonce ++ romHash ++ objectHash s.trust.patch ++ leBytes 8 (genOf s.trust.patch) ++ leBytes 4 (patchLevel s) ++
    leBytes 4 (configLevel s) ++ objectHash s.trust.config ++ leBytes 8 (genOf s.trust.config) ++ leBytes 8 0 ++ keyIds s true ++
    leBytes 48 0 ++ padTo 384 (key.take 384) ++ padTo 4 (slice key 384 4) ++ padTo 32 (key.drop 388) ++ leBytes 92 0

/-- Checks of ATTEST; R535. -/
def attestCheck (b : Barge) (s : State) : Option Reply :=
  firstFail [ lenIs b 48, reservedBits b 40 0xFE, reservedBytes b 41 7, fieldIf b 32 8 (!inHostRegion s (b.pay 32 8) 20480) ]
/-- Effect of ATTEST: the security engine is to sign a record of KIND REQUEST; R535. -/
def attestApply (b : Barge) (s : State) : State :=
  s.mapTrust fun t => { t with signing := t.signing ++ [.attest b (attestBody 2 (leBytes 32 (b.pay 0 32)) s)] }
/-- ATTEST; R535. -/
def execAttest (b : Barge) (s : State) : Out := barge attestCheck attestApply b s

/-- SIGNING_COMPLETE (R454, R507, R535): the first piece of work has both signatures. -/
def execSigningComplete (s : State) : Out :=
  .next (match s.trust.signing with
    | [] => s
    | w :: l =>
      let s := s.mapTrust fun t => { t with signing := l }
      match w with
      | .manifest => signManifest s
      | .boot body =>
        let s := (s.mapTrust fun t => { t with bootRecord := body ++ signatures s.free }).takeFree
        if driveOpen s then writeBootSlot s else s
      | .attest b body =>
        let a := b.pay 32 8
        let t := devWrite a (body ++ signatures s.free) s.takeFree
        complete b (.ok 9072) (if bit (b.pay 40 1) 0 then devWrite (a + 0x2400) s.trust.deviceCert t else t))

/-! ### KEY_REVOKE (R523, R536) -/

/-- The lowest owner slot that is not enrolled. -/
def emptyOwner (s : State) : Option Nat := (List.range 4).find? fun k => !enrolled s true k

/-- The fields of a key ticket's body are of its form, and name this module (R523). -/
def keyTicketForm (s : State) (t : List Byte) : Bool :=
  let n := fun off => leNat (slice t off 1)
  decide (56 ≤ t.length) && (n 0 == 1 || n 0 == 2) && (n 1 == 1 || n 1 == 2) && decide (n 2 < 4) && zeros (slice t 3 5) &&
    decide (slice t 8 10 = padTo 10 s.trust.serial) && zeros (slice t 18 6) && !(n 1 == 2 && n 0 == 1)

/-- Slots of a class that are enrolled and not revoked, but for one. -/
def otherRoots (s : State) (owner : Bool) (slot : Nat) : Nat :=
  ((List.range 4).filter fun k => k != slot && enrolled s owner k && !revoked s owner k).length

/-- The fuse of a revoked slot is burnt. -/
def burnRevoked (owner : Bool) (slot : Nat) (s : State) : State :=
  s.mapTrust fun t =>
    if owner then { t with ownerRevoked := t.ownerRevoked.set slot true } else { t with vendorRevoked := t.vendorRevoked.set slot true }

/-- A verified key ticket applied: the fuses, or why it is refused (R523, R536). -/
def applyTicket (t : List Byte) (s : State) : Option Reply × State :=
  let owner := leNat (slice t 0 1) == 2
  let slot := leNat (slice t 2 1)
  if leNat (slice t 1 1) = 1 then
    if revoked s owner slot then (none, s)
    else if otherRoots s owner slot = 0 then (some (.err stNotPermitted 0x34), s)
    else (none, burnRevoked owner slot s)
  else
    let hash := slice t 24 32
    if s.trust.ownerHash.getD slot [] = hash then (none, s)
    else if emptyOwner s = some slot then (none, s.mapTrust fun u => { u with ownerHash := u.ownerHash.set slot hash })
    else (some (freeReply stBadField s), s)

/-- Checks of KEY_REVOKE; R536. -/
def keyRevokeCheck (b : Barge) (s : State) : Option Reply :=
  firstFail (objectForm b s ++ [ failIf (decide (s.mode.base ≠ .depot)) (.err stNotPermitted 0x30) ])
/-- Effect of KEY_REVOKE; R523, R536. -/
def keyRevokeApply (b : Barge) (s : State) : State :=
  match readObject (b.pay 0 8) (b.pay 8 4) s with
  | (none, s) => complete b (.err stInternal s.faults.nextIndex) (internalRecord b s)
  | (some o, s) =>
    match firstFail [verifyObject s 4 (b.pay 8 4) o, failIf (!keyTicketForm s (objBody o)) (freeReply stBadField s)] with
    | some r => complete b r s
    | none =>
      match applyTicket (objBody o) s with
      | (some r, s) => complete b r s
      | (none, s) => complete b (.ok (slotsByte s false + 256 * slotsByte s true)) s
/-- KEY_REVOKE; R536. -/
def execKeyRevoke (b : Barge) (s : State) : Out := barge keyRevokeCheck keyRevokeApply b s

/-! ### ROLLBACK_ADVANCE (R524, R538) -/

/-- The ACTIVE object of a kind. -/
def activeObject (s : State) (kind : Nat) : Option (List Byte) :=
  let l := if kind = 1 then s.trust.patches else s.trust.configs
  (activeSlot l).map fun k => (l.getD k {}).bytes

/-- Checks of ROLLBACK_ADVANCE; R538. -/
def rollbackAdvanceCheck (b : Barge) (s : State) : Option Reply :=
  let kind := b.pay 0 1
  firstFail [ ring0Only b, lenIs b 8, reservedBytes b 1 7, fieldIf b 0 1 (kind != 1 && kind != 2),
    failIf (activeObject s kind).isNone (wrongState s 0) ]
/-- Effect of ROLLBACK_ADVANCE: the fused level rises to that of the ACTIVE object; R524. -/
def rollbackAdvanceApply (b : Barge) (s : State) : State :=
  let kind := b.pay 0 1
  let level := max (fusedLevel s kind) (min 63 (objLevel ((activeObject s kind).getD [])))
  complete b (.ok level) (s.mapTrust fun t => if kind = 1 then { t with patchFuse := level } else { t with configFuse := level })
/-- ROLLBACK_ADVANCE; R538. -/
def execRollbackAdvance (b : Barge) (s : State) : Out := barge rollbackAdvanceCheck rollbackAdvanceApply b s

end Sys2Proof.Machine
end

