-- ==== Sys2Proof/Machine/Boot.lean ====
section
/-! DEFINITION. BOOT: the entries of the configuration image, service-ready, power and wakes, and what the module does by itself
at a tick (files 16 and 17). -/
namespace Sys2Proof.Machine

open Sys2Proof

/-! ### Barges of the image (R509, R510) -/

/-- The state that a command answers, if it answers one. -/
def stateAfter (s : State) (o : Out) : State :=
  match o with
  | .next t => t
  | _ => s

/-- A barge of families 0x01 to 0x03 that an image may hold. -/
def runLow (b : Barge) (s : State) : Out :=
  match b.opcode with
  | 0x0100 => execNop b s
  | 0x0101 => execIdentify b s
  | 0x0104 => execHeartbeatSet b s
  | 0x0106 => execFenceCreate b s
  | 0x0107 => execFenceDestroy b s
  | 0x0108 => execStatusReport b s
  | 0x0201 => execMemAlloc b s
  | 0x0202 => execMemFree b s
  | 0x0203 => execSurfaceRegister b s
  | 0x0204 => execSurfaceFree b s
  | 0x0207 => if bit (b.pay 8 1) 0 then execSurfaceUnseal b s else execSurfaceSeal b s
  | 0x0208 => execSurfaceQuery b s
  | 0x0301 => execLayerAssign b s
  | 0x0302 => execLayerRelease b s
  | 0x0303 => execLayerSet b s
  | 0x0304 => execPodDefine b s
  | 0x0305 => execPodDelete b s
  | 0x0306 => execCommit b s
  | 0x0307 => execDamageDeclare b s
  | _ => execLayerQuery b s

/-- A barge of families 0x04 to 0x06. -/
def runMid (b : Barge) (s : State) : Out :=
  match b.opcode with
  | 0x0401 => if bit (b.pay 3 1) 0 then execPipeRemove b s else execPipeConfig b s
  | 0x0402 => execPipeEnable b s
  | 0x0403 => execPipeDisable b s
  | 0x0404 => execTimingChange b s
  | 0x0405 => execTowSet b s
  | 0x0406 => execLinkStatus b s
  | 0x0407 => execEdidRead b s
  | 0x0408 => execWritebackSet b s
  | 0x0501 => if bit (b.pay 3 1) 0 then execCameraRemove b s else execCameraDeclare b s
  | 0x0502 => execCameraStart b s
  | 0x0503 => execCameraStop b s
  | 0x0504 => execCameraRingSet b s
  | 0x0505 => execCameraStatus b s
  | 0x0506 => execLatencyContractSet b s
  | 0x0601 => execBltCopy b s
  | 0x0602 => execBltFill b s
  | 0x0603 => execBltRop3 b s
  | 0x0604 => execBltMonoExpand b s
  | 0x0605 => execBltAlpha b s
  | 0x0606 => execBltConvert b s
  | 0x0607 => if b.pay 8 4 = 0 then execTwoDReserveRemove b s else execTwoDReserve b s
  | _ => execBltBatch b s

/-- A barge of families 0x07 to 0x0B. -/
def runHigh (b : Barge) (s : State) : Out :=
  match b.opcode with
  | 0x0701 => execCvConfig b s
  | 0x0702 => execCvDma b s
  | 0x0703 => execCvContextSave b s
  | 0x0704 => execCvContextLoad b s
  | 0x0705 => execFrameSignSet b s
  | 0x0706 => if b.pay 8 4 = 0 then execCvReserveRemove b s else execCvReserve b s
  | 0x0801 => execRecStreamAdd b s
  | 0x0802 => execRecStreamRemove b s
  | 0x0803 => if bit (b.pay 2 1) 1 then execRecBurstStop b s else execRecBurst b s
  | 0x0804 => execRecQuery b s
  | 0x0807 => if bit (b.pay 4 1) 0 then execProgrammeRemove b s else execProgrammeLoad b s
  | 0x0901 => execQCreate b s
  | 0x0902 => execQDelete b s
  | 0x0903 => execQQuotaSet b s
  | 0x0904 => execQWeirSet b s
  | 0x0905 => execQFlush b s
  | 0x0906 => execQQuery b s
  | 0x0A01 => execEventRingCreate b s
  | 0x0A02 => execEventRingDelete b s
  | 0x0A03 => execEventRoute b s
  | 0x0A04 => execModerationSet b s
  | 0x0A05 => match b.pay 0 1 with
    | 0 => execEventEnable b s
    | 1 => execEventDisable b s
    | 2 => execEventMaskSources b s
    | _ => execEventUnmask b s
  | 0x0B01 => execPowerQuery b s
  | 0x0B02 => execBaseplateDeclare b s
  | 0x0B03 => execSprintPolicy b s
  | _ => execSchedWeights b s

/-- A barge of the image is executed by its opcode. -/
def runOpcode (b : Barge) (s : State) : State :=
  stateAfter s (if b.opcode < 0x0400 then runLow b s else if b.opcode < 0x0700 then runMid b s else runHigh b s)

/-- Header checks of an image barge: as on ring 0, but for SEQ and RESUBMIT (R510). -/
def imageChecks (b : Barge) (s : State) : Option Reply :=
  firstFail
    [ failIf (!slotsGood b) (.checkFailed stBadLength (b.slots + (1 + ceilDiv b.payloadLen 64) * 2 ^ 16)),
      failIf (b.checked && decide (crc32c (checkBytes b) ≠ b.hdrCheck)) (.checkFailed stBadCheck (crc32c (checkBytes b))),
      headerChecks2 { b with ring := 0 } s ]

/-- A status and DETAIL that the manual does not state, for a LOAD that cannot be done. -/
def loadFails (phase index : Nat) (s : State) : State :=
  imageFail phase index (Config.freeNat s.free % 65536) (Config.freeNat (s.free + 1)) s.takeFree.takeFree

/-- Tiles written one after another: the metadata entry of each, and its sectors. -/
def loadTiles (addr off1 pitch0 pitch1 cols : Nat) (meta_ : List Byte) : Nat → Nat → List Byte → State → State
  | 0, _, _, s => s
  | n + 1, t, data, s =>
    let e := slice meta_ (8 * t) 8
    let k := 256 * leNat (slice e 1 1)
    let row := t / cols
    let col := t % cols
    loadTiles addr off1 pitch0 pitch1 cols meta_ n (t + 1) (data.drop k)
      (devWrite (addr + row * pitch0 + 4096 * col) (data.take k) (devWrite (addr + off1 + row * pitch1 + 8 * col) e s))

/-- A LOAD entry; R509. -/
def runLoad (phase index o : Nat) (s : State) : State :=
  let body := imageBody s
  let data := entryData body o
  let num := fun off n => leNat (slice body (o + off) n)
  let addr := num 0x08 8
  if !bit (entryFlags body o) 0 then
    if inHostRegion s addr data.length then devWrite addr data s else loadFails phase index s
  else
    let cols := num 0x10 2
    let rows := num 0x12 2
    let n := cols * rows
    let meta_ := data.take (8 * n)
    let size := ((List.range n).map fun t => 256 * leNat (slice meta_ (8 * t + 1) 1)).sum
    let end_ := max ((rows - 1) * num 0x14 4 + 4096 * cols) (num 0x1C 8 + (rows - 1) * num 0x18 4 + 8 * cols)
    if n = 0 then s
    else if inHostRegion s addr end_ && decide (8 * n + size ≤ data.length) then
      loadTiles addr (num 0x1C 8) (num 0x14 4) (num 0x18 4) cols meta_ n 0 (data.drop (8 * n)) s
    else loadFails phase index s

/-- PIPE_ENABLE and CAMERA_START count as complete once started (R510). -/
def countsStarted (b : Barge) : Bool := b.opcode == 0x0402 || b.opcode == 0x0502

/-- A pipe that a LIGHT entry has started is a LIGHT pipe. -/
def noteLightPipe (phase : Nat) (b : Barge) (s : State) : State :=
  if phase = 1 ∧ b.opcode = 0x0402 ∧ (s.pipe (b.pay 0 1)).state = .running then
    s.mapMode fun m => { m with lightPipes := m.lightPipes ++ [b.pay 0 1] }
  else s

/-- A BARGE entry starts; one that waits for a fence, or for room in a queue, has not started. -/
def runImageBarge (phase index : Nat) (b : Barge) (s : State) : Bool × State :=
  let gone := fun (s : State) => s.mapMode fun m => { m with imageLeft := m.imageLeft.tail }
  match imageChecks b s with
  | some r => (true, imageFail phase index r.status r.detail (gone s))
  | none =>
    if (b.waitEn && !s.fenceReached b.waitFence (BitVec.ofNat 64 b.waitValue)) || startBlocked b s then (false, s)
    else
      let s := noteLightPipe phase b (runOpcode b ((gone s).mapMode fun m => { m with imageBarge := some (b, phase, index) }))
      (true, if countsStarted b then s.mapMode fun m => { m with imageBarge := none } else s)

/-- The entries of the image that wait are executed, each after the one before has completed. -/
def runEntries : Nat → State → State
  | 0, s => s
  | n + 1, s =>
    if s.mode.imageBarge.isSome || s.mode.contain then s
    else match s.mode.imageLeft with
      | [] => s
      | (phase, index, o) :: rest =>
        if entryKind (imageBody s) o = 2 then
          runEntries n (runLoad phase index o (s.mapMode fun m => { m with imageLeft := rest }))
        else
          let (ran, s) := runImageBarge phase index { ring := imageRing, bytes := entryData (imageBody s) o } s
          if ran then runEntries n s else s

/-- Entries that wait. -/
def entriesGoOn (s : State) : State := runEntries s.mode.imageLeft.length s

/-- The entries of one list of the image, each with its phase and index. -/
def entriesOf (phase : Nat) (s : State) : List (Nat × Nat × Nat) :=
  let body := imageBody s
  let o := leNat (slice body (if phase = 1 then 0x08 else 0x10) 4)
  let n := leNat (slice body (if phase = 1 then 0x0C else 0x14) 4)
  (entryOffsets body n o).zipIdx.map fun (x : Nat × Nat) => (phase, x.2, x.1)

/-- LIGHT_ENTRIES: step 6 of BOOT; R504, R509. -/
def execLightEntries (s : State) : Out :=
  done (if s.mode.base ≠ .boot ∨ s.mode.lightDone then s
    else
      let s := if s.trust.config.isSome then setBootFlag 2 s else s
      entriesGoOn (s.mapMode fun m => { m with lightDone := true, imageLeft := entriesOf 1 s }))

/-- SERVICE_READY: steps 8 and 9 of BOOT. The SERVICE entries start, READY is set, the heartbeat timer runs, and the security
engine is to sign the boot attestation record; R504, R507. -/
def execServiceReady (s : State) : Out :=
  done (if s.mode.base ≠ .boot ∨ !s.mode.lightDone ∨ !s.mode.imageLeft.isEmpty ∨ s.mode.imageBarge.isSome then s
    else
      let s := if s.mem.lost.any id then setBootFlag 7 s else s
      let s := s.mapMode fun m =>
        { m with ready := true, readyMs := (s.time - m.bootTime) / 1000000, hbRuns := true, hbStart := s.time, imageLeft := entriesOf 2 s }
      let s := setBase .service 1 s
      let s := s.mapTrust fun t => { t with signing := t.signing ++ [.boot (attestBody 1 [] s)] }
      entriesGoOn (if holding s then s.mapPower fun p => { p with holdEntries := inc32 p.holdEntries } else s))

/-! ### Power and wakes (R479, R502, R516) -/

/-- VIN_VALID: OFF is left; R502. -/
def execVinValid (mv : Nat) (s : State) : Out :=
  done (if s.mode.base = .off ∧ 4500 ≤ mv then
      (startBoot 0 0 s.time s).mapPower fun p => { p with vin := mv, inrush := true, vinSince := if 6300 ≤ mv then some s.time else none }
    else s)

/-- POWER_FAILURE: the store is spent; R479, R586. -/
def execPowerFailure (s : State) : Out := .next (if s.mode.base = .off then s else powerOff s)

/-- WAKE_SOURCE; R503, R516. -/
def execWakeSource (cause : Nat) (s : State) : Out :=
  done (if s.mode.base = .keepalive ∧ wakeEnabled s cause then wakeUp cause s
    else if s.mode.sleeping.isSome ∧ wakeEnabled s cause then s.mapMode fun m => { m with wakePending := m.wakePending.or (some cause) }
    else s)

/-- BOOT_RESTART; R506. -/
def execBootRestart (s : State) : Out := done (if s.mode.base = .boot then restartBoot s else s)

/-! ### What the module does by itself -/

/-- Firmware goes on with what waited for something other than a command: faults, tests, the entries of the image, and the
KEEPALIVE entry sequence. -/
def proceed (s : State) : State := if railsOn s then advanceSleep (entriesGoOn (housekeep s)) else s

/-- SCHEDULER_TICK (R491). -/
def execSchedulerTick (work : SchedWork) (s : State) : Out :=
  done (if railsOn s then proceed (powerTick work s) else s)

/-- No command waits: one reference clock passes (R36; log 4), and firmware goes on. In OFF nothing counts. -/
def idle (s : State) : State := if s.mode.base = .off then s else syncLevels (proceed { s with time := s.time + 40 })

end Sys2Proof.Machine
end

