-- ==== Sys2Proof/Machine/Dispatch.lean ====
section
/-! DEFINITION. The dispatcher: one arm for each command. -/
namespace Sys2Proof.Machine

open Sys2Proof

/-- The effect of a command on everything but the queue of waiting commands. -/
def exec (i : Instr) (s : State) : Host.Outcome State Fault Refusal :=
  match i with
  | .nop b => Sys2Proof.Machine.execNop b s
  | .identify b => Sys2Proof.Machine.execIdentify b s
  | .ringCreate b => Sys2Proof.Machine.execRingCreate b s
  | .ringDelete b => Sys2Proof.Machine.execRingDelete b s
  | .heartbeatSet b => Sys2Proof.Machine.execHeartbeatSet b s
  | .sleep b => Sys2Proof.Machine.execSleep b s
  | .depotChallenge b => Sys2Proof.Machine.execDepotChallenge b s
  | .depotEnter b => Sys2Proof.Machine.execDepotEnter b s
  | .depotExit b => Sys2Proof.Machine.execDepotExit b s
  | .fenceCreate b => Sys2Proof.Machine.execFenceCreate b s
  | .fenceDestroy b => Sys2Proof.Machine.execFenceDestroy b s
  | .statusReport b => Sys2Proof.Machine.execStatusReport b s
  | .memAlloc b => Sys2Proof.Machine.execMemAlloc b s
  | .memFree b => Sys2Proof.Machine.execMemFree b s
  | .surfaceRegister b => Sys2Proof.Machine.execSurfaceRegister b s
  | .surfaceFree b => Sys2Proof.Machine.execSurfaceFree b s
  | .dmaUpload b => Sys2Proof.Machine.execDmaUpload b s
  | .dmaDownload b => Sys2Proof.Machine.execDmaDownload b s
  | .surfaceSeal b => Sys2Proof.Machine.execSurfaceSeal b s
  | .surfaceUnseal b => Sys2Proof.Machine.execSurfaceUnseal b s
  | .surfaceQuery b => Sys2Proof.Machine.execSurfaceQuery b s
  | .layerAssign b => Sys2Proof.Machine.execLayerAssign b s
  | .layerRelease b => Sys2Proof.Machine.execLayerRelease b s
  | .layerSet b => Sys2Proof.Machine.execLayerSet b s
  | .podDefine b => Sys2Proof.Machine.execPodDefine b s
  | .podDelete b => Sys2Proof.Machine.execPodDelete b s
  | .commit b => Sys2Proof.Machine.execCommit b s
  | .shadowBankComplete pipe => Sys2Proof.Machine.execShadowBankComplete pipe s
  | .damageDeclare b => Sys2Proof.Machine.execDamageDeclare b s
  | .layerQuery b => Sys2Proof.Machine.execLayerQuery b s
  | .pipeConfig b => Sys2Proof.Machine.execPipeConfig b s
  | .pipeRemove b => Sys2Proof.Machine.execPipeRemove b s
  | .pipeEnable b => Sys2Proof.Machine.execPipeEnable b s
  | .pipeDisable b => Sys2Proof.Machine.execPipeDisable b s
  | .timingChange b => Sys2Proof.Machine.execTimingChange b s
  | .towSet b => Sys2Proof.Machine.execTowSet b s
  | .linkStatus b => Sys2Proof.Machine.execLinkStatus b s
  | .edidRead b => Sys2Proof.Machine.execEdidRead b s
  | .writebackSet b => Sys2Proof.Machine.execWritebackSet b s
  | .cameraDeclare b => Sys2Proof.Machine.execCameraDeclare b s
  | .cameraRemove b => Sys2Proof.Machine.execCameraRemove b s
  | .cameraStart b => Sys2Proof.Machine.execCameraStart b s
  | .cameraStop b => Sys2Proof.Machine.execCameraStop b s
  | .cameraRingSet b => Sys2Proof.Machine.execCameraRingSet b s
  | .cameraStatus b => Sys2Proof.Machine.execCameraStatus b s
  | .latencyContractSet b => Sys2Proof.Machine.execLatencyContractSet b s
  | .bltCopy b => Sys2Proof.Machine.execBltCopy b s
  | .bltFill b => Sys2Proof.Machine.execBltFill b s
  | .bltRop3 b => Sys2Proof.Machine.execBltRop3 b s
  | .bltMonoExpand b => Sys2Proof.Machine.execBltMonoExpand b s
  | .bltAlpha b => Sys2Proof.Machine.execBltAlpha b s
  | .bltConvert b => Sys2Proof.Machine.execBltConvert b s
  | .twoDReserve b => Sys2Proof.Machine.execTwoDReserve b s
  | .twoDReserveRemove b => Sys2Proof.Machine.execTwoDReserveRemove b s
  | .bltBatch b => Sys2Proof.Machine.execBltBatch b s
  | .cvConfig b => Sys2Proof.Machine.execCvConfig b s
  | .cvDma b => Sys2Proof.Machine.execCvDma b s
  | .cvContextSave b => Sys2Proof.Machine.execCvContextSave b s
  | .cvContextLoad b => Sys2Proof.Machine.execCvContextLoad b s
  | .frameSignSet b => Sys2Proof.Machine.execFrameSignSet b s
  | .cvReserve b => Sys2Proof.Machine.execCvReserve b s
  | .cvReserveRemove b => Sys2Proof.Machine.execCvReserveRemove b s
  | .recStreamAdd b => Sys2Proof.Machine.execRecStreamAdd b s
  | .recStreamRemove b => Sys2Proof.Machine.execRecStreamRemove b s
  | .recBurst b => Sys2Proof.Machine.execRecBurst b s
  | .recBurstStop b => Sys2Proof.Machine.execRecBurstStop b s
  | .recQuery b => Sys2Proof.Machine.execRecQuery b s
  | .storeWrite b => Sys2Proof.Machine.execStoreWrite b s
  | .storeRead b => Sys2Proof.Machine.execStoreRead b s
  | .programmeLoad b => Sys2Proof.Machine.execProgrammeLoad b s
  | .programmeRemove b => Sys2Proof.Machine.execProgrammeRemove b s
  | .prepareRemove b => Sys2Proof.Machine.execPrepareRemove b s
  | .formatDrive b => Sys2Proof.Machine.execFormatDrive b s
  | .unprotect b => Sys2Proof.Machine.execUnprotect b s
  | .qCreate b => Sys2Proof.Machine.execQCreate b s
  | .qDelete b => Sys2Proof.Machine.execQDelete b s
  | .qQuotaSet b => Sys2Proof.Machine.execQQuotaSet b s
  | .qWeirSet b => Sys2Proof.Machine.execQWeirSet b s
  | .qFlush b => Sys2Proof.Machine.execQFlush b s
  | .qQuery b => Sys2Proof.Machine.execQQuery b s
  | .eventRingCreate b => Sys2Proof.Machine.execEventRingCreate b s
  | .eventRingDelete b => Sys2Proof.Machine.execEventRingDelete b s
  | .eventRoute b => Sys2Proof.Machine.execEventRoute b s
  | .moderationSet b => Sys2Proof.Machine.execModerationSet b s
  | .eventEnable b => Sys2Proof.Machine.execEventEnable b s
  | .eventDisable b => Sys2Proof.Machine.execEventDisable b s
  | .eventMaskSources b => Sys2Proof.Machine.execEventMaskSources b s
  | .eventUnmask b => Sys2Proof.Machine.execEventUnmask b s
  | .powerQuery b => Sys2Proof.Machine.execPowerQuery b s
  | .baseplateDeclare b => Sys2Proof.Machine.execBaseplateDeclare b s
  | .sprintPolicy b => Sys2Proof.Machine.execSprintPolicy b s
  | .schedWeights b => Sys2Proof.Machine.execSchedWeights b s
  | .patchLoad b => Sys2Proof.Machine.execPatchLoad b s
  | .patchActivate b => Sys2Proof.Machine.execPatchActivate b s
  | .patchDeactivate b => Sys2Proof.Machine.execPatchDeactivate b s
  | .attest b => Sys2Proof.Machine.execAttest b s
  | .keyRevoke b => Sys2Proof.Machine.execKeyRevoke b s
  | .configImageStore b => Sys2Proof.Machine.execConfigImageStore b s
  | .rollbackAdvance b => Sys2Proof.Machine.execRollbackAdvance b s
  | .bistRun b => Sys2Proof.Machine.execBistRun b s
  | .selftestPolicy b => Sys2Proof.Machine.execSelftestPolicy b s
  | .dumpRead b => Sys2Proof.Machine.execDumpRead b s
  | .dumpClear b => Sys2Proof.Machine.execDumpClear b s
  | .faultInject b => Sys2Proof.Machine.execFaultInject b s
  | .sqTailDb ring value => Sys2Proof.Machine.execSqTailDb ring value s
  | .cqHeadDb ring value => Sys2Proof.Machine.execCqHeadDb ring value s
  | .bargeFetch answer => Sys2Proof.Machine.execBargeFetch answer s
  | .bargeStart ring => Sys2Proof.Machine.execBargeStart ring s
  | .heartbeat value => Sys2Proof.Machine.execHeartbeat value s
  | .snap value => Sys2Proof.Machine.execSnap value s
  | .fenceSignal fence wide value => Sys2Proof.Machine.execFenceSignal fence wide value s
  | .adminEnable value => Sys2Proof.Machine.execAdminEnable value s
  | .adminReset value => Sys2Proof.Machine.execAdminReset value s
  | .bar2Base value => Sys2Proof.Machine.execBar2Base value s
  | .bar2Read offset length => Sys2Proof.Machine.execBar2Read offset length s
  | .bar2Write offset bytes => Sys2Proof.Machine.execBar2Write offset bytes s
  | .lowWordRead bar offset => Sys2Proof.Machine.execLowWordRead bar offset s
  | .registerWrite bar offset width value => Sys2Proof.Machine.execRegisterWrite bar offset width value s
  | .complete value => Sys2Proof.Machine.execComplete value s
  | .ecSnap value => Sys2Proof.Machine.execEcSnap value s
  | .headDb ring value => Sys2Proof.Machine.execHeadDb ring value s
  | .msixUnmask target => Sys2Proof.Machine.execMsixUnmask target s
  | .claim pair => Sys2Proof.Machine.execClaim pair s
  | .pairComplete pair value => Sys2Proof.Machine.execPairComplete pair value s
  | .functionLevelReset => Sys2Proof.Machine.execFunctionLevelReset s
  | .fundamentalReset => Sys2Proof.Machine.execFundamentalReset s
  | .d3hotEntry => Sys2Proof.Machine.execD3hotEntry s
  | .d0Return => Sys2Proof.Machine.execD0Return s
  | .d3coldEntry => Sys2Proof.Machine.execD3coldEntry s
  | .pmeResend => Sys2Proof.Machine.execPmeResend s
  | .lock pipe => Sys2Proof.Machine.execLock pipe s
  | .lineRelease pipe half y => Sys2Proof.Machine.execLineRelease pipe half y s
  | .fetchReturn pipe half y upsets sealUpsets => Sys2Proof.Machine.execFetchReturn pipe half y upsets sealUpsets s
  | .deadline pipe half y => Sys2Proof.Machine.execDeadline pipe half y s
  | .lineWrite pipe half y => Sys2Proof.Machine.execLineWrite pipe half y s
  | .windowOpen pipe half y => Sys2Proof.Machine.execWindowOpen pipe half y s
  | .windowClose pipe half y upsets => Sys2Proof.Machine.execWindowClose pipe half y upsets s
  | .bankRebuildComplete => Sys2Proof.Machine.execBankRebuildComplete s
  | .lastPixelRepeat pipe half y x => Sys2Proof.Machine.execLastPixelRepeat pipe half y x s
  | .frameStart pipe => Sys2Proof.Machine.execFrameStart pipe s
  | .verticalBlanking pipe => Sys2Proof.Machine.execVerticalBlanking pipe s
  | .towDecision pipe => Sys2Proof.Machine.execTowDecision pipe s
  | .blackFramesEnd pipe => Sys2Proof.Machine.execBlackFramesEnd pipe s
  | .landingCheck pipe half y => Sys2Proof.Machine.execLandingCheck pipe half y s
  | .laneFaultDetected lane cause => Sys2Proof.Machine.execLaneFaultDetected lane cause s
  | .laneFaultDeclared lane => Sys2Proof.Machine.execLaneFaultDeclared lane s
  | .takeoverSpareStart => Sys2Proof.Machine.execTakeoverSpareStart s
  | .handoverLoaded => Sys2Proof.Machine.execHandoverLoaded s
  | .hpdLow link => Sys2Proof.Machine.execHpdLow link s
  | .hpdHigh link => Sys2Proof.Machine.execHpdHigh link s
  | .irqHpd link => Sys2Proof.Machine.execIrqHpd link s
  | .hpdStormEnd link level => Sys2Proof.Machine.execHpdStormEnd link level s
  | .auxReply link reply => Sys2Proof.Machine.execAuxReply link reply s
  | .auxTimeout link => Sys2Proof.Machine.execAuxTimeout link s
  | .trainingAttemptEnd link result => Sys2Proof.Machine.execTrainingAttemptEnd link result s
  | .trainingRetry link => Sys2Proof.Machine.execTrainingRetry link s
  | .linkLost link => Sys2Proof.Machine.execLinkLost link s
  | .cameraFs input vc number => Sys2Proof.Machine.execCameraFs input vc number s
  | .cameraLinePacket input packet => Sys2Proof.Machine.execCameraLinePacket input packet s
  | .cameraLineLanded input => Sys2Proof.Machine.execCameraLineLanded input s
  | .cameraFe input vc number => Sys2Proof.Machine.execCameraFe input vc number s
  | .cameraEmbeddedData input vc bytes crcOk => Sys2Proof.Machine.execCameraEmbeddedData input vc bytes crcOk s
  | .cameraPacketDiscard input cause => Sys2Proof.Machine.execCameraPacketDiscard input cause s
  | .cameraLinkError input => Sys2Proof.Machine.execCameraLinkError input s
  | .frameTimeout input => Sys2Proof.Machine.execFrameTimeout input s
  | .fsMissing input => Sys2Proof.Machine.execFsMissing input s
  | .cameraStartTimeout input => Sys2Proof.Machine.execCameraStartTimeout input s
  | .cameraStopTimeout input => Sys2Proof.Machine.execCameraStopTimeout input s
  | .twoDJobBegin engine => Sys2Proof.Machine.execTwoDJobBegin engine s
  | .twoDBurst engine others => Sys2Proof.Machine.execTwoDBurst engine others s
  | .twoDLineLanded engine => Sys2Proof.Machine.execTwoDLineLanded engine s
  | .twoDJobComplete engine => Sys2Proof.Machine.execTwoDJobComplete engine s
  | .cvDescriptor channel => Sys2Proof.Machine.execCvDescriptor channel s
  | .signatureRecord link => Sys2Proof.Machine.execSignatureRecord link s
  | .put queue client bytes => Sys2Proof.Machine.execPut queue client bytes s
  | .endItem queue client => Sys2Proof.Machine.execEndItem queue client s
  | .cancel queue client => Sys2Proof.Machine.execCancel queue client s
  | .itemComplete queue => Sys2Proof.Machine.execItemComplete queue s
  | .get queue client length => Sys2Proof.Machine.execGet queue client length s
  | .nextItem queue client => Sys2Proof.Machine.execNextItem queue client s
  | .dropRemainder queue client => Sys2Proof.Machine.execDropRemainder queue client s
  | .markRead queue client => Sys2Proof.Machine.execMarkRead queue client s
  | .rewind queue client => Sys2Proof.Machine.execRewind queue client s
  | .release queue client => Sys2Proof.Machine.execRelease queue client s
  | .quarterDrainTimeout quarter => Sys2Proof.Machine.execQuarterDrainTimeout quarter s
  | .quarterSubstitution quarter badCells => Sys2Proof.Machine.execQuarterSubstitution quarter badCells s
  | .edgeAssertion host source code data => Sys2Proof.Machine.execEdgeAssertion host source code data s
  | .levelChange host source level => Sys2Proof.Machine.execLevelChange host source level s
  | .recordMove => Sys2Proof.Machine.execRecordMove s
  | .eventEntryWrite ring => Sys2Proof.Machine.execEventEntryWrite ring s
  | .holdoffTimerExpiry vector => Sys2Proof.Machine.execHoldoffTimerExpiry vector s
  | .firmwareTick => Sys2Proof.Machine.execFirmwareTick s
  | .watchdog => Sys2Proof.Machine.execWatchdog s
  | .containEntry cause detail pair => Sys2Proof.Machine.execContainEntry cause detail pair s
  | .containExit => Sys2Proof.Machine.execContainExit s
  | .dumpCopyComplete ok => Sys2Proof.Machine.execDumpCopyComplete ok s
  | .segmentClose => Sys2Proof.Machine.execSegmentClose s
  | .segmentWrite => Sys2Proof.Machine.execSegmentWrite s
  | .manifestClose => Sys2Proof.Machine.execManifestClose s
  | .manifestWrite => Sys2Proof.Machine.execManifestWrite s
  | .encodeFrame stream => Sys2Proof.Machine.execEncodeFrame stream s
  | .creditTick => Sys2Proof.Machine.execCreditTick s
  | .ledgerCompare smartBytes percentUsed => Sys2Proof.Machine.execLedgerCompare smartBytes percentUsed s
  | .driveInserted drive => Sys2Proof.Machine.execDriveInserted drive s
  | .driveRateTestEnd kbs => Sys2Proof.Machine.execDriveRateTestEnd kbs s
  | .driveRemoved => Sys2Proof.Machine.execDriveRemoved s
  | .nvmeCommandTimeout id status => Sys2Proof.Machine.execNvmeCommandTimeout id status s
  | .canFrameReceived id data => Sys2Proof.Machine.execCanFrameReceived id data s
  | .vehicleStateTimeout => Sys2Proof.Machine.execVehicleStateTimeout s
  | .canTimeout => Sys2Proof.Machine.execCanTimeout s
  | .statusCanTx => Sys2Proof.Machine.execStatusCanTx s
  | .vinValid mv => Sys2Proof.Machine.execVinValid mv s
  | .vinLow mv => Sys2Proof.Machine.execVinLow mv s
  | .vinHigh mv => Sys2Proof.Machine.execVinHigh mv s
  | .vinRestored mv durationUs storeMj => Sys2Proof.Machine.execVinRestored mv durationUs storeMj s
  | .powerFailure => Sys2Proof.Machine.execPowerFailure s
  | .thermalSample base filtered junctions => Sys2Proof.Machine.execThermalSample base filtered junctions s
  | .thermalHoldEnd => Sys2Proof.Machine.execThermalHoldEnd s
  | .sprintBegin => Sys2Proof.Machine.execSprintBegin s
  | .sprintEnd cause => Sys2Proof.Machine.execSprintEnd cause s
  | .schedulerTick work => Sys2Proof.Machine.execSchedulerTick work s
  | .scrubPassStart => Sys2Proof.Machine.execScrubPassStart s
  | .heartbeatTimeout => Sys2Proof.Machine.execHeartbeatTimeout s
  | .sleepTimer => Sys2Proof.Machine.execSleepTimer s
  | .wakeSource cause => Sys2Proof.Machine.execWakeSource cause s
  | .bootRestart => Sys2Proof.Machine.execBootRestart s
  | .serviceReady => Sys2Proof.Machine.execServiceReady s
  | .gddr6CrcFail device retryOk => Sys2Proof.Machine.execGddr6CrcFail device retryOk s
  | .remirrorComplete => Sys2Proof.Machine.execRemirrorComplete s
  | .lockstepMismatch pair => Sys2Proof.Machine.execLockstepMismatch pair s
  | .phaseFault rail phase => Sys2Proof.Machine.execPhaseFault rail phase s
  | .selftestStep kind => Sys2Proof.Machine.execSelftestStep kind s
  | .selftestStepEnd kind pass => Sys2Proof.Machine.execSelftestStepEnd kind pass s
  | .faultOutConditionEnd => Sys2Proof.Machine.execFaultOutConditionEnd s
  | .towpathIdentify tag => Sys2Proof.Machine.execTowpathIdentify tag s
  | .towpathStatus tag => Sys2Proof.Machine.execTowpathStatus tag s
  | .towpathSummary tag => Sys2Proof.Machine.execTowpathSummary tag s
  | .towpathRead tag bytes => Sys2Proof.Machine.execTowpathRead tag bytes s
  | .cameraPhyLinkUp input => Sys2Proof.Machine.execCameraPhyLinkUp input s
  | .cameraPhyLinkLost input => Sys2Proof.Machine.execCameraPhyLinkLost input s
  | .lightEntries => Sys2Proof.Machine.execLightEntries s
  | .wakeOutRelease => Sys2Proof.Machine.execWakeOutRelease s
  | .challengeExpired => Sys2Proof.Machine.execChallengeExpired s
  | .towpathBadFrame crcOk cmd tag => Sys2Proof.Machine.execTowpathBadFrame crcOk cmd tag s
  | .tpCtsChange maySend => Sys2Proof.Machine.execTpCtsChange maySend s
  | .canBusError txErrors rxErrors => Sys2Proof.Machine.execCanBusError txErrors rxErrors s
  | .canBusOffRecovery => Sys2Proof.Machine.execCanBusOffRecovery s
  | .nvmeCommandComplete id status data => Sys2Proof.Machine.execNvmeCommandComplete id status data s
  | .dmaTransferComplete ring seq => Sys2Proof.Machine.execDmaTransferComplete ring seq s
  | .flashProgramComplete ok => Sys2Proof.Machine.execFlashProgramComplete ok s
  | .sealComputeComplete ring seq => Sys2Proof.Machine.execSealComputeComplete ring seq s
  | .signingComplete => Sys2Proof.Machine.execSigningComplete s
  | .bistComplete kind index pass => Sys2Proof.Machine.execBistComplete kind index pass s
  | .superblockUpdateTimer => Sys2Proof.Machine.execSuperblockUpdateTimer s
  | .vinHighEnd mv => Sys2Proof.Machine.execVinHighEnd mv s
  | .holdUpStoreCharged mj => Sys2Proof.Machine.execHoldUpStoreCharged mj s
  | .aphyRetransmitRequest link => Sys2Proof.Machine.execAphyRetransmitRequest link s
  | .gddr6SupplyFault device => Sys2Proof.Machine.execGddr6SupplyFault device s
  | .domainIdleTimeout domain => Sys2Proof.Machine.execDomainIdleTimeout domain s

end Sys2Proof.Machine
end

