-- ==== Sys2Proof/Safety.lean ====
section
/-! DEFINITION. What a state of the module must keep, in the terms that statements use: the canonical form of every sparse
memory, and values that only rise. -/
namespace Sys2Proof.Machine

open Sys2Proof

/-- Every sparse memory of the state is in canonical form, so that equal contents are equal data. -/
def State.memoriesWf (s : State) : Bool :=
  Memory.wf s.hostMem && Memory.wf s.mem.cells && sparseWf (0 : Word32) s.basin.cells && Memory.wf s.recording.disk

/-- Every register bank is as long as the manual makes it: 64 layer slots and pods, 8 pipes, 12 links, 10 cameras, 2 engines,
16 check-value channels, 12 signing blocks, 16 rings, 256 host and 256 internal sources, 64 vectors, 32 event rings, 256 queues,
8 logical lanes, 16 recording streams (R127, R60, R416, R379). -/
def State.banksWhole (s : State) : Bool :=
  decide ([s.layers.length, s.pods.length, s.pipes.length, s.links.length, s.cams.length, s.engines.length, s.cv.length, s.sign.length] =
    [64, 64, 8, 12, 10, 2, 16, 12]) &&
  decide ([s.host.rings.length, s.events.host.length, s.events.internal.length, s.events.vectors.length, s.events.rings.length,
    s.pound.queues.length, s.lanes.map.length, s.recording.streams.length] = [16, 256, 256, 64, 32, 256, 8, 16])

/-- A fence of the second state, if it stands in the first too, has not fallen (R83). -/
def State.fencesRise (s t : State) : Prop :=
  ∀ f v w, s.fence f = some v → t.fence f = some w → v ≤ w

end Sys2Proof.Machine
end

