-- ==== Sys2Proof/Certificates/Slice0/Obligations.lean ====
section
/-! DEFINITION. Statements about the model, for the provers. For each command one states where it completes and what state it
goes on to; the others are rules of the manual about the shared operations, frames, and what every step keeps. A statement
that names a check says so in terms of the model's own check function, a function of the barge and the state. -/
open Sys2Proof Sys2Proof.Machine

/-- A step runs the command at the front of the queue on the rest of the queue (R70). -/
def Obligations.StepRunsFront : Prop :=
  (∀ (s : State) (c : Instr) (rest : List Instr), step { s with pending := c :: rest } = exec c { s with pending := rest })

/-- A step on an empty queue idles: out of OFF, module time goes on by 40 ns (log 4) (R36). -/
def Obligations.StepIdle : Prop :=
  (∀ s : State, s.pending = [] → s.mode.base = .off → step s = .next s) ∧
  (∀ s : State, s.pending = [] → s.mode.base ≠ .off → step s = .next (syncLevels (proceed { s with time := s.time + 40 })))

/-- No command faults and none is refused: exec answers a next state for every command and state (R53, R77, R92). -/
def Obligations.EveryCommandAnswers : Prop :=
  (∀ (c : Instr) (s : State), ∃ t, exec c s = .next t)

/-- The state after reset: OFF, no command waiting, every bank as long as the manual makes it, memories in canonical form, every fence absent (R59, R60, R82, R419, R379). -/
def Obligations.ResetState : Prop :=
  (State.reset.banksWhole = true) ∧
  (State.reset.memoriesWf = true) ∧
  (State.reset.mode.base = .off) ∧
  (State.reset.pending = []) ∧
  (∀ f : Nat, State.reset.fence f = none) ∧
  ((State.reset.ring 0).state = .absent) ∧
  ((State.reset.events.host.any (·.enabled)) = false) ∧
  ((State.reset.pound.queues.all fun q => decide (q.state = .absent)) = true)

/-- What NOP, IDENTIFY, STATUS_REPORT, the ring opcodes, the fence opcodes and HEARTBEAT_SET answer when their checks pass (R85, R529, R532, R86, R87, R88, R89, R530). -/
def Obligations.RingAndFenceBarges : Prop :=
  (∀ (b : Barge) (s : State), nopCheck b s = none → exec (.nop b) s = .next (complete b .ok s)) ∧
  (∀ (b : Barge) (s : State), identifyCheck b s = none → exec (.identify b) s = .next (complete b ({ report := some (identifyBody s) } : Reply) s)) ∧
  (∀ (b : Barge) (s : State), statusReportCheck b s = none → exec (.statusReport b) s = .next (complete b ({ report := some (statusBody s) } : Reply) s)) ∧
  (∀ (b : Barge) (s : State), ringCreateCheck b s = none → exec (.ringCreate b) s = .next (complete b .ok (createPayloadQueue (b.pay 0 1) (s.mapRing (b.pay 0 1) fun _ => createdRing b)))) ∧
  (∀ (b : Barge) (s : State), ringDeleteCheck b s = none → exec (.ringDelete b) s = .next (complete b .ok (deleteQueue (b.pay 0 1) (s.mapRing (b.pay 0 1) fun _ => {})))) ∧
  (∀ (b : Barge) (s : State), fenceCreateCheck b s = none → exec (.fenceCreate b) s = .next (complete b .ok (s.mapHost fun h => { h with fences := h.fences.set (b.pay 0 2) (some (BitVec.ofNat 64 (b.pay 8 8))) }))) ∧
  (∀ (b : Barge) (s : State), fenceDestroyCheck b s = none → exec (.fenceDestroy b) s = .next (complete b .ok ((List.range 16).foldl (fun t n => destroyWait (b.pay 0 2) n t) (s.mapHost fun h => { h with fences := h.fences.set (b.pay 0 2) none })))) ∧
  (∀ (b : Barge) (s : State), heartbeatSetCheck b s = none → exec (.heartbeatSet b) s = .next (syncLevels (complete b (.ok s.mode.hbTimeout) (heartbeat (s.mapMode fun m => { m with hbTimeout := b.pay 0 4 })))))

/-- Mode requests when their checks pass: SLEEP begins KEEPALIVE entry, a challenge is made or repeated, a depot ticket is judged, leaving DEPOT returns to SERVICE (R531, R514). -/
def Obligations.ModeBarges : Prop :=
  (∀ (b : Barge) (s : State), sleepCheck b s = none → exec (.sleep b) s = .next (syncLevels (startSleep (some b) (markCommitted b s)))) ∧
  (∀ (b : Barge) (s : State) (c : List Byte × Nat), depotChallengeCheck b s = none → openChallenge s = some c → exec (.depotChallenge b) s = .next (complete b ({ report := some (c.1 ++ leBytes 8 c.2 ++ leBytes 8 0) } : Reply) (s.mapMode fun m => { m with challenge := some c }))) ∧
  (∀ (b : Barge) (s : State), depotChallengeCheck b s = none → openChallenge s = none → exec (.depotChallenge b) s = .next (complete b ({ report := some ((List.range 32).map (Config.randomByte s.free) ++ leBytes 8 (s.time + 300000000000) ++ leBytes 8 0) } : Reply) (s.takeFree.mapMode fun m => { m with challenge := some ((List.range 32).map (Config.randomByte s.free), s.time + 300000000000) }))) ∧
  (∀ (b : Barge) (s : State), depotEnterCheck b s = none → s.mode.base = .depot → exec (.depotEnter b) s = .next (syncLevels (complete b .ok s))) ∧
  (∀ (b : Barge) (s : State), depotEnterCheck b s = none → s.mode.base ≠ .depot → exec (.depotEnter b) s = .next (syncLevels (match readObject (b.pay 8 8) (ticketLength (b.pay 8 8) s) s with
        | (none, t) => complete b (.err stInternal t.faults.nextIndex) (internalRecord b t)
        | (some o, t) =>
          match firstFail [verifyObject t 3 (ticketLength (b.pay 8 8) s) o, ticketGood t o] with
          | some r => complete b r t
          | none => setBase .depot 4 (complete b .ok (t.mapMode fun m => { m with challenge := none, depotEntries := inc32 m.depotEntries }))))) ∧
  (∀ (b : Barge) (s : State), depotExitCheck b s = none → s.mode.base = .depot → exec (.depotExit b) s = .next (syncLevels (complete b .ok (setBase .service 5 (leaveDepot s))))) ∧
  (∀ (b : Barge) (s : State), depotExitCheck b s = none → s.mode.base ≠ .depot → exec (.depotExit b) s = .next (syncLevels (complete b .ok s)))

/-- What the device-memory and surface opcodes answer when their checks pass: the region, the surface or the transfer that the manual gives (R120, R121, R122, R123, R124, R125, R126). -/
def Obligations.MemoryBarges : Prop :=
  (∀ (b : Barge) (s : State) (r : Region) (t : State), memAllocCheck b s = none → placeRegion (allocGranules b) (bit (b.pay 8 1) 0) .host s = some (r, t) → exec (.memAlloc b) s = .next (complete b (.ok (r.base * 61440)) t)) ∧
  (∀ (b : Barge) (s : State), memFreeCheck b s = none → exec (.memFree b) s = .next (syncLevels (complete b .ok (freeRegion (b.pay 0 8 / 61440) s)))) ∧
  (∀ (b : Barge) (s : State), surfaceRegisterCheck b s = none → exec (.surfaceRegister b) s = .next (surfaceRegisterApply b s)) ∧
  (∀ (b : Barge) (s : State), surfaceFreeCheck b s = none → exec (.surfaceFree b) s = .next (complete b .ok (s.mapSurface (b.pay 0 2) fun x => { index := x.index, gen := (x.gen + 1) % 2 ^ 32 }))) ∧
  (∀ (b : Barge) (s : State), dmaUploadCheck b s = none → exec (.dmaUpload b) s = .next (refreshSurfaces { s with dmas := s.dmas ++ [{ barge := b, upload := true }] })) ∧
  (∀ (b : Barge) (s : State), dmaDownloadCheck b s = none → exec (.dmaDownload b) s = .next (refreshSurfaces { s with dmas := s.dmas ++ [{ barge := b, upload := false }] })) ∧
  (∀ (b : Barge) (s : State), surfaceSealCheck b s = none → exec (.surfaceSeal b) s = .next ({ s with seals := s.seals ++ [{ barge := b, index := b.pay 0 2 }] })) ∧
  (∀ (b : Barge) (s : State), surfaceUnsealCheck b s = none → exec (.surfaceUnseal b) s = .next (complete b .ok (s.mapSurface (b.pay 0 2) fun x => { x with sealed := false, sealBroken := false, sealWords := [], sealStoreBad := [], failedTiles := [] }))) ∧
  (∀ (b : Barge) (s : State), surfaceQueryCheck b s = none → exec (.surfaceQuery b) s = .next (complete b ({ report := some (match s.surface (b.pay 0 8) with | some x => surfaceBody s x | none => summaryBody s) } : Reply) s))

/-- What the layer, pod and commit opcodes answer when their checks pass: an admitted slot, a pending change, a pod, a taken commit, a declared damage (R154, R155, R156, R157, R158, R131, R160, R161, R132). -/
def Obligations.LayerBarges : Prop :=
  (∀ (b : Barge) (s : State), layerAssignCheck b s = none → (runAdmission s (assignRequest b s)).1 = none → exec (.layerAssign b) s = .next (complete b ({ report := some ((runAdmission s (assignRequest b s)).2) } : Reply) (assignRequest b s).new)) ∧
  (∀ (b : Barge) (s : State), layerReleaseCheck b s = none → exec (.layerRelease b) s = .next (complete b .ok (s.mapLayer (b.pay 0 1) fun l => if l.state = .assigned then { l with state := .releasePending } else l))) ∧
  (∀ (b : Barge) (s : State), layerSetCheck b s = none → exec (.layerSet b) s = .next (complete b .ok (refreshSurfaces (s.mapLayer (b.pay 0 1) fun l =>
        { l with
          shadow := mergeGroups b l.shadow, pending := l.pending ||| changeOf b
          acquire := if bit (changeOf b) 9 then some (b.pay 0x2C 2, BitVec.ofNat 64 (b.pay 0x30 8)) else l.acquire })))) ∧
  (∀ (b : Barge) (s : State), podDefineCheck b s = none → exec (.podDefine b) s = .next (complete b .ok (s.mapPod (b.pay 0 1) fun _ => { live := true, pipe := b.pay 1 1, atomic := b.pay 2 1 == 0, members := podMembers b }))) ∧
  (∀ (b : Barge) (s : State), podDeleteCheck b s = none → exec (.podDelete b) s = .next (complete b .ok (s.mapPod (b.pay 0 1) fun _ => {}))) ∧
  (∀ (b : Barge) (s : State), commitCheck b s = none → (((takeCommit b s).2).pipe (b.pay 0 1)).state = .configured → exec (.commit b) s = .next (finishCommit (b.pay 0 1) (takeCommit b s).1 (lockCommit (b.pay 0 1) (some (takeCommit b s).1) (takeCommit b s).2).1 (lockCommit (b.pay 0 1) (some (takeCommit b s).1) (takeCommit b s).2).2)) ∧
  (∀ (b : Barge) (s : State), commitCheck b s = none → ((takeCommit b s).2.pipe (b.pay 0 1)).state ≠ .configured → (takeCommit b s).1.groups = [] → (takeCommit b s).1.releases = [] → exec (.commit b) s = .next ((takeCommit b s).2.mapPipe (b.pay 0 1) fun x => { x with atLock := x.atLock ++ [.emptyCommit b] })) ∧
  (∀ (b : Barge) (s : State), commitCheck b s = none → ((takeCommit b s).2.pipe (b.pay 0 1)).state ≠ .configured → (takeCommit b s).1.groups ≠ [] ∨ (takeCommit b s).1.releases ≠ [] → ((takeCommit b s).2.pipe (b.pay 0 1)).shadow = none → exec (.commit b) s = .next ((takeCommit b s).2.mapPipe (b.pay 0 1) fun x => { x with shadow := some (takeCommit b s).1 })) ∧
  (∀ (b : Barge) (s : State), commitCheck b s = none → ((takeCommit b s).2.pipe (b.pay 0 1)).state ≠ .configured → (takeCommit b s).1.groups ≠ [] ∨ (takeCommit b s).1.releases ≠ [] → ((takeCommit b s).2.pipe (b.pay 0 1)).shadow ≠ none → exec (.commit b) s = .next ((takeCommit b s).2.mapPipe (b.pay 0 1) fun x => { x with waiting := x.waiting ++ [(takeCommit b s).1] })) ∧
  (∀ (b : Barge) (s : State), damageDeclareCheck b s = none → (s.pipe (b.pay 0 1)).state = .running → exec (.damageDeclare b) s = .next (s.mapPipe (b.pay 0 1) fun p => { p with atLock := p.atLock ++ [.damage b] })) ∧
  (∀ (b : Barge) (s : State), damageDeclareCheck b s = none → (s.pipe (b.pay 0 1)).state ≠ .running → exec (.damageDeclare b) s = .next (complete b .ok s)) ∧
  (∀ (b : Barge) (s : State), layerQueryCheck b s = none → exec (.layerQuery b) s = .next (complete b ({ report := some (layerBody s (b.pay 0 1)) } : Reply) s)) ∧
  (∀ (p : Nat) (c : Commit) (s : State), (s.pipe p).shadow = some c → c.complete = false → s.mode.contain = false → exec (.shadowBankComplete p) s = .next (markCommitted c.barge (s.mapPipe p fun x => { x with shadow := some { c with complete := true, completeTime := s.time } })))

/-- What the pipe, towing, link and write-back opcodes answer when their checks (and admission, where they have one) pass (R267, R249, R247, R248, R250, R270, R271, R272, R273). -/
def Obligations.PipeBarges : Prop :=
  (∀ (b : Barge) (s : State) (o : OutStage) (t u : State), pipeConfigCheck b s = none → readOstage b (cfgOf b 0).ostage s = (.inl o, t) → fitWbRing (b.pay 0 1) (cfgOf b 0) (setConfig (b.pay 0 1) (cfgOf b 0) o t) = .inl u → (runAdmission t { rest := t.mapPipe (b.pay 0 1) fun _ => {}, new := u, pipe := some (b.pay 0 1) }).1 = none → exec (.pipeConfig b) s = .next (syncLevels (complete b ({ report := some ((runAdmission t { rest := t.mapPipe (b.pay 0 1) fun _ => {}, new := u, pipe := some (b.pay 0 1) }).2) } : Reply) (readmitIf u)))) ∧
  (∀ (b : Barge) (s : State), pipeRemoveCheck b s = none → (s.pipe (b.pay 0 1)).state = .unconfigured → exec (.pipeRemove b) s = .next (syncLevels (complete b .ok s))) ∧
  (∀ (b : Barge) (s : State), pipeRemoveCheck b s = none → (s.pipe (b.pay 0 1)).state ≠ .unconfigured → exec (.pipeRemove b) s = .next (syncLevels (complete b .ok (readmitIf (s.mapPipe (b.pay 0 1) fun _ => {}))))) ∧
  (∀ (b : Barge) (s : State), pipeEnableCheck b s = none → (s.pipe (b.pay 0 1)).state = .configured → exec (.pipeEnable b) s = .next (syncLevels (startPipe b (b.pay 0 1) s))) ∧
  (∀ (b : Barge) (s : State), pipeEnableCheck b s = none → (s.pipe (b.pay 0 1)).state ≠ .configured → exec (.pipeEnable b) s = .next (syncLevels (complete b .ok s))) ∧
  (∀ (b : Barge) (s : State), pipeDisableCheck b s = none → (s.pipe (b.pay 0 1)).state = .running → exec (.pipeDisable b) s = .next (syncLevels (markCommitted b (s.mapPipe (b.pay 0 1) fun x => { x with disables := x.disables ++ [b] })))) ∧
  (∀ (b : Barge) (s : State), pipeDisableCheck b s = none → (s.pipe (b.pay 0 1)).state ≠ .running → exec (.pipeDisable b) s = .next (syncLevels (complete b .ok s))) ∧
  (∀ (b : Barge) (s : State), timingChangeCheck b s = none → cfgOf b 8 = (s.pipe (b.pay 0 1)).current → exec (.timingChange b) s = .next (syncLevels (s.mapPipe (b.pay 0 1) fun y => { y with atLock := y.atLock ++ [.sameTiming b] }))) ∧
  (∀ (b : Barge) (s : State), timingChangeCheck b s = none → cfgOf b 8 ≠ (s.pipe (b.pay 0 1)).current → (cfgOf b 8).ostage = (s.pipe (b.pay 0 1)).current.ostage → exec (.timingChange b) s = .next (syncLevels (startTiming b (b.pay 0 1) (cfgOf b 8) (s.pipe (b.pay 0 1)).ostage s))) ∧
  (∀ (b : Barge) (s : State), towSetCheck b s = none → (s.pipe (b.pay 0 1)).state = .configured → (runAdmission s { rest := withoutTow (b.pay 0 1) s, new := applyTow (b.pay 0 1) (towOf b) s, pipe := some (b.pay 0 1) }).1 = none → exec (.towSet b) s = .next (syncLevels (complete b ({ report := some ((runAdmission s { rest := withoutTow (b.pay 0 1) s, new := applyTow (b.pay 0 1) (towOf b) s, pipe := some (b.pay 0 1) }).2) } : Reply) (readmitIf (applyTow (b.pay 0 1) (towOf b) s))))) ∧
  (∀ (b : Barge) (s : State), linkStatusCheck b s = none → exec (.linkStatus b) s = .next (complete b ({ report := some (linkStatusBody s (b.pay 0 1)) } : Reply) s)) ∧
  (∀ (b : Barge) (s : State), edidReadCheck b s = none → exec (.edidRead b) s = .next (queueAux (b.pay 0 1) { barge := some b, space := b.pay 1 1, addr := b.pay 4 4, left := b.pay 2 2 } s)) ∧
  (∀ (b : Barge) (s : State), writebackSetCheck b s = none → (s.pipe (b.pay 0 1)).state = .configured → (wbOf b).enable = false → (runAdmission s { rest := withoutTap (b.pay 0 1) s, new := applyWriteback (b.pay 0 1) ((if (wbOf b).dest = 0 then { wbOf b with slots := wbSlots ((s.pipe (b.pay 0 1)).admitted.getD (s.pipe (b.pay 0 1)).cfg) (b.pay 3 1) } else wbOf b)) s }).1 = none → exec (.writebackSet b) s = .next (syncLevels (complete b ({ report := some ((runAdmission s { rest := withoutTap (b.pay 0 1) s, new := applyWriteback (b.pay 0 1) ((if (wbOf b).dest = 0 then { wbOf b with slots := wbSlots ((s.pipe (b.pay 0 1)).admitted.getD (s.pipe (b.pay 0 1)).cfg) (b.pay 3 1) } else wbOf b)) s }).2) } : Reply) (readmitIf (applyWriteback (b.pay 0 1) ((if (wbOf b).dest = 0 then { wbOf b with slots := wbSlots ((s.pipe (b.pay 0 1)).admitted.getD (s.pipe (b.pay 0 1)).cfg) (b.pay 3 1) } else wbOf b)) s)))))

/-- What the camera and contract opcodes answer when their checks (and admission, where they have one) pass (R295, R296, R297, R298, R299, R300). -/
def Obligations.CameraBarges : Prop :=
  (∀ (b : Barge) (s : State), cameraDeclareCheck b s = none → (runAdmission s { rest := undeclared (b.pay 0 1) s, new := (declared (b.pay 0 1) (camDeclOf b) s).1, memFail := (declared (b.pay 0 1) (camDeclOf b) s).2 }).1 = none → exec (.cameraDeclare b) s = .next (syncLevels (complete b ({ report := some ((runAdmission s { rest := undeclared (b.pay 0 1) s, new := (declared (b.pay 0 1) (camDeclOf b) s).1, memFail := (declared (b.pay 0 1) (camDeclOf b) s).2 }).2) } : Reply) (readmitIf (declared (b.pay 0 1) (camDeclOf b) s).1)))) ∧
  (∀ (b : Barge) (s : State), cameraRemoveCheck b s = none → (s.cam (b.pay 0 1)).state = .undeclared → exec (.cameraRemove b) s = .next (syncLevels (complete b .ok s))) ∧
  (∀ (b : Barge) (s : State), cameraRemoveCheck b s = none → (s.cam (b.pay 0 1)).state ≠ .undeclared → exec (.cameraRemove b) s = .next (syncLevels (complete b .ok (readmitIf (refreshSurfaces (undeclared (b.pay 0 1) s)))))) ∧
  (∀ (b : Barge) (s : State), cameraStartCheck b s = none → (s.cam (b.pay 0 1)).state = .declared → exec (.cameraStart b) s = .next (syncLevels (markCommitted b (s.mapCam (b.pay 0 1) fun m =>
        { m with
          state := .waiting, anyComplete := false, consec := 0, runDrops := List.replicate 11 0, fsTimes := [], missing := 0
          open_ := none, starts := m.starts ++ [b] })))) ∧
  (∀ (b : Barge) (s : State), cameraStartCheck b s = none → (s.cam (b.pay 0 1)).state ≠ .declared → exec (.cameraStart b) s = .next (syncLevels (complete b .ok s))) ∧
  (∀ (b : Barge) (s : State), cameraStopCheck b s = none → (s.cam (b.pay 0 1)).receiving = true → exec (.cameraStop b) s = .next (syncLevels (markCommitted b (s.mapCam (b.pay 0 1) fun m => { m with stops := m.stops ++ [b] })))) ∧
  (∀ (b : Barge) (s : State), cameraStopCheck b s = none → (s.cam (b.pay 0 1)).receiving = false → exec (.cameraStop b) s = .next (syncLevels (complete b .ok s))) ∧
  (∀ (b : Barge) (s : State), cameraRingSetCheck b s = none → (runAdmission s { rest := undeclared (b.pay 0 1) s, new := (ringSet b s).1, memFail := (ringSet b s).2 }).1 = none → exec (.cameraRingSet b) s = .next (syncLevels (complete b ({ report := some ((runAdmission s { rest := undeclared (b.pay 0 1) s, new := (ringSet b s).1, memFail := (ringSet b s).2 }).2) } : Reply) (readmitIf (ringSet b s).1)))) ∧
  (∀ (b : Barge) (s : State), cameraStatusCheck b s = none → exec (.cameraStatus b) s = .next (complete b ({ report := some (cameraStatusBody s (b.pay 0 1)) } : Reply) s)) ∧
  (∀ (b : Barge) (s : State), latencyContractSetCheck b s = none → (contractOf b).cls = 0 → ((heldContracts s).any fun d => d.pipe == (contractOf b).pipe && d.slot == (contractOf b).slot) = false → exec (.latencyContractSet b) s = .next (syncLevels (complete b .ok s))) ∧
  (∀ (b : Barge) (s : State), latencyContractSetCheck b s = none → (contractOf b).cls ≠ 0 → (s.pipe (contractOf b).pipe).state = .configured → (runAdmission s { rest := withoutContract (contractOf b) s, new := setContract (contractOf b) s, pipe := some (contractOf b).pipe }).1 = none → exec (.latencyContractSet b) s = .next (syncLevels (complete b ({ report := some ((runAdmission s { rest := withoutContract (contractOf b) s, new := setContract (contractOf b) s, pipe := some (contractOf b).pipe }).2) } : Reply) (readmitIf (setContract (contractOf b) s)))))

/-- Each 2D job opcode queues its job on an engine when its checks pass; a reservation is admitted or removed (R333, R334, R335, R337, R338, R339, R357, R348, R356). -/
def Obligations.TwoDBarges : Prop :=
  (∀ (b : Barge) (s : State), bltCopyCheck b s = none → (engineOut s 0 && engineOut s 1) = false → exec (.bltCopy b) s = .next (refreshSurfaces ((s.mapEngine (jobEngine b s) fun x =>
        { x with queue := x.queue ++ [{ barge := b, ops := [TwoDOp.ofBarge b], batch := false }] }).mapPower fun p =>
          { p with idleOff := p.idleOff.filter (· != 57 + jobEngine b s) }))) ∧
  (∀ (b : Barge) (s : State), bltFillCheck b s = none → (engineOut s 0 && engineOut s 1) = false → exec (.bltFill b) s = .next (refreshSurfaces ((s.mapEngine (jobEngine b s) fun x =>
        { x with queue := x.queue ++ [{ barge := b, ops := [TwoDOp.ofBarge b], batch := false }] }).mapPower fun p =>
          { p with idleOff := p.idleOff.filter (· != 57 + jobEngine b s) }))) ∧
  (∀ (b : Barge) (s : State), bltRop3Check b s = none → (engineOut s 0 && engineOut s 1) = false → exec (.bltRop3 b) s = .next (refreshSurfaces ((s.mapEngine (jobEngine b s) fun x =>
        { x with queue := x.queue ++ [{ barge := b, ops := [TwoDOp.ofBarge b], batch := false }] }).mapPower fun p =>
          { p with idleOff := p.idleOff.filter (· != 57 + jobEngine b s) }))) ∧
  (∀ (b : Barge) (s : State), bltMonoExpandCheck b s = none → (engineOut s 0 && engineOut s 1) = false → exec (.bltMonoExpand b) s = .next (refreshSurfaces ((s.mapEngine (jobEngine b s) fun x =>
        { x with queue := x.queue ++ [{ barge := b, ops := [TwoDOp.ofBarge b], batch := false }] }).mapPower fun p =>
          { p with idleOff := p.idleOff.filter (· != 57 + jobEngine b s) }))) ∧
  (∀ (b : Barge) (s : State), bltAlphaCheck b s = none → (engineOut s 0 && engineOut s 1) = false → exec (.bltAlpha b) s = .next (refreshSurfaces ((s.mapEngine (jobEngine b s) fun x =>
        { x with queue := x.queue ++ [{ barge := b, ops := [TwoDOp.ofBarge b], batch := false }] }).mapPower fun p =>
          { p with idleOff := p.idleOff.filter (· != 57 + jobEngine b s) }))) ∧
  (∀ (b : Barge) (s : State), bltConvertCheck b s = none → (engineOut s 0 && engineOut s 1) = false → exec (.bltConvert b) s = .next (refreshSurfaces ((s.mapEngine (jobEngine b s) fun x =>
        { x with queue := x.queue ++ [{ barge := b, ops := [TwoDOp.ofBarge b], batch := false }] }).mapPower fun p =>
          { p with idleOff := p.idleOff.filter (· != 57 + jobEngine b s) }))) ∧
  (∀ (b : Barge) (s : State), bltBatchCheck b s = none → exec (.bltBatch b) s = .next (bltBatchApply b s)) ∧
  (∀ (b : Barge) (s : State), twoDReserveCheck b s = none → b.pay 8 4 ≠ 0 → (runAdmission s { rest := s.mapEngine (b.pay 0 1) Engine.unreserved, new := (accrueEngine (b.pay 0 1) s).mapEngine (b.pay 0 1) fun x =>
            { x with rate := b.pay 8 4, burst := 64 * 2 ^ b.pay 1 1 } }).1 = none → exec (.twoDReserve b) s = .next (syncLevels (complete b ({ report := some ((runAdmission s { rest := s.mapEngine (b.pay 0 1) Engine.unreserved, new := (accrueEngine (b.pay 0 1) s).mapEngine (b.pay 0 1) fun x =>
            { x with rate := b.pay 8 4, burst := 64 * 2 ^ b.pay 1 1 } }).2) } : Reply)
        (readmitIf ((accrueEngine (b.pay 0 1) s).mapEngine (b.pay 0 1) fun x => { x with rate := b.pay 8 4, burst := 64 * 2 ^ b.pay 1 1 }))))) ∧
  (∀ (b : Barge) (s : State), twoDReserveRemoveCheck b s = none → (s.engine (b.pay 0 1)).jobs = [] → exec (.twoDReserveRemove b) s = .next (syncLevels (complete b .ok (readmitIf (s.mapEngine (b.pay 0 1) Engine.unreserved))))) ∧
  (∀ (b : Barge) (s : State), twoDReserveRemoveCheck b s = none → (s.engine (b.pay 0 1)).jobs ≠ [] → exec (.twoDReserveRemove b) s = .next (syncLevels (s.mapEngine (b.pay 0 1) fun x => { x with removals := x.removals ++ [(b, (s.engine (b.pay 0 1)).jobs.length)] })))

/-- Check-value opcodes: a channel opcode joins its channel's order; a privileged save acts at once; a reservation is admitted; a signing setting waits for its link (R410, R411, R412, R413, R414, R415). -/
def Obligations.CvBarges : Prop :=
  (∀ (b : Barge) (s : State), cvConfigCheck b s = none → (s.chan (b.pay 0 1)).failed = false → exec (.cvConfig b) s = .next (syncLevels (runOrder (b.pay 0 1) (orderFuel (s.mapChan (b.pay 0 1) fun x => { x with order := x.order ++ [{ barge := b }] }) (b.pay 0 1)) (s.mapChan (b.pay 0 1) fun x => { x with order := x.order ++ [{ barge := b }] })))) ∧
  (∀ (b : Barge) (s : State), cvDmaCheck b s = none → (s.chan (b.pay 0 1)).failed = false → exec (.cvDma b) s = .next (syncLevels (runOrder (b.pay 0 1) (orderFuel (s.mapChan (b.pay 0 1) fun x => { x with order := x.order ++ [{ barge := b }] }) (b.pay 0 1)) (s.mapChan (b.pay 0 1) fun x => { x with order := x.order ++ [{ barge := b }] })))) ∧
  (∀ (b : Barge) (s : State), cvContextSaveCheck b s = none → (s.chan (b.pay 0 1)).failed = false → privilegedChannel s (b.pay 0 1) = false → exec (.cvContextSave b) s = .next (syncLevels (runOrder (b.pay 0 1) (orderFuel (s.mapChan (b.pay 0 1) fun x => { x with order := x.order ++ [{ barge := b }] }) (b.pay 0 1)) (s.mapChan (b.pay 0 1) fun x => { x with order := x.order ++ [{ barge := b }] })))) ∧
  (∀ (b : Barge) (s : State), cvContextSaveCheck b s = none → privilegedChannel s (b.pay 0 1) = true → exec (.cvContextSave b) s = .next (syncLevels (saveContext b s))) ∧
  (∀ (b : Barge) (s : State), cvContextLoadCheck b s = none → (s.chan (b.pay 0 1)).failed = false → exec (.cvContextLoad b) s = .next (syncLevels (runOrder (b.pay 0 1) (orderFuel (s.mapChan (b.pay 0 1) fun x => { x with order := x.order ++ [{ barge := b }] }) (b.pay 0 1)) (s.mapChan (b.pay 0 1) fun x => { x with order := x.order ++ [{ barge := b }] })))) ∧
  (∀ (b : Barge) (s : State), frameSignSetCheck b s = none → (bindProducer (signQueue b) (0x20 + 12 + b.pay 0 1 % 4) s).time = s.time → exec (.frameSignSet b) s = .next ((bindProducer (signQueue b) (0x20 + 12 + b.pay 0 1 % 4) s).mapSign (b.pay 0 1) fun x => { x with sets := x.sets ++ [{ barge := b, start := s.time }] })) ∧
  (∀ (b : Barge) (s : State), cvReserveRemoveCheck b s = none → (s.chan (b.pay 0 1)).failed = false → exec (.cvReserveRemove b) s = .next (syncLevels (runOrder (b.pay 0 1) (orderFuel (s.mapChan (b.pay 0 1) fun x => { x with order := x.order ++ [{ barge := b }] }) (b.pay 0 1)) (s.mapChan (b.pay 0 1) fun x => { x with order := x.order ++ [{ barge := b }] })))) ∧
  (∀ (b : Barge) (s : State), cvReserveCheck b s = none → b.pay 8 4 ≠ 0 → (s.chan (b.pay 0 1)).failed = false → exec (.cvReserve b) s = .next (syncLevels (match runAdmission s { rest := s.mapChan (b.pay 0 1) (fun x => { x with rate := 0 }), new := (s.mapChan (b.pay 0 1) fun x => { x with rate := b.pay 8 4, credit := accrueCredit x.rate 16384 x.credit x.creditTime s.time, creditTime := s.time }) } with
        | (some r, _) => complete b r s
        | (none, body) =>
          complete b ({ report := some body } : Reply) (readmitIf (if (s.chan (b.pay 0 1)).rate = 0 then
            createQueue (cvQueue (b.pay 0 1)) 0x02 (0x20 + b.pay 0 1) true 16 1 ((s.mapChan (b.pay 0 1) fun x => { x with rate := b.pay 8 4, credit := accrueCredit x.rate 16384 x.credit x.creditTime s.time, creditTime := s.time })) else (s.mapChan (b.pay 0 1) fun x => { x with rate := b.pay 8 4, credit := accrueCredit x.rate 16384 x.credit x.creditTime s.time, creditTime := s.time }))))))

/-- Recording opcodes when their checks pass: a stream waits for its first frame or is removed, a burst begins or ends, the status is reported (R467, R468, R469, R470). -/
def Obligations.RecordingBarges : Prop :=
  (∀ (b : Barge) (s : State), recStreamAddCheck b s = none → (runAdmission s { rest := s, new := (withStream b s).1, stream := b.pay 0 1, memFail := (withStream b s).2 }).1 = none → exec (.recStreamAdd b) s = .next (syncLevels (markCommitted b (noteReport b (runAdmission s { rest := s, new := (withStream b s).1, stream := b.pay 0 1, memFail := (withStream b s).2 }).2 (withStream b (closeSegment s)).1)))) ∧
  (∀ (b : Barge) (s : State), recStreamRemoveCheck b s = none → (s.stream (b.pay 0 1)).add = none → exec (.recStreamRemove b) s = .next (syncLevels (complete b .ok (readmitIf (withoutStream (b.pay 0 1) (closeSegment s)))))) ∧
  (∀ (b : Barge) (s : State), recBurstCheck b s = none → exec (.recBurst b) s = .next (recBurstApply b s)) ∧
  (∀ (b : Barge) (s : State), recBurstStopCheck b s = none → exec (.recBurstStop b) s = .next (complete b (.ok (creditMib s)) ((List.range 16).foldl (fun t k =>
        if inMask b k then t.mapStream k fun x => { x with burstEnd := none, stepped := false } else t) (leaveBursts b s)))) ∧
  (∀ (b : Barge) (s : State), recQueryCheck b s = none → exec (.recQuery b) s = .next (complete b ({ report := some (recBody s) } : Reply) s))

/-- Content-store and drive opcodes when their checks pass: the drive commands that they issue (R471, R472, R473, R460, R474). -/
def Obligations.StoreBarges : Prop :=
  (∀ (b : Barge) (s : State) (g : Nat × Nat), storeWriteCheck b s = none → ((freeStore s).find? fun x => decide (ceilDiv (b.pay 16 4) mib ≤ x.2)) = some g → exec (.storeWrite b) s = .next (issueWrite (.storeData b) (g.1 * mib) ((devRead 0x32 4 (b.pay 8 8) (b.pay 16 4) s).1.map fun o => o.getD (BitVec.ofNat 8 (Config.freeNat s.free))) false
        (devRead 0x32 4 (b.pay 8 8) (b.pay 16 4) s).2.2.takeFree)) ∧
  (∀ (b : Barge) (s : State) (p : Nat × Nat), storeReadCheck b s = none → readPlace s b = some p → exec (.storeRead b) s = .next (issue (.storeRead b) 2 p.1 (4096 * ceilDiv p.2 4096) [] false s)) ∧
  (∀ (b : Barge) (s : State) (e : StoreEntry), programmeLoadCheck b s = none → storeFind s (b.pay 0 4) = some e → exec (.programmeLoad b) s = .next (issue (.programmeRead b) 2 (e.first * mib) (4096 * ceilDiv e.length 4096) [] false s)) ∧
  (∀ (b : Barge) (s : State), programmeRemoveCheck b s = none → exec (.programmeRemove b) s = .next (syncLevels (complete b .ok (readmitIf ((freeAssets s).mapRec fun r => { r with programme := none }))))) ∧
  (∀ (b : Barge) (s : State), prepareRemoveCheck b s = none → exec (.prepareRemove b) s = .next (syncLevels (advanceClose ((closeSegment (endBursts s)).mapRec fun r => { r with removing := some b })))) ∧
  (∀ (b : Barge) (s : State), formatCheck b s = none → exec (.formatDrive b) s = .next (issue (.format b) 9 indexAddr mib [] false (((s.send (.nvme 1 0 4096 true)).send (.nvme 1 (mib / 4096) 4096 true)).send (.nvme 1 (indexAddr / 4096) mib false)))) ∧
  (∀ (b : Barge) (s : State), unprotectCheck b s = none → exec (.unprotect b) s = .next (unprotectApply b s))

/-- Queue opcodes of the pound when their checks pass (R381, R382, R383, R384, R385, R386). -/
def Obligations.PoundBarges : Prop :=
  (∀ (b : Barge) (s : State), qCreateCheck b s = none → b.pay 0 1 ≠ 0xFF → exec (.qCreate b) s = .next (complete b (.ok (b.pay 0 1)) (s.mapQueue (b.pay 0 1) fun _ =>
        { state := .created, notify := b.pay 1 1 % 4, maxItem := b.pay 2 2, quota := b.pay 4 2,
          weirHi := b.pay 8 2, weirLo := b.pay 10 2, hiEn := bit (b.pay 0x0C 1) 0, loEn := bit (b.pay 0x0C 1) 1 }))) ∧
  (∀ (b : Barge) (s : State) (q : Nat), qCreateCheck b s = none → b.pay 0 1 = 0xFF → freeHostQueue s = some q → exec (.qCreate b) s = .next (complete b (.ok q) (s.mapQueue q fun _ =>
        { state := .created, notify := b.pay 1 1 % 4, maxItem := b.pay 2 2, quota := b.pay 4 2,
          weirHi := b.pay 8 2, weirLo := b.pay 10 2, hiEn := bit (b.pay 0x0C 1) 0, loEn := bit (b.pay 0x0C 1) 1 }))) ∧
  (∀ (b : Barge) (s : State), qDeleteCheck b s = none → exec (.qDelete b) s = .next (complete b .ok (deleteQueue (b.pay 0 1) s))) ∧
  (∀ (b : Barge) (s : State), qQuotaSetCheck b s = none → exec (.qQuotaSet b) s = .next (complete b (.ok (s.queue (b.pay 0 1)).quota) (s.mapQueue (b.pay 0 1) fun x => { x with quota := b.pay 2 2 }))) ∧
  (∀ (b : Barge) (s : State), qWeirSetCheck b s = none → exec (.qWeirSet b) s = .next (qWeirSetApply b s)) ∧
  (∀ (b : Barge) (s : State), qFlushCheck b s = none → exec (.qFlush b) s = .next (complete b (.ok ((flushCounts (s.queue (b.pay 0 1))).1 + (flushCounts (s.queue (b.pay 0 1))).2.1 * 2 ^ 32 +
        b2n (flushCounts (s.queue (b.pay 0 1))).2.2.1 * 2 ^ 40 + (flushCounts (s.queue (b.pay 0 1))).2.2.2 * 2 ^ 48)) (qFlush (b.pay 0 1) s))) ∧
  (∀ (b : Barge) (s : State), qQueryCheck b s = none → exec (.qQuery b) s = .next (complete b ({ report := some (queueBlock (s.queue (b.pay 0 1)) ++ poolBlock s.pound) } : Reply) s))

/-- Event-ring, routing, moderation, source and power opcodes when their checks pass (R440, R441, R442, R443, R444, R496, R497, R498, R499). -/
def Obligations.EventAndPowerBarges : Prop :=
  (∀ (b : Barge) (s : State), eventRingCreateCheck b s = none → exec (.eventRingCreate b) s = .next (eventRingCreateApply b s)) ∧
  (∀ (b : Barge) (s : State), eventRingDeleteCheck b s = none → b.pay 0 1 < 16 → bit (b.pay 1 1) 0 = true → exec (.eventRingDelete b) s = .next (complete b (.ok (flushCounts (s.queue (s.evRing (b.pay 0 1)).queue)).1) (qFlush (s.evRing (b.pay 0 1)).queue (s.mapEvRing (b.pay 0 1) fun _ => {})))) ∧
  (∀ (b : Barge) (s : State), eventRingDeleteCheck b s = none → 16 ≤ b.pay 0 1 → exec (.eventRingDelete b) s = .next (complete b (.ok 0) (unbindConsumer (s.evRing (b.pay 0 1)).queue (s.mapEvRing (b.pay 0 1) fun _ => {})))) ∧
  (∀ (b : Barge) (s : State), eventRouteCheck b s = none → exec (.eventRoute b) s = .next (complete b .ok ((List.range (b.pay 0 2)).foldl (fun t r =>
        t.mapSource true (b.pay (routeOff r) 1) fun x =>
          { x with ring := b.pay (routeOff r + 1) 1, priority := b.pay (routeOff r + 2) 1 % 16, claimed := bit (b.pay (routeOff r + 3) 1) 0 }) s))) ∧
  (∀ (b : Barge) (s : State), moderationSetCheck b s = none → exec (.moderationSet b) s = .next (complete b .ok (s.mapVector (b.pay 0 1) fun x => { x with wake := bit (b.pay 1 1) 0, countMax := b.pay 2 1, delayUs := b.pay 4 2 }))) ∧
  (∀ (b : Barge) (s : State), eventMaskCheck b s = none → exec (.eventEnable b) s = .next (complete b .ok (s.mapEvents fun e =>
        { e with host := e.host.zipIdx.map fun x => if maskBit b x.2 then applyMask 0 (levelKind x.2) x.1 else x.1 }))) ∧
  (∀ (b : Barge) (s : State), eventMaskCheck b s = none → exec (.eventDisable b) s = .next (complete b .ok (s.mapEvents fun e =>
        { e with host := e.host.zipIdx.map fun x => if maskBit b x.2 then applyMask 1 (levelKind x.2) x.1 else x.1 }))) ∧
  (∀ (b : Barge) (s : State), eventMaskCheck b s = none → exec (.eventMaskSources b) s = .next (complete b .ok (s.mapEvents fun e =>
        { e with host := e.host.zipIdx.map fun x => if maskBit b x.2 then applyMask 2 (levelKind x.2) x.1 else x.1 }))) ∧
  (∀ (b : Barge) (s : State), eventMaskCheck b s = none → exec (.eventUnmask b) s = .next (complete b .ok (s.mapEvents fun e =>
        { e with host := e.host.zipIdx.map fun x => if maskBit b x.2 then applyMask 3 (levelKind x.2) x.1 else x.1 }))) ∧
  (∀ (b : Barge) (s : State), powerQueryCheck b s = none → exec (.powerQuery b) s = .next (complete b ({ report := some (powerBody s) } : Reply) s)) ∧
  (∀ (b : Barge) (s : State), baseplateDeclareCheck b s = none → exec (.baseplateDeclare b) s = .next (syncLevels (baseplateDeclareApply b s))) ∧
  (∀ (b : Barge) (s : State), sprintPolicyCheck b s = none → exec (.sprintPolicy b) s = .next (complete b .ok (s.mapPower fun p => { p with permit := b.pay 0 1, maxBand := b.pay 1 1 }))) ∧
  (∀ (b : Barge) (s : State), schedWeightsCheck b s = none → exec (.schedWeights b) s = .next (complete b .ok (s.mapPower fun p => { p with weights := [b.pay 0 1, b.pay 1 1, b.pay 2 1, b.pay 3 1] })))

/-- Trust opcodes when their checks pass; whether a signature holds is a free value, so that both outcomes are stated (R533, R537, R525, R534, R535, R536, R538). -/
def Obligations.TrustBarges : Prop :=
  (∀ (b : Barge) (s : State), patchLoadCheck b s = none → exec (.patchLoad b) s = .next (match readObject (b.pay 0 8) (b.pay 8 4) s with
        | (none, t) => complete b (.err stInternal t.faults.nextIndex) (internalRecord b t)
        | (some o, t) =>
          match firstFail [verifyObject t 1 (b.pay 8 4) o, failIf (decide (524288 < objNum o 0x14 4)) (freeReply stBadField t)] with
          | some r => complete b r t
          | none => programSlot b false o t)) ∧
  (∀ (b : Barge) (s : State), configImageStoreCheck b s = none → exec (.configImageStore b) s = .next (match readObject (b.pay 0 8) (b.pay 8 4) s with
        | (none, t) => complete b (.err stInternal t.faults.nextIndex) (internalRecord b t)
        | (some o, t) =>
          match firstFail [verifyObject t 2 (b.pay 8 4) o, failIf (!imageGood (objBody o)) (freeReply stBadField t)] with
          | some r => complete b r t
          | none => programSlot b true o t)) ∧
  (∀ (b : Barge) (s : State), patchActivateCheck b s = none → (s.trust.patches.getD (b.pay 0 1) {}).state = .active → exec (.patchActivate b) s = .next (complete b .ok s)) ∧
  (∀ (b : Barge) (s : State), patchActivateCheck b s = none → (s.trust.patches.getD (b.pay 0 1) {}).state = .loaded → exec (.patchActivate b) s = .next (patchActivateApply b s)) ∧
  (∀ (b : Barge) (s : State), patchDeactivateCheck b s = none → exec (.patchDeactivate b) s = .next (complete b .ok (s.mapTrust fun t =>
        { t with patch := none, patchSlot := 0, patchTime := none, patchBefore := none, patches := t.patches.map (·.demote) }))) ∧
  (∀ (b : Barge) (s : State), attestCheck b s = none → exec (.attest b) s = .next (s.mapTrust fun t => { t with signing := t.signing ++ [.attest b (attestBody 2 (leBytes 32 (b.pay 0 32)) s)] })) ∧
  (∀ (b : Barge) (s : State), keyRevokeCheck b s = none → exec (.keyRevoke b) s = .next (keyRevokeApply b s)) ∧
  (∀ (b : Barge) (s : State), rollbackAdvanceCheck b s = none → exec (.rollbackAdvance b) s = .next (complete b (.ok (max (fusedLevel s (b.pay 0 1)) (min 63 (objLevel ((activeObject s (b.pay 0 1)).getD [])))))
        (s.mapTrust fun t =>
          if b.pay 0 1 = 1 then { t with patchFuse := max (fusedLevel s 1) (min 63 (objLevel ((activeObject s 1).getD []))) }
          else { t with configFuse := max (fusedLevel s (b.pay 0 1)) (min 63 (objLevel ((activeObject s (b.pay 0 1)).getD []))) })))

/-- Self-test, dump and injection opcodes when their checks pass (R571, R572, R573, R574, R575). -/
def Obligations.FaultBarges : Prop :=
  (∀ (b : Barge) (s : State), bistRunCheck b s = none → exec (.bistRun b) s = .next (syncLevels (bistRunApply b s))) ∧
  (∀ (b : Barge) (s : State), selftestPolicyCheck b s = none → bit (b.pay 12 1) 0 = false → exec (.selftestPolicy b) s = .next (syncLevels (complete b .ok (s.mapFaults fun f => { f with periods := [b.pay 0 2, b.pay 2 2, b.pay 4 2, b.pay 6 2, b.pay 8 2], foMask := b.pay 10 1 })))) ∧
  (∀ (b : Barge) (s : State), dumpReadCheck b s = none → exec (.dumpRead b) s = .next (complete b (.ok (sourceBytes s (b.pay 0 1) (b.pay 8 8) (b.pay 4 4)).length) (devWrite (b.pay 16 8) (sourceBytes s (b.pay 0 1) (b.pay 8 8) (b.pay 4 4)) s))) ∧
  (∀ (b : Barge) (s : State), dumpClearCheck b s = none → bit (b.pay 0 1) 0 = true → bit (b.pay 0 1) 1 = false → exec (.dumpClear b) s = .next (syncLevels (complete b .ok (s.mapFaults fun f => { f with dumps := [none, none], log := [] })))) ∧
  (∀ (b : Barge) (s : State), faultInjectCheck b s = none → exec (.faultInject b) s = .next (syncLevels (inject (b.pay 0 1) (b.pay 1 1) (b.pay 4 4) (b.pay 8 8) (b.pay 16 8) (complete b .ok s))))

/-- Doorbells: a good tail publishes barges, a bad one puts the ring into ERROR; a good head frees completion entries (R67, R73, R70). -/
def Obligations.Doorbells : Prop :=
  (∀ (n v : Nat) (s : State), (s.ring n).state ≠ .absent → v % 2 ^ 16 < 2 ^ (s.ring n).sqLog2 → exec (.sqTailDb n v) s = .next (raiseInternal n 0 [] (s.mapRing n fun r => { r with sqTail := v % 2 ^ 16 }))) ∧
  (∀ (n v : Nat) (s : State), (s.ring n).state ≠ .absent → 2 ^ (s.ring n).sqLog2 ≤ v % 2 ^ 16 → exec (.sqTailDb n v) s = .next (ringError n 0x01 (raiseInternal n 0 [] (s.mapRing n fun r => { r with sqTail := v % 2 ^ 16 })))) ∧
  (∀ (n v : Nat) (s : State), (s.ring n).state ≠ .absent → v % 2 ^ 16 < 2 ^ (s.ring n).cqLog2 → (v % 2 ^ 16 + 2 ^ (s.ring n).cqLog2 - (s.ring n).cqHead) % 2 ^ (s.ring n).cqLog2 ≤ ((s.ring n).cqTail + 2 ^ (s.ring n).cqLog2 - (s.ring n).cqHead) % 2 ^ (s.ring n).cqLog2 → exec (.cqHeadDb n v) s = .next ((raiseInternal (16 + n) 0 [] s).mapRing n fun r => { r with cqHead := v % 2 ^ 16 })) ∧
  (∀ (n : Nat) (s : State), s.host.dstate = .d0 → s.mode.contain = false → nextRing s = some n → badFrame (if n = 0 then s else countRound n s) n = false → exec (.bargeFetch .good) s = .next (fetchBarge n (if n = 0 then s else countRound n s))) ∧
  (∀ (n : Nat) (s : State), s.host.dstate = .d0 → s.mode.contain = false → nextRing s = some n → exec (.bargeFetch .error) s = .next (ringError n 0x04 (if n = 0 then s else countRound n s))) ∧
  (∀ (n : Nat) (s : State), exec (.bargeStart n) s = .next (bargeStart n s))

/-- Registers and windows that the host writes and reads (R512, R58, R83, R60, R61, R63, R54, R19). -/
def Obligations.HostRegisters : Prop :=
  (∀ (v : Word32) (s : State), railsOn s = true → exec (.heartbeat v) s = .next (syncLevels (heartbeat (s.mapHost fun h => { h with heartbeat := v })))) ∧
  (∀ (v : Word32) (s : State), v.toNat % 2 = 1 → exec (.snap v) s = .next (s.mapHost fun h => { h with snap := h.ctr, snapTime := s.time })) ∧
  (∀ (f : Nat) (v : Word64) (s : State), exec (.fenceSignal f true v) s = .next (signalFence f v s)) ∧
  (∀ (f : Nat) (v : Word64) (s : State), exec (.fenceSignal f false v) s = .next (s.mapCtr fun c => { c with fenceBad := inc32 c.fenceBad })) ∧
  (∀ (v : Word32) (s : State), v.toNat % 2 = 0 → exec (.adminEnable v) s = .next (s.mapRing 0 fun r => { r with adminEnable := false })) ∧
  (∀ (v : Word32) (s : State), v.toNat % 2 = 1 → (s.ring 0).state = .absent → ring0Bad (s.ring 0) = false → exec (.adminEnable v) s = .next (createPayloadQueue 0 (s.mapRing 0 fun r => { r with adminEnable := true, state := .active, err := 0, nextSeq := 0 }))) ∧
  (∀ (v : Word32) (s : State), bit v.toNat 1 = true → ((s.ring 0).inflight.any (·.started)) = false → exec (.adminReset v) s = .next (deleteQueue 0 (s.mapRing 0 resetRing0))) ∧
  (∀ (v : Word32) (s : State), v.toNat % 4096 ≤ 3584 → exec (.bar2Base v) s = .next (s.mapHost fun h => { h with bar2Base := v.toNat % 4096 })) ∧
  (∀ (v : Word32) (s : State), 3584 < v.toNat % 4096 → exec (.bar2Base v) s = .next (s.mapHost fun h => { h with bar2BaseBad := true })) ∧
  (∀ (off n : Nat) (s : State), exec (.bar2Read off n) s = .next ((bar2ReadFuel (min n (2 ^ 29 - off) / 128 + 2) (s.host.bar2Base * 2 ^ 21 + off) (min n (2 ^ 29 - off)) s).2.mapHost fun h => { h with bar2Data := (bar2ReadFuel (min n (2 ^ 29 - off) / 128 + 2) (s.host.bar2Base * 2 ^ 21 + off) (min n (2 ^ 29 - off)) s).1 })) ∧
  (∀ (off : Nat) (l : List (Option Byte)) (s : State), exec (.bar2Write off l) s = .next (bar2Runs ((l.take (2 ^ 29 - off)).length + 1) (s.host.bar2Base * 2 ^ 21 + off) (l.take (2 ^ 29 - off)) s)) ∧
  (∀ (off : Nat) (s : State), exec (.lowWordRead 0 off) s = .next (readAccess0 off 4 s)) ∧
  (∀ (off : Nat) (s : State), exec (.lowWordRead 4 off) s = .next (s.mapHost fun h => { h with readData := BitVec.ofNat 64 (readBar4 s off) })) ∧
  (∀ (off : Nat) (v : Word64) (s : State), goodAccess off 4 = true → exec (.registerWrite 0 off 4 v) s = .next (writeBar0 off (v.toNat % 2 ^ 32) s)) ∧
  (∀ (off : Nat) (v : Word64) (s : State), goodAccess off 8 = true → exec (.registerWrite 0 off 8 v) s = .next (writeBar0 (off + 4) (v.toNat / 2 ^ 32) (writeBar0 off (v.toNat % 2 ^ 32) s))) ∧
  (∀ (off w : Nat) (v : Word64) (s : State), goodAccess off w = false → exec (.registerWrite 0 off w v) s = .next (countBad s))

/-- Resets of the function, power states of the link, and MSI-X masks (R50, R51, R436, R437, R435). -/
def Obligations.ResetsAndPowerStates : Prop :=
  (∀ (s : State), exec (.functionLevelReset) s = .next (functionReset s)) ∧
  (∀ (s : State), exec (.fundamentalReset) s = .next ((functionReset s).mapHost fun h => { h with perst := false, perstTime := s.time })) ∧
  (∀ (s : State), exec (.d3hotEntry) s = .next (raiseInternal 53 0 [] (s.mapHost fun h => { h with dstate := .d3hot }))) ∧
  (∀ (s : State), exec (.d3coldEntry) s = .next (raiseInternal 53 0 [] (s.mapHost fun h => { h with dstate := .d3cold }))) ∧
  (∀ (s : State), s.host.dstate = .d3hot → exec (.d0Return) s = .next (returnToD0 (raiseInternal 53 0 [] (s.mapHost fun h => { h with dstate := .d0 })))) ∧
  (∀ (s : State), s.host.dstate = .d3hot → s.host.pmeStatus = true → exec (.pmeResend) s = .next ((s.send .pme).mapEvents fun e => { e with pmeSent := inc32 e.pmeSent })) ∧
  (∀ (s : State), s.events.wakeOut = true → exec (.wakeOutRelease) s = .next ((s.atTime (s.host.perstTime + 1000000)).mapEvents fun e => { e with wakeOut := false })) ∧
  (∀ (n : Nat) (s : State), exec (.msixUnmask (.vector n)) s = .next ((List.range 64).foldl (fun t v => if t.host.pba.getD v false && t.host.msixEnable && !t.host.msixFnMask && !(t.host.msixMask.getD v true) && decide (t.host.dstate = .d0) then sendMsi v t else t) (s.mapHost fun h => { h with msixMask := h.msixMask.set n false })))

/-- The event concentrators: assertions, claims, completions, moves and entries (R420, R428, R422, R439, R429, R431, R434, R424, R425). -/
def Obligations.Concentrator : Prop :=
  (∀ (n code : Nat) (l : List Byte) (s : State), levelKind n = false → n ≤ 175 → exec (.edgeAssertion true n code l) s = .next (raise n code l s)) ∧
  (∀ (n code : Nat) (l : List Byte) (s : State), internalLevelKind n = false → n ≤ 63 → exec (.edgeAssertion false n code l) s = .next (raiseInternal n code l s)) ∧
  (∀ (n : Nat) (on : Bool) (s : State), levelKind n = true → exec (.levelChange true n on) s = .next (setLevel n on s)) ∧
  (∀ (n : Nat) (on : Bool) (s : State), internalLevelKind n = true → n < 64 → exec (.levelChange false n on) s = .next (s.mapSource false n (Source.setLevel on s.time))) ∧
  (∀ (s : State), exec (.recordMove) s = .next (recordMove s)) ∧
  (∀ (v : Word32) (s : State), (s.source true (v.toNat % 256)).active = true → exec (.complete v) s = .next (s.mapSource true (v.toNat % 256) fun x => x.complete (levelKind (v.toNat % 256)))) ∧
  (∀ (v : Word32) (s : State), (s.source true (v.toNat % 256)).active = false → exec (.complete v) s = .next (s.mapEvents fun e => { e with badCompletes := inc32 e.badCompletes })) ∧
  (∀ (v : Word32) (s : State), v.toNat % 2 = 1 → exec (.ecSnap v) s = .next (s.mapEvents fun e =>
        { e with
          snapTime := s.time
          snap := { badCompletes := e.badCompletes, pmeSent := e.pmeSent, lostTotal := min top32 ((e.host.map (·.lost)).sum)
                    msiSent := e.vectors.map (·.msiSent), notified := e.vectors.map (·.notified), written := e.rings.map (·.written)
                    idleClaims := e.host.map (·.idleClaims), lost := e.host.map (·.lost) } })) ∧
  (∀ (k : Nat) (v : Word32) (s : State), (s.evRing k).state = 1 → v.toNat % 2 ^ 16 < 2 ^ (s.evRing k).sizeLog2 → (v.toNat % 2 ^ 16 + 2 ^ (s.evRing k).sizeLog2 - (s.evRing k).head) % 2 ^ (s.evRing k).sizeLog2 ≤ (s.evRing k).waiting → exec (.headDb k v) s = .next (s.mapEvRing k fun r => { r with head := v.toNat % 2 ^ 16 })) ∧
  (∀ (k : Nat) (s : State), entryReady s k = true → s.host.dstate = .d0 → exec (.eventEntryWrite k) s = .next (writeEntry k false s)) ∧
  (∀ (v t : Nat) (s : State), (s.vector v).timer = some t → ((s.atTime t).vector v).pending = true → (s.atTime t).host.dstate = .d0 → exec (.holdoffTimerExpiry v) s = .next (startTimer v ((sendMsi v (s.atTime t)).mapVector v fun x => { x with pending := false, count := 0 }))) ∧
  (∀ (s : State), exec (.firmwareTick) s = .next (raiseInternal 55 0 [] s)) ∧
  (∀ (p : Nat) (s : State), s.faults.pairBad.getD p true = false → bestSource ((s.events.internal.zipIdx.map fun x => (x.2, x.1)).filter fun x => claimable s (at_ s.events.pairs p) x.1 x.2) = none → exec (.claim p) s = .next (s.mapEvents fun e => { e with pairs := e.pairs.modify p fun x => { x with lastClaim := 0x100 } })) ∧
  (∀ (p n : Nat) (x : Source) (s : State), s.faults.pairBad.getD p true = false → bestSource ((s.events.internal.zipIdx.map fun x => (x.2, x.1)).filter fun x => claimable s (at_ s.events.pairs p) x.1 x.2) = some (n, x) → exec (.claim p) s = .next ((((markDue (x.ready n (internalLevelKind n) s.time)).foldl (fun t r => (putItem 16 (evBytes r false false) t).getD t) s).mapSource false n fun y =>
        { y with active := true, pending := false, claimHigh := y.level, fifo := [], lostTold := 0 }).mapEvents fun e =>
          { e with
            tiePair := if decide ((at_ s.events.pairs 0).running = (at_ s.events.pairs 1).running) then p else e.tiePair
            pairs := e.pairs.modify p fun y => { y with claims := (n, x.priority) :: y.claims, lastClaim := n } })) ∧
  (∀ (p : Nat) (v : Word32) (s : State), ((at_ s.events.pairs p).claims.any fun c => c.1 = v.toNat % 256) = true → exec (.pairComplete p v) s = .next ((s.mapSource false (v.toNat % 256) fun x => x.complete (internalLevelKind (v.toNat % 256))).mapEvents fun e =>
        { e with pairs := e.pairs.modify p fun y => { y with claims := y.claims.filter fun c => c.1 != v.toNat % 256 } }))

/-- The instants of a line: release, fetch return, deadline, write, window open and close (R136, R225, R166, R177, R224, R226, R548). -/
def Obligations.LineInstants : Prop :=
  (∀ (p : Nat) (s : State), (s.pipe p).state = .running → ((takeLead p s).pipe p).retime = none → exec (.lock p) s = .next (syncLevels (frameLock p (takeLead p s)))) ∧
  (∀ (p h y : Nat) (s : State), (s.pipe p).composing = true → h < (s.pipe p).cfg.halfCount → y < (s.pipe p).cfg.vActive → lineRec s p h y = none → y ≠ 0 → exec (.lineRelease p h y) s = .next (syncLevels (nextTakeover (noteWhole p (runHalf p h (s.mapHalf p h fun q => { q with lines := q.lines ++
        [{ y, frame := (s.pipe p).compFrame, opened := decide ((s.pipe p).cfg.lead < (s.pipe p).cfg.vt) }] })))))) ∧
  (∀ (p h y : Nat) (s : State), (s.half p h).nextLine = y → (s.half p h).begun = true → laneAlive s p h = true → (lineRec s p h y).isSome = true → racedShort (examineRow p h y false s) p h y = [] → exec (.fetchReturn p h y [] []) s = .next (syncLevels (nextTakeover (noteWhole p (runHalf p h (composeNow p h y (examineRow p h y false s))))))) ∧
  (∀ (p h y : Nat) (s : State), (s.half p h).nextLine = y → (s.half p h).begun = true → laneAlive s p h = true → (lineRec s p h y).isSome = true → exec (.deadline p h y) s = .next (syncLevels (nextTakeover (noteWhole p (runHalf p h (composeNow p h y ((lateLayers s p h y).foldl (fun t l => makeLate p h y l t) s.takeFree))))))) ∧
  (∀ (p h y : Nat) (r : LineRec) (s : State), ((s.half p h).lines.find? fun x => x.y == y && x.issued && !x.closed) = some r → r.opened = true → exec (.lineWrite p h y) s = .next (syncLevels (nextTakeover (noteWhole p (landLine p h y r s))))) ∧
  (∀ (p h y : Nat) (r : LineRec) (s : State), ((s.half p h).lines.find? fun x => x.y == y && !x.opened) = some r → r.waiting = false → exec (.windowOpen p h y) s = .next (syncLevels (nextTakeover (noteWhole p (mapLine p h y r.frame (fun x => { x with opened := true }) s))))) ∧
  (∀ (p h y : Nat) (l : List BasinUpset) (s : State), generating ((addBasinUpsets l s).pipe p) = true → h < ((addBasinUpsets l s).pipe p).cfg.halfCount → y < ((addBasinUpsets l s).pipe p).cfg.vActive → exec (.windowClose p h y l) s = .next (syncLevels (windowClose p h y (addBasinUpsets l s)))) ∧
  (∀ (p h y : Nat) (r : LineRec) (s : State), lineRec s p h y = some r → r.landed = false → r.waiting = false → r.skipped = false → (s.half p h).begun = false → exec (.landingCheck p h y) s = .next (syncLevels (detectLane (s.lanes.map.getD (halfLane s p h) 255) 4 s)))

/-- The instants of a frame and of a lane: frame start, last pixel, vertical blanking, towing, black frames, the rebuilt bank, lane faults and handovers (R240, R239, R229, R258, R252, R217, R548, R235, R234). -/
def Obligations.FrameAndLaneInstants : Prop :=
  (∀ (p : Nat) (s : State), exec (.frameStart p) s = .next (syncLevels (frameStart p s))) ∧
  (∀ (p : Nat) (s : State), generating (s.pipe p) = false → exec (.verticalBlanking p) s = .next (syncLevels (s))) ∧
  (∀ (p : Nat) (s : State), generating (s.pipe p) = true → exec (.verticalBlanking p) s = .next (syncLevels ((fun t : State => t.mapBasin fun x => { x with recorded := x.recorded.filter fun r => r.1 != p })
        ((fun t : State => (t.pipe p).cfg.linkList.foldl (fun u l => startRetrain l u) t)
          ((fun t : State => (List.range (t.pipe p).cfg.links).foldl (fun u h => checkProbe p h u) t)
            ((measureLatency p (frameEvents p (handRecords p s))).mapPipe p fun x =>
              { x with halves := x.halves.map (Half.endFrame (s.pipeCtr p).frames (drivesBlack (s.pipe p))) })))))) ∧
  (∀ (p h y x : Nat) (s : State), generating (s.pipe p) = true → drivesBlack (s.pipe p) = false → h < (s.pipe p).cfg.links → y < (s.pipe p).cfg.vActive → x < (s.pipe p).cfg.wl → exec (.lastPixelRepeat p h y x) s = .next (lastPixelRepeat p h y x s)) ∧
  (∀ (p : Nat) (s : State), exec (.towDecision p) s = .next (towDecision p s)) ∧
  (∀ (p n : Nat) (s : State), (s.pipe p).black = some (n, .disable) → n ≤ 1 → exec (.blackFramesEnd p) s = .next (syncLevels (stopPipe p s))) ∧
  (∀ (f h : Nat) (s : State), s.basin.failed = some f → s.basin.shadow = some h → exec (.bankRebuildComplete) s = .next (syncLevels (raise 109 0x0D03 (leBytes 1 f) (s.mapBasin fun x =>
        { x with
          map := x.map.set f h, shadow := none, failed := none
          errs := (x.errs.filter fun e => bankOf e.1 != f) ++ x.shadowErrs.map fun e => (16 * e.1 + f, e.2)
          shadowErrs := [] })))) ∧
  (∀ (l c : Nat) (s : State), exec (.laneFaultDetected l c) s = .next (syncLevels (detectLane l c s))) ∧
  (∀ (l c : Nat) (s : State), (s.lanes.detected.find? fun d => d.1 == l) = some (l, c) → exec (.laneFaultDeclared l) s = .next (syncLevels (declareLane l c s))) ∧
  (∀ (s : State), s.lanes.handover = none → exec (.takeoverSpareStart) s = .next (syncLevels (nextTakeover s))) ∧
  (∀ (x : Handover) (p h : Nat) (s : State), s.lanes.handover = some x → x.takeover = false → x.loaded = false → placeOfLane s x.lane = some (p, h) → (s.pipe p).composing = true → exec (.handoverLoaded) s = .next (syncLevels (s.mapLanes fun l => { l with handover := some { x with loaded := true, line := handoverLine s p } })))

/-- Hot plug, AUX, training and loss of a link (R265). -/
def Obligations.LinkEvents : Prop :=
  (∀ (l : Nat) (s : State), (s.link l).storm = false → ((countEdges l (b2n (s.link l).hpd) s).link l).storm = false → exec (.hpdLow l) s = .next (syncLevels (linkDown l (countEdges l (b2n (s.link l).hpd) s)))) ∧
  (∀ (l : Nat) (s : State), (s.link l).storm = false → ((countEdges l (b2n !(s.link l).hpd) s).link l).storm = false → exec (.hpdHigh l) s = .next (syncLevels (linkHigh l (countEdges l (b2n !(s.link l).hpd) s)))) ∧
  (∀ (l : Nat) (s : State), (s.link l).storm = false → (cfgOfLink s l).linkKind ≠ 3 → ((countEdges l 2 s).link l).storm = false → ((countEdges l 2 s).link l).state = .up → exec (.irqHpd l) s = .next (syncLevels (queueAux l { space := 1, addr := 0x202, left := 2 } (countEdges l 2 s)))) ∧
  (∀ (l : Nat) (on : Bool) (s : State), (s.link l).storm = true → exec (.hpdStormEnd l on) s = .next (syncLevels (if on then linkHigh l (s.mapLink l fun k => { k with storm := false }) else linkDown l (s.mapLink l fun k => { k with storm := false })))) ∧
  (∀ (l : Nat) (j : AuxJob) (r : List AuxJob) (s : State), (s.link l).aux = j :: r → j.defers ≠ 7 → exec (.auxReply l .defer) s = .next (sendAux l (mapAux l (fun j => { j with defers := j.defers + 1 }) s))) ∧
  (∀ (l : Nat) (j : AuxJob) (r : List AuxJob) (s : State), (s.link l).aux = j :: r → exec (.auxReply l .nack) s = .next (failAux l j s)) ∧
  (∀ (l : Nat) (j : AuxJob) (r : List AuxJob) (s : State), (s.link l).aux = j :: r → j.timeouts ≠ 3 → exec (.auxTimeout l) s = .next (sendAux l (mapAux l (fun j => { j with timeouts := j.timeouts + 1 }) s))) ∧
  (∀ (l rate n : Nat) (s : State), (s.link l).state = .training → exec (.trainingAttemptEnd l (.up rate n)) s = .next (syncLevels (settleLinks l (linkUp l rate n s)))) ∧
  (∀ (l p : Nat) (s : State), pipeOfLink s l = some p → (s.pipe p).state = .running → (s.pipe p).black = none → (s.link l).state = .down → hasHpd (s.pipe p).cfg (s.link l) = true → (s.link l).waitHpd = false → (s.link l).storm = false → exec (.trainingRetry l) s = .next (syncLevels (s.mapLink l fun k => { k with state := .training }))) ∧
  (∀ (l : Nat) (s : State), (s.link l).state = .up → (cfgOfLink s l).isDp = true → exec (.linkLost l) s = .next (syncLevels (symbolLost l s))) ∧
  (∀ (l : Nat) (s : State), (s.link l).state = .black → exec (.linkLost l) s = .next (syncLevels (s.mapLink l fun k => { k with state := .down, failCode := 6 }))) ∧
  (∀ (l : Nat) (s : State), 4 ≤ l → (s.link l).state = .up → (s.link l).resends < 4 → exec (.aphyRetransmitRequest l) s = .next (s.mapLink l fun k => { k with resends := k.resends + 1 }))

/-- Packets, deadlines and link states of a camera input (R280, R281, R282, R276, R283, R296, R297, R299). -/
def Obligations.CameraEvents : Prop :=
  (∀ (i vc n : Nat) (s : State), (s.cam i).receiving = true → vc = (s.cam i).decl.vc → exec (.cameraFs i vc n) s = .next (syncLevels (frameStartPacket i (n % 65536) s))) ∧
  (∀ (i : Nat) (x : CamPacket) (s : State), (s.cam i).receiving = true → exec (.cameraLinePacket i x) s = .next (syncLevels (linePacket i x s))) ∧
  (∀ (i : Nat) (s : State), exec (.cameraLineLanded i) s = .next (syncLevels (landLineOf i s))) ∧
  (∀ (i vc n : Nat) (s : State), (s.cam i).receiving = true → vc = (s.cam i).decl.vc → (s.cam i).open_.isSome = true → (s.cam i).packets < (s.cam i).decl.height → exec (.cameraFe i vc n) s = .next (syncLevels (dropOpen i 4 s))) ∧
  (∀ (i vc : Nat) (l : List Byte) (s : State), (s.cam i).receiving = true → vc = (s.cam i).decl.vc → exec (.cameraEmbeddedData i vc l true) s = .next (syncLevels (keepEmbedded i l s))) ∧
  (∀ (i : Nat) (s : State), (s.cam i).receiving = true → exec (.cameraPacketDiscard i 2) s = .next (syncLevels (dropOpen i 1 (countMalformed i 2 s)))) ∧
  (∀ (i : Nat) (s : State), (s.cam i).receiving = true → exec (.cameraLinkError i) s = .next (syncLevels (dropOpen i 10 (countMalformed i 4 s)))) ∧
  (∀ (i : Nat) (s : State), (s.cam i).receiving = true → (s.cam i).open_.isSome = true → exec (.frameTimeout i) s = .next (syncLevels (dropOpen i 5 ((s.atTime ((s.cam i).fsTimes.headD 0 + 3 * (s.cam i).decl.framePeriod / 2)).mapCam i fun m => { m with missing := max 1 m.missing })))) ∧
  (∀ (i t : Nat) (l : List Nat) (s : State), (s.cam i).receiving = true → (s.cam i).fsTimes = t :: l → (s.cam i).open_ = none → exec (.fsMissing i) s = .next (syncLevels (countDrop i 9 ((s.atTime (t + (2 * ((s.cam i).missing + 1) + 1) * (s.cam i).decl.framePeriod / 2)).mapCam i fun m => { m with missing := (s.cam i).missing + 1 })))) ∧
  (∀ (i : Nat) (b : Barge) (l : List Barge) (s : State), (s.cam i).starts = b :: l → exec (.cameraStartTimeout i) s = .next (syncLevels (complete b (.err stDeviceAbsent (i + 2 * 256)) (s.mapCam i fun m => { m with starts := l })))) ∧
  (∀ (i : Nat) (s : State), (s.cam i).stops ≠ [] → exec (.cameraStopTimeout i) s = .next (syncLevels (stopNow i s))) ∧
  (∀ (i : Nat) (s : State), exec (.cameraPhyLinkUp i) s = .next (s.mapCam i fun m => { m with phyUp := m.receiving }))

/-- A camera link lost; the steps of a 2D job; check-value descriptors and signature records (R299, R327, R347, R344, R351, R396, R403). -/
def Obligations.CameraLinkAndEngines : Prop :=
  (∀ (i : Nat) (s : State), exec (.cameraPhyLinkLost i) s = .next (s.mapCam i fun m => { m with phyUp := false })) ∧
  (∀ (e : Nat) (j : TwoDJob) (l : List TwoDJob) (s : State), holding s = false → engineOut s e = false → (s.engine e).cur = none → (s.engine e).queue = j :: l → s.mode.contain = false → exec (.twoDJobBegin e) s = .next (beginJob e j s)) ∧
  (∀ (e c : Nat) (j : TwoDJob) (s : State), holding (accrueEngine e s) = false → ((accrueEngine e s).engine e).cur = some j → (j.parts.flatMap (·.bursts)).head? = some c → ((accrueEngine e s).engine e).rate = 0 → exec (.twoDBurst e false) s = .next ((accrueEngine e s).mapEngine e fun x => { x with cur := some { j with parts := issueBurst j.parts } })) ∧
  (∀ (e : Nat) (j : TwoDJob) (p : TwoDPart) (r : List TwoDPart) (o : TwoDOp) (s : State), (s.engine e).cur = some j → j.parts = p :: r → j.ops[j.cur]? = some o → p.bursts = [] → exec (.twoDLineLanded e) s = .next (passLines e o j.bottomUp j.landed (j.landed + p.lines) ((p.runs.foldl (fun t r => devWrite r.1 r.2 t) s).mapEngine e fun x =>
        { x with cur := some { j with parts := r, landed := j.landed + p.lines, bad := (j.bad ++ p.runs.flatMap (droppedWords s)).eraseDups } }))) ∧
  (∀ (e : Nat) (j : TwoDJob) (s : State), (s.engine e).cur = some j → j.parts = [] → j.ops.length ≤ j.cur + 1 → exec (.twoDJobComplete e) s = .next (syncLevels (settleRemovals e (refreshSurfaces (complete j.barge (jobReply j) ((endOperation e j s).mapEngine e fun x =>
        { x with cur := none, idleSince := if x.queue.isEmpty then (endOperation e j s).time else x.idleSince })))))) ∧
  (∀ (c : Nat) (s : State), (s.chan c).chain = none → exec (.cvDescriptor c) s = .next (syncLevels (s))) ∧
  (∀ (c : Nat) (d : Descriptor) (ch : CvChain) (t : State) (s : State), holding s = false → s.mode.contain = false → (s.chan c).chain = some ch → ((feedChannel c cvItems s).queue (cvQueue c)).current.isSome = true → takeDescriptor c (feedChannel c cvItems s) = (some d, t) → exec (.cvDescriptor c) s = .next (syncLevels ((fun u : State => runOrder c (orderFuel u c) u) ((fun u : State => if u.mode.contain then u else feedChannel c cvItems u) (runDescriptor c d t))))) ∧
  (∀ (l c : Nat) (r : FrameRecord) (rest : List FrameRecord) (s : State), (s.signBlock l).inbox = r :: rest → signerOf (s.mapSign l fun x => { x with inbox := rest }) l = some c → exec (.signatureRecord l) s = .next (syncLevels (signRecord c l r (s.mapSign l fun x => { x with inbox := rest }))))

/-- The operations of a producer and of a consumer on a queue (R367, R373, R372, R359, R364). -/
def Obligations.PoundOperations : Prop :=
  (∀ (q c : Nat) (l : List Byte) (s : State), c ≠ 0 → (s.queue q).state ≠ .absent → (s.queue q).producer = c → exec (.put q c l) s = .next (qPut q l s)) ∧
  (∀ (q c : Nat) (s : State), c ≠ 0 → (s.queue q).state ≠ .absent → (s.queue q).producer = c → exec (.endItem q c) s = .next (qEnd q s)) ∧
  (∀ (q c : Nat) (s : State), c ≠ 0 → (s.queue q).state ≠ .absent → (s.queue q).producer = c → exec (.cancel q c) s = .next (qCancel q s)) ∧
  (∀ (q c n : Nat) (s : State), c ≠ 0 → (s.queue q).state ≠ .absent → (s.queue q).consumer = c → exec (.get q c n) s = .next (qGet q n s)) ∧
  (∀ (q c : Nat) (s : State), c ≠ 0 → (s.queue q).state ≠ .absent → (s.queue q).consumer = c → exec (.nextItem q c) s = .next (qNext q s)) ∧
  (∀ (q c : Nat) (s : State), c ≠ 0 → (s.queue q).state ≠ .absent → (s.queue q).consumer = c → exec (.dropRemainder q c) s = .next (qDrop q s)) ∧
  (∀ (q c : Nat) (s : State), c ≠ 0 → (s.queue q).state ≠ .absent → (s.queue q).consumer = c → exec (.markRead q c) s = .next (qMark q s)) ∧
  (∀ (q c : Nat) (s : State), c ≠ 0 → (s.queue q).state ≠ .absent → (s.queue q).consumer = c → exec (.rewind q c) s = .next (qRewind q s)) ∧
  (∀ (q c : Nat) (s : State), c ≠ 0 → (s.queue q).state ≠ .absent → (s.queue q).consumer = c → exec (.release q c) s = .next (qRelease q s)) ∧
  (∀ (q : Nat) (s : State), exec (.itemComplete q) s = .next (qComplete q s)) ∧
  (∀ (k : Nat) (s : State), s.pound.draining.getD k false = true → exec (.quarterDrainTimeout k) s = .next ((s.mapPound fun p => { p with draining := p.draining.set k false }).mapFaults fun f =>
        { f with tests := f.tests.filter fun t => !(t.kind = 3 && t.index = k && t.preparing) }))

/-- Encoders, segments, manifests, the superblock and wear credit (R447, R451, R452, R454, R450, R459, R458). -/
def Obligations.RecordingEvents : Prop :=
  (∀ (k : Nat) (s : State), exec (.encodeFrame k) s = .next (encodeFrame k s)) ∧
  (∀ (x : Segment) (s : State), openSegment s = some x → exec (.segmentClose) s = .next (closeSegment (endBursts (s.atTime (x.openTime + 10000000000))))) ∧
  (∀ (s : State), writable s = true → s.recording.bootSlotDone = true → exec (.segmentWrite) s = .next (writeSegment (endBursts s))) ∧
  (∀ (s : State), s.mode.contain = false → s.recording.unlisted ≠ [] → exec (.manifestClose) s = .next (closeManifest (s.atTime (s.recording.manOpen + 30000000000)))) ∧
  (∀ (s : State), writable s = true → exec (.manifestWrite) s = .next (writeManifest s)) ∧
  (∀ (s : State), writable s = true → exec (.superblockUpdateTimer) s = .next (issueSuper false (s.atTime (s.recording.superTime + 10000000000)))) ∧
  (∀ (s : State), s.recording.drive = .own → exec (.creditTick) s = .next (endBursts (chargeCredit ((s.recording.super.rate : Int) - (s.recording.lastSecond : Int)) (s.mapRec fun r => { r with lastSecond := 0 })))) ∧
  (∀ (n k : Nat) (s : State), driveOpen s = true → exec (.ledgerCompare n k) s = .next (s.mapRec fun r => { r with smartBytes := n, percentUsed := k, compared := (r.super.ledgerBytes, n) }))

/-- A drive inserted, tested, removed; its commands completing or timing out (R449, R461, R448). -/
def Obligations.DriveEvents : Prop :=
  (∀ (d : DriveFacts) (s : State), s.recording.present = false → exec (.driveInserted d) s = .next (syncLevels (startAttach (s.mapRec fun r =>
        { r with
          present := true, prepared := false, driveIdent := d.ident, driveMib := d.mib, driveGood := d.supported, disk := diskOf d.bytes
          smartBytes := d.smartBytes, percentUsed := d.percentUsed })))) ∧
  (∀ (k : Nat) (s : State), s.recording.testing = true → s.mode.contain = false → exec (.driveRateTestEnd k) s = .next (syncLevels (endAttach k s))) ∧
  (∀ (s : State), s.recording.present = true → s.recording.drive ≠ .none → exec (.driveRemoved) s = .next (syncLevels ((driveGone none s).mapRec fun r => { r with present := false, prepared := false, driveMib := 0, driveGood := false, disk := [] }))) ∧
  (∀ (i n : Nat) (c : NvmeCmd) (s : State), commandOf s i = some c → s.mode.contain = false → exec (.nvmeCommandTimeout i n) s = .next (syncLevels (commandFailed c n (if n = 0 then s.atTime (c.time + 2000000000) else s)))) ∧
  (∀ (i : Nat) (c : NvmeCmd) (l : List Byte) (s : State), commandOf s i = some c → s.mode.contain = false → sectorBad c 0 = false → c.opcode ≠ 2 → exec (.nvmeCommandComplete i 0 l) s = .next (syncLevels (advanceClose (commandLanded c (writeLanded c (s.mapRec fun r => { r with cmds := r.cmds.filter fun x => x.id != c.id }))))))

/-- CAN frames, timeouts and bus errors (R517, R464). -/
def Obligations.VehicleEvents : Prop :=
  (∀ (s : State), s.can.valid = true → exec (.vehicleStateTimeout) s = .next (syncLevels (setVehicle (fun c => { c with valid := false }) (s.atTime (s.can.tVehicle + 1000000000))))) ∧
  (∀ (i : Nat) (l : List Byte) (s : State), canOn s = false → exec (.canFrameReceived i l) s = .next (syncLevels (s))) ∧
  (∀ (i : Nat) (l d : List Byte) (t u : State) (s : State), canOn s = true → canTakes s i = true → l.length ≤ 8 → putItem 80 (leBytes 4 i ++ l) s = some t → t.mode.contain = false → takeItem 80 { t with can := { t.can with rxFrames := inc32 t.can.rxFrames } } = some (d, u) → exec (.canFrameReceived i l) s = .next (syncLevels (stopFrame i l (vehicleFrame i l u)))) ∧
  (∀ (g : Programme) (s : State), s.recording.programme = some g → s.recording.stopValid = true → exec (.canTimeout) s = .next (sceneChange (currentScene (s.atTime (s.recording.stopTime + 1000000 * g.canTimeout)))
        ((s.atTime (s.recording.stopTime + 1000000 * g.canTimeout)).mapRec fun r => { r with stopValid := false }))) ∧
  (∀ (d : List Byte) (t : State) (s : State), canOn s = true → bit (imageNum s 0x21 1) 1 = true → 3 ≤ modeNow s → s.mode.contain = false → ((putItem 81 (leBytes 1 s.mode.shown ++ leBytes 1 (bootFlags s) ++ leBytes 1 (faultSummary s) ++ leBytes 1 s.can.alive ++ leBytes 4 0)
        { s with can := { s.can with alive := (s.can.alive + 1) % 256 } }).bind fun u => takeItem 81 u) = some (d, t) → exec (.statusCanTx) s = .next (t.send (.can (imageNum t 0x30 4) d))) ∧
  (∀ (a r : Nat) (s : State), canOn s = true → exec (.canBusError a r) s = .next (syncLevels ({ s with can := { s.can with tec := min 511 a, rec_ := min 255 r, busOff := decide (255 < a) } }))) ∧
  (∀ (s : State), s.can.busOff = true → exec (.canBusOffRecovery) s = .next (syncLevels ({ s with can := { s.can with tec := 0, rec_ := 0, busOff := false } })))

/-- Supply, heat, sprint and scrub (R478, R477, R480, R483, R485, R487, R489, R541). -/
def Obligations.SupplyAndHeat : Prop :=
  (∀ (mv : Nat) (s : State), railsOn s = true → mv < 4500 → s.power.holdLow = false → exec (.vinLow mv) s = .next (syncLevels (supplyEvent 1 mv 0 (enterHold 7 (fun p => { p with vin := mv, vinSince := none, lowest := mv, holdLow := true }) s)))) ∧
  (∀ (mv : Nat) (s : State), railsOn s = true → 36000 < mv → s.power.holdHigh = false → exec (.vinHigh mv) s = .next (syncLevels (supplyEvent 2 mv 0 (enterHold 7 (fun p => { p with vin := mv, highest := mv, highSince := s.time, holdHigh := true }) s)))) ∧
  (∀ (mv d k : Nat) (s : State), s.power.holdLow = true → exec (.vinRestored mv d k) s = .next (syncLevels ((fun t : State => supplyEvent 3 t.power.lowest d t) (leaveHold (fun p =>
        { p with
          vin := mv, holdLow := false, storeMj := k, storeCharged := p.storeCharged && decide (p.storeMj ≤ k)
          rideThroughs := inc32 p.rideThroughs }) s)))) ∧
  (∀ (mv : Nat) (s : State), s.power.holdHigh = true → mv ≤ 36000 → exec (.vinHighEnd mv) s = .next (syncLevels ((fun t : State => supplyEvent 3 t.power.highest ((t.time - t.power.highSince) / 1000) t) (leaveHold (fun p => { p with vin := mv, holdHigh := false }) s)))) ∧
  (∀ (k : Nat) (s : State), railsOn s = true → exec (.holdUpStoreCharged k) s = .next (syncLevels (s.mapPower fun p => { p with storeMj := k, storeCharged := true, inrush := false }))) ∧
  (∀ (d : Nat) (s : State), railsOn s = true → d = 70 → s.trust.signing = [] → exec (.domainIdleTimeout d) s = .next (syncLevels (s.mapPower fun p => { p with idleOff := p.idleOff.filter (· != d) ++ [d] }))) ∧
  (∀ (x y : Int) (l : List Int) (s : State), railsOn s = false → exec (.thermalSample x y l) s = .next (syncLevels (s))) ∧
  (∀ (x y : Int) (l : List Int) (s : State), railsOn s = true → outOfRange x = false → badJunctions l = [] → exec (.thermalSample x y l) s = .next (syncLevels (thermalCheck s.power.tj ((fun t : State => (t.mapPower fun p => { p with tj := hottest t (l.take 18) }).takeFree)
        (setBaseplate y (s.mapPower fun p => { p with valid := min 2000 (p.valid + 1) })))))) ∧
  (∀ (t : Nat) (s : State), s.power.coolSince = some t → s.power.holdThermal = true → exec (.thermalHoldEnd) s = .next (syncLevels (thermalEvent 4 s.power.tb (leaveHold (fun p => { p with holdThermal := false }) (s.atTime (t + 10000000000)))))) ∧
  (∀ (s : State), s.power.sprinting = false → sprintPermitted s = true → sprintWanted s = true → exec (.sprintBegin) s = .next (syncLevels (s.mapPower fun p => { p with sprinting := true, sprintStart := s.time, sprints := inc32 p.sprints }))) ∧
  (∀ (k c : Nat) (s : State), s.power.sprinting = true → sprintCause s k = some c → exec (.sprintEnd k) s = .next (syncLevels (raise 128 0x0B01 (leBytes 1 c ++ leBytes 1 (bandOf s.power.tb) ++ leBytes 2 0 ++ leBytes 4 (s.time / 1000000 - s.power.sprintStart / 1000000))
        (s.mapPower fun p =>
          { p with
            sprinting := false, endCause := c, justEnded := true
            spans := { from_ := s.power.sprintStart / 1000000, upto := s.time / 1000000 } ::
              p.spans.filter fun x => decide (s.time / 1000000 < x.upto + 600000) })))) ∧
  (∀ (s : State), railsOn s = true → s.power.scrubStart = none → exec (.scrubPassStart) s = .next (syncLevels ((s.mapPower fun p => { p with scrubStart := some s.time, scrubTicks := 0 }).mapFaults fun f => { f with tracked := [] })))

/-- Power-up, boot, ticks, wakes, heartbeat and sleep timers (R502, R479, R491, R512, R516, R506, R504, R531). -/
def Obligations.ModeEvents : Prop :=
  (∀ (mv : Nat) (s : State), s.mode.base = .off → 4500 ≤ mv → exec (.vinValid mv) s = .next (syncLevels ((startBoot 0 0 s.time s).mapPower fun p => { p with vin := mv, inrush := true, vinSince := if 6300 ≤ mv then some s.time else none }))) ∧
  (∀ (s : State), s.mode.base ≠ .off → exec (.powerFailure) s = .next (powerOff s)) ∧
  (∀ (w : SchedWork) (s : State), railsOn s = true → exec (.schedulerTick w) s = .next (syncLevels (proceed (powerTick w s)))) ∧
  (∀ (s : State), s.mode.hbRuns = true → s.mode.hbTimeout ≠ 0 → s.mode.base = .service → exec (.heartbeatTimeout) s = .next (syncLevels (enterQuiet (s.atTime (s.mode.hbStart + 1000000 * s.mode.hbTimeout))))) ∧
  (∀ (t : Nat) (s : State), s.can.sleepFrom = some t → imageNum s 0x26 2 ≠ 0 → s.mode.sleeping = none → modeNow s = 4 → exec (.sleepTimer) s = .next (syncLevels (startSleep none (s.atTime (t + 1000000000 * imageNum s 0x26 2))))) ∧
  (∀ (c : Nat) (s : State), s.mode.base = .keepalive → wakeEnabled s c = true → exec (.wakeSource c) s = .next (syncLevels (wakeUp c s))) ∧
  (∀ (s : State), s.mode.base = .boot → exec (.bootRestart) s = .next (syncLevels (restartBoot s))) ∧
  (∀ (s : State), s.mode.base = .boot → s.mode.lightDone = false → s.trust.config = none → exec (.lightEntries) s = .next (syncLevels (entriesGoOn (s.mapMode fun m => { m with lightDone := true, imageLeft := entriesOf 1 s })))) ∧
  (∀ (s : State), s.mode.base = .boot → s.mode.lightDone = true → s.mode.imageLeft = [] → s.mode.imageBarge = none → s.mem.lost.any id = false → holding s = false → exec (.serviceReady) s = .next (syncLevels ((fun t : State => entriesGoOn (if holding t then t.mapPower fun p => { p with holdEntries := inc32 p.holdEntries } else t))
        ((fun t : State => t.mapTrust fun x => { x with signing := x.signing ++ [.boot (attestBody 1 [] t)] })
          (setBase .service 1 (s.mapMode fun m =>
            { m with ready := true, readyMs := (s.time - m.bootTime) / 1000000, hbRuns := true, hbStart := s.time, imageLeft := entriesOf 2 s })))))) ∧
  (∀ (c : List Byte × Nat) (s : State), s.mode.challenge = some c → exec (.challengeExpired) s = .next ((s.atTime c.2).mapMode fun m => { m with challenge := none }))

/-- Device, phase, quarter and pair faults, and self-test steps (R544, R546, R550, R552, R549, R555, R558, R569). -/
def Obligations.HardwareFaults : Prop :=
  (∀ (d : Nat) (s : State), exec (.gddr6SupplyFault d) s = .next (syncLevels (declareDevice d s))) ∧
  (∀ (d : Nat) (s : State), s.mem.lost.getD d true = false → s.mem.crcFails.getD d 0 < 2 → exec (.gddr6CrcFail d false) s = .next (syncLevels (s.mapMem fun m => { m with crcFails := m.crcFails.set d (s.mem.crcFails.getD d 0 + 1) }))) ∧
  (∀ (s : State), s.mem.remirror ≠ [] → oneCopyShort s = false → exec (.remirrorComplete) s = .next (syncLevels (memoryShort 0xFFFF (remirrorAll s).mem.remirror.length 0 (decide (0 < (remirrorAll s).mem.remirror.length))
        (raise 161 0x0D06 (leBytes 4 (s.mem.remirror.length - (remirrorAll s).mem.remirror.length) ++ leBytes 4 (remirrorAll s).mem.remirror.length) (remirrorAll s))))) ∧
  (∀ (r p : Nat) (s : State), railsOn s = true → exec (.phaseFault r p) s = .next (syncLevels (phaseFault r p s))) ∧
  (∀ (q : Nat) (l : List Nat) (s : State), railsOn s = true → q < 4 → exec (.quarterSubstitution q l) s = .next (syncLevels ((quarterFault q s).mapPound fun p => { p with badCells := (p.badCells ++ l.filter fun c => c / 4096 == q && p.used.contains c).eraseDups }))) ∧
  (∀ (p : Nat) (s : State), exec (.lockstepMismatch p) s = .next (syncLevels (lockstep p s))) ∧
  (∀ (k : Nat) (s : State), s.mode.base.isBase = true → s.mode.contain = false → holding s = false → bit s.power.running 0 = true → s.faults.periods.getD k 0 ≠ 0 → s.faults.lastStep.getD k 0 + s.faults.periods.getD k 0 * 1000000000 ≤ s.time → (s.faults.tests.any fun t => t.barge.isNone && stepOf t.kind == k) = false → exec (.selftestStep k) s = .next (syncLevels (startStep k (s.faults.nextTarget.getD k 0) (s.mapFaults fun f =>
        { f with lastStep := f.lastStep.set k s.time, nextTarget := f.nextTarget.set k ((s.faults.nextTarget.getD k 0 + 1) % max 1 (stepTargets.getD k 1)) })))) ∧
  (∀ (k : Nat) (t : TestRun) (s : State), (s.faults.tests.find? fun t => t.barge.isNone && !t.offline && !t.preparing && stepOf t.kind == k) = some t → exec (.selftestStepEnd k true) s = .next (syncLevels (endTest t (s.mapFaults fun f => { f with tests := f.tests.filter (· != t) })))) ∧
  (∀ (s : State), bit s.faults.conditions 3 = true → exec (.faultOutConditionEnd) s = .next (syncLevels (clearCondition 3 (s.atTime (s.faults.holdOverTime + 1000000000)))))

/-- CONTAIN: its entries, its exit, and the dump (R562, R561, R567, R81). -/
def Obligations.ContainEvents : Prop :=
  (∀ (c d p : Nat) (s : State), exec (.containEntry c d p) s = .next (syncLevels (enterContain c d p s))) ∧
  (∀ (r : EvRec) (l : List EvRec) (s : State), (s.source false 55).fifo = r :: l → exec (.watchdog) s = .next (syncLevels ((enterContain 1 (Config.freeNat s.free) 2 (s.atTime (r.time + 50000000))).takeFree))) ∧
  (∀ (k : Nat) (d : Dump) (s : State), s.faults.copying = some k → s.faults.dumps.getD k none = some d → exec (.dumpCopyComplete true) s = .next (syncLevels (raise 164 0x0D0B (leBytes 4 d.index ++ leBytes 4 (dumpLength d true))
        ((s.mapFaults fun f => { f with copying := none }).mapFaults fun f => { f with flashDump := some d })))) ∧
  (∀ (s : State), s.mode.contain = true → exec (.containExit) s = .next (syncLevels (leaveContain s)))

/-- Jobs of the security engine, the flash, the seal computation, the copier and the self-test that end (R124, R125, R522, R454, R571). -/
def Obligations.JobEnds : Prop :=
  (∀ (r q : Nat) (d : DmaJob) (s : State), (s.dmas.find? fun d => d.barge.ring == r && d.barge.seq == q) = some d → exec (.dmaTransferComplete r q) s = .next (complete d.barge (dmaMove d s).1 (refreshSurfaces
        { (dmaMove d s).2 with dmas := (dmaMove d s).2.dmas.filter fun e => !decide (e = d) }))) ∧
  (∀ (r q : Nat) (j : SealJob) (s : State), (s.seals.find? fun j => j.barge.ring == r && j.barge.seq == q) = some j → s.surfaceAt j.index = none → exec (.sealComputeComplete r q) s = .next (complete j.barge (badHandle (j.barge.pay 0 8)) { s with seals := s.seals.filter fun k => !decide (k = j) })) ∧
  (∀ (r q : Nat) (j : SealJob) (x : Surface) (w : List Word32) (t : State) (s : State), (s.seals.find? fun j => j.barge.ring == r && j.barge.seq == q) = some j → s.surfaceAt j.index = some x → x.live = true → x.handle = j.barge.pay 0 8 → x.state ≠ .lost → computeSeals x 0 x.tiles { s with seals := s.seals.filter fun k => !decide (k = j) } = (.inl w, t) → exec (.sealComputeComplete r q) s = .next (complete j.barge (.ok w.length) (t.mapSurface x.index fun x =>
        { x with sealed := true, sealBroken := false, sealWords := w, sealStoreBad := [], failedTiles := [] }))) ∧
  (∀ (j : FlashJob) (s : State), s.trust.flashJob = some j → j.config = false → exec (.flashProgramComplete true) s = .next (complete j.barge (.ok j.slot) (s.mapTrust fun t =>
        { t with flashJob := none, patches := t.patches.set j.slot { state := .loaded, bytes := j.bytes } }))) ∧
  (∀ (l : List Signing) (s : State), s.trust.signing = .manifest :: l → exec (.signingComplete) s = .next (signManifest (s.mapTrust fun t => { t with signing := l }))) ∧
  (∀ (k i : Nat) (t : TestRun) (b : Barge) (s : State), (s.faults.tests.find? fun t => t.kind == k && t.index == i && !t.preparing && (t.barge.isSome || t.offline)) = some t → t.barge = some b → t.restore = false → exec (.bistComplete k i true) s = .next (syncLevels (complete b ({ detail := 1, report := some (bistBody t true s) } : Reply)
        (endTest t (s.mapFaults fun f => { f with tests := f.tests.filter (· != t) }).takeFree.takeFree))))

/-- Towpath requests are answered (R568, R582). -/
def Obligations.Towpath : Prop :=
  (∀ (g : Byte) (s : State), exec (.towpathIdentify g) s = .next (answerTow 0x81 g (leBytes 1 0 ++ identifyBody s) s)) ∧
  (∀ (g : Byte) (s : State), exec (.towpathStatus g) s = .next (answerTow 0x82 g (leBytes 1 0 ++ statusBody s) s)) ∧
  (∀ (g : Byte) (s : State), exec (.towpathSummary g) s = .next (answerTow 0x83 g (leBytes 1 0 ++ (List.range 12).flatMap fun i => leBytes 4 (readBar0 s (0x100 + 4 * i))) s)) ∧
  (∀ (g : Byte) (l : List Byte) (n : Nat) (s : State), l.length = 7 → 1 ≤ leNat (slice l 5 2) → leNat (slice l 5 2) ≤ 4095 → sourceLength s (leNat (slice l 0 1)) = some n → leNat (slice l 1 4) + leNat (slice l 5 2) ≤ n → exec (.towpathRead g l) s = .next (answerTow 0x84 g (leBytes 1 0 ++ sourceBytes s (leNat (slice l 0 1)) (leNat (slice l 1 4)) (leNat (slice l 5 2))) s)) ∧
  (∀ (c g : Byte) (s : State), exec (.towpathBadFrame true c g) s = .next (answerTow (c.toNat ||| 0x80) g (leBytes 1 1) s)) ∧
  (∀ (c g : Byte) (s : State), exec (.towpathBadFrame false c g) s = .next (answerTow 0xFF g [] s)) ∧
  (∀ (s : State), exec (.tpCtsChange true) s = .next ((s.faults.tpQueue.foldl (fun t l => t.send (.towpath l)) s).mapFaults fun f => { f with ctsOk := true, tpQueue := [] }))

/-- A barge whose check fails completes with the status of that check and has no other effect, whatever its opcode (R77). -/
def Obligations.RefusedBarges : Prop :=
  (∀ (b : Barge) (s : State) (r : Reply), nopCheck b s = some r → exec (.nop b) s = .next (complete b r s)) ∧
  (∀ (b : Barge) (s : State) (r : Reply), identifyCheck b s = some r → exec (.identify b) s = .next (complete b r s)) ∧
  (∀ (b : Barge) (s : State) (r : Reply), statusReportCheck b s = some r → exec (.statusReport b) s = .next (complete b r s)) ∧
  (∀ (b : Barge) (s : State) (r : Reply), ringCreateCheck b s = some r → exec (.ringCreate b) s = .next (complete b r s)) ∧
  (∀ (b : Barge) (s : State) (r : Reply), ringDeleteCheck b s = some r → exec (.ringDelete b) s = .next (complete b r s)) ∧
  (∀ (b : Barge) (s : State) (r : Reply), fenceCreateCheck b s = some r → exec (.fenceCreate b) s = .next (complete b r s)) ∧
  (∀ (b : Barge) (s : State) (r : Reply), fenceDestroyCheck b s = some r → exec (.fenceDestroy b) s = .next (complete b r s)) ∧
  (∀ (b : Barge) (s : State) (r : Reply), heartbeatSetCheck b s = some r → exec (.heartbeatSet b) s = .next (syncLevels (complete b r s))) ∧
  (∀ (b : Barge) (s : State) (r : Reply), sleepCheck b s = some r → exec (.sleep b) s = .next (syncLevels (complete b r s))) ∧
  (∀ (b : Barge) (s : State) (r : Reply), depotChallengeCheck b s = some r → exec (.depotChallenge b) s = .next (complete b r s)) ∧
  (∀ (b : Barge) (s : State) (r : Reply), depotEnterCheck b s = some r → exec (.depotEnter b) s = .next (syncLevels (complete b r s))) ∧
  (∀ (b : Barge) (s : State) (r : Reply), depotExitCheck b s = some r → exec (.depotExit b) s = .next (syncLevels (complete b r s))) ∧
  (∀ (b : Barge) (s : State) (r : Reply), memAllocCheck b s = some r → exec (.memAlloc b) s = .next (complete b r s)) ∧
  (∀ (b : Barge) (s : State) (r : Reply), memFreeCheck b s = some r → exec (.memFree b) s = .next (syncLevels (complete b r s))) ∧
  (∀ (b : Barge) (s : State) (r : Reply), surfaceRegisterCheck b s = some r → exec (.surfaceRegister b) s = .next (complete b r s)) ∧
  (∀ (b : Barge) (s : State) (r : Reply), surfaceFreeCheck b s = some r → exec (.surfaceFree b) s = .next (complete b r s)) ∧
  (∀ (b : Barge) (s : State) (r : Reply), dmaUploadCheck b s = some r → exec (.dmaUpload b) s = .next (complete b r s)) ∧
  (∀ (b : Barge) (s : State) (r : Reply), dmaDownloadCheck b s = some r → exec (.dmaDownload b) s = .next (complete b r s)) ∧
  (∀ (b : Barge) (s : State) (r : Reply), surfaceSealCheck b s = some r → exec (.surfaceSeal b) s = .next (complete b r s)) ∧
  (∀ (b : Barge) (s : State) (r : Reply), surfaceUnsealCheck b s = some r → exec (.surfaceUnseal b) s = .next (complete b r s)) ∧
  (∀ (b : Barge) (s : State) (r : Reply), surfaceQueryCheck b s = some r → exec (.surfaceQuery b) s = .next (complete b r s)) ∧
  (∀ (b : Barge) (s : State) (r : Reply), layerAssignCheck b s = some r → exec (.layerAssign b) s = .next (complete b r s)) ∧
  (∀ (b : Barge) (s : State) (r : Reply), layerReleaseCheck b s = some r → exec (.layerRelease b) s = .next (complete b r s)) ∧
  (∀ (b : Barge) (s : State) (r : Reply), layerSetCheck b s = some r → exec (.layerSet b) s = .next (complete b r s)) ∧
  (∀ (b : Barge) (s : State) (r : Reply), podDefineCheck b s = some r → exec (.podDefine b) s = .next (complete b r s)) ∧
  (∀ (b : Barge) (s : State) (r : Reply), podDeleteCheck b s = some r → exec (.podDelete b) s = .next (complete b r s)) ∧
  (∀ (b : Barge) (s : State) (r : Reply), commitCheck b s = some r → exec (.commit b) s = .next (complete b r s)) ∧
  (∀ (b : Barge) (s : State) (r : Reply), damageDeclareCheck b s = some r → exec (.damageDeclare b) s = .next (complete b r s)) ∧
  (∀ (b : Barge) (s : State) (r : Reply), layerQueryCheck b s = some r → exec (.layerQuery b) s = .next (complete b r s)) ∧
  (∀ (b : Barge) (s : State) (r : Reply), pipeConfigCheck b s = some r → exec (.pipeConfig b) s = .next (syncLevels (complete b r s))) ∧
  (∀ (b : Barge) (s : State) (r : Reply), pipeRemoveCheck b s = some r → exec (.pipeRemove b) s = .next (syncLevels (complete b r s))) ∧
  (∀ (b : Barge) (s : State) (r : Reply), pipeEnableCheck b s = some r → exec (.pipeEnable b) s = .next (syncLevels (complete b r s))) ∧
  (∀ (b : Barge) (s : State) (r : Reply), pipeDisableCheck b s = some r → exec (.pipeDisable b) s = .next (syncLevels (complete b r s))) ∧
  (∀ (b : Barge) (s : State) (r : Reply), timingChangeCheck b s = some r → exec (.timingChange b) s = .next (syncLevels (complete b r s))) ∧
  (∀ (b : Barge) (s : State) (r : Reply), towSetCheck b s = some r → exec (.towSet b) s = .next (syncLevels (complete b r s))) ∧
  (∀ (b : Barge) (s : State) (r : Reply), linkStatusCheck b s = some r → exec (.linkStatus b) s = .next (complete b r s)) ∧
  (∀ (b : Barge) (s : State) (r : Reply), edidReadCheck b s = some r → exec (.edidRead b) s = .next (complete b r s)) ∧
  (∀ (b : Barge) (s : State) (r : Reply), writebackSetCheck b s = some r → exec (.writebackSet b) s = .next (syncLevels (complete b r s))) ∧
  (∀ (b : Barge) (s : State) (r : Reply), cameraDeclareCheck b s = some r → exec (.cameraDeclare b) s = .next (syncLevels (complete b r s))) ∧
  (∀ (b : Barge) (s : State) (r : Reply), cameraRemoveCheck b s = some r → exec (.cameraRemove b) s = .next (syncLevels (complete b r s))) ∧
  (∀ (b : Barge) (s : State) (r : Reply), cameraStartCheck b s = some r → exec (.cameraStart b) s = .next (syncLevels (complete b r s))) ∧
  (∀ (b : Barge) (s : State) (r : Reply), cameraStopCheck b s = some r → exec (.cameraStop b) s = .next (syncLevels (complete b r s))) ∧
  (∀ (b : Barge) (s : State) (r : Reply), cameraRingSetCheck b s = some r → exec (.cameraRingSet b) s = .next (syncLevels (complete b r s))) ∧
  (∀ (b : Barge) (s : State) (r : Reply), cameraStatusCheck b s = some r → exec (.cameraStatus b) s = .next (complete b r s)) ∧
  (∀ (b : Barge) (s : State) (r : Reply), latencyContractSetCheck b s = some r → exec (.latencyContractSet b) s = .next (syncLevels (complete b r s))) ∧
  (∀ (b : Barge) (s : State) (r : Reply), bltCopyCheck b s = some r → exec (.bltCopy b) s = .next (complete b r s)) ∧
  (∀ (b : Barge) (s : State) (r : Reply), bltFillCheck b s = some r → exec (.bltFill b) s = .next (complete b r s)) ∧
  (∀ (b : Barge) (s : State) (r : Reply), bltRop3Check b s = some r → exec (.bltRop3 b) s = .next (complete b r s)) ∧
  (∀ (b : Barge) (s : State) (r : Reply), bltMonoExpandCheck b s = some r → exec (.bltMonoExpand b) s = .next (complete b r s)) ∧
  (∀ (b : Barge) (s : State) (r : Reply), bltAlphaCheck b s = some r → exec (.bltAlpha b) s = .next (complete b r s)) ∧
  (∀ (b : Barge) (s : State) (r : Reply), bltConvertCheck b s = some r → exec (.bltConvert b) s = .next (complete b r s)) ∧
  (∀ (b : Barge) (s : State) (r : Reply), bltBatchCheck b s = some r → exec (.bltBatch b) s = .next (complete b r s)) ∧
  (∀ (b : Barge) (s : State) (r : Reply), twoDReserveCheck b s = some r → exec (.twoDReserve b) s = .next (syncLevels (complete b r s))) ∧
  (∀ (b : Barge) (s : State) (r : Reply), twoDReserveRemoveCheck b s = some r → exec (.twoDReserveRemove b) s = .next (syncLevels (complete b r s))) ∧
  (∀ (b : Barge) (s : State) (r : Reply), cvConfigCheck b s = some r → exec (.cvConfig b) s = .next (syncLevels (complete b r s))) ∧
  (∀ (b : Barge) (s : State) (r : Reply), cvDmaCheck b s = some r → exec (.cvDma b) s = .next (syncLevels (complete b r s))) ∧
  (∀ (b : Barge) (s : State) (r : Reply), cvContextSaveCheck b s = some r → exec (.cvContextSave b) s = .next (syncLevels (complete b r s))) ∧
  (∀ (b : Barge) (s : State) (r : Reply), cvContextLoadCheck b s = some r → exec (.cvContextLoad b) s = .next (syncLevels (complete b r s))) ∧
  (∀ (b : Barge) (s : State) (r : Reply), frameSignSetCheck b s = some r → exec (.frameSignSet b) s = .next (complete b r s)) ∧
  (∀ (b : Barge) (s : State) (r : Reply), cvReserveRemoveCheck b s = some r → exec (.cvReserveRemove b) s = .next (syncLevels (complete b r s))) ∧
  (∀ (b : Barge) (s : State) (r : Reply), cvReserveCheck b s = some r → exec (.cvReserve b) s = .next (syncLevels (complete b r s))) ∧
  (∀ (b : Barge) (s : State) (r : Reply), recStreamAddCheck b s = some r → exec (.recStreamAdd b) s = .next (syncLevels (complete b r s))) ∧
  (∀ (b : Barge) (s : State) (r : Reply), recStreamRemoveCheck b s = some r → exec (.recStreamRemove b) s = .next (syncLevels (complete b r s))) ∧
  (∀ (b : Barge) (s : State) (r : Reply), recBurstCheck b s = some r → exec (.recBurst b) s = .next (complete b r s)) ∧
  (∀ (b : Barge) (s : State) (r : Reply), recBurstStopCheck b s = some r → exec (.recBurstStop b) s = .next (complete b r s)) ∧
  (∀ (b : Barge) (s : State) (r : Reply), recQueryCheck b s = some r → exec (.recQuery b) s = .next (complete b r s)) ∧
  (∀ (b : Barge) (s : State) (r : Reply), storeWriteCheck b s = some r → exec (.storeWrite b) s = .next (complete b r s)) ∧
  (∀ (b : Barge) (s : State) (r : Reply), storeReadCheck b s = some r → exec (.storeRead b) s = .next (complete b r s)) ∧
  (∀ (b : Barge) (s : State) (r : Reply), programmeLoadCheck b s = some r → exec (.programmeLoad b) s = .next (complete b r s)) ∧
  (∀ (b : Barge) (s : State) (r : Reply), programmeRemoveCheck b s = some r → exec (.programmeRemove b) s = .next (syncLevels (complete b r s))) ∧
  (∀ (b : Barge) (s : State) (r : Reply), prepareRemoveCheck b s = some r → exec (.prepareRemove b) s = .next (syncLevels (complete b r s))) ∧
  (∀ (b : Barge) (s : State) (r : Reply), formatCheck b s = some r → exec (.formatDrive b) s = .next (complete b r s)) ∧
  (∀ (b : Barge) (s : State) (r : Reply), unprotectCheck b s = some r → exec (.unprotect b) s = .next (complete b r s)) ∧
  (∀ (b : Barge) (s : State) (r : Reply), qCreateCheck b s = some r → exec (.qCreate b) s = .next (complete b r s)) ∧
  (∀ (b : Barge) (s : State) (r : Reply), qDeleteCheck b s = some r → exec (.qDelete b) s = .next (complete b r s)) ∧
  (∀ (b : Barge) (s : State) (r : Reply), qQuotaSetCheck b s = some r → exec (.qQuotaSet b) s = .next (complete b r s)) ∧
  (∀ (b : Barge) (s : State) (r : Reply), qWeirSetCheck b s = some r → exec (.qWeirSet b) s = .next (complete b r s)) ∧
  (∀ (b : Barge) (s : State) (r : Reply), qFlushCheck b s = some r → exec (.qFlush b) s = .next (complete b r s)) ∧
  (∀ (b : Barge) (s : State) (r : Reply), qQueryCheck b s = some r → exec (.qQuery b) s = .next (complete b r s)) ∧
  (∀ (b : Barge) (s : State) (r : Reply), eventRingCreateCheck b s = some r → exec (.eventRingCreate b) s = .next (complete b r s)) ∧
  (∀ (b : Barge) (s : State) (r : Reply), eventRingDeleteCheck b s = some r → exec (.eventRingDelete b) s = .next (complete b r s)) ∧
  (∀ (b : Barge) (s : State) (r : Reply), eventRouteCheck b s = some r → exec (.eventRoute b) s = .next (complete b r s)) ∧
  (∀ (b : Barge) (s : State) (r : Reply), moderationSetCheck b s = some r → exec (.moderationSet b) s = .next (complete b r s)) ∧
  (∀ (b : Barge) (s : State) (r : Reply), eventMaskCheck b s = some r → exec (.eventEnable b) s = .next (complete b r s)) ∧
  (∀ (b : Barge) (s : State) (r : Reply), eventMaskCheck b s = some r → exec (.eventDisable b) s = .next (complete b r s)) ∧
  (∀ (b : Barge) (s : State) (r : Reply), eventMaskCheck b s = some r → exec (.eventMaskSources b) s = .next (complete b r s)) ∧
  (∀ (b : Barge) (s : State) (r : Reply), eventMaskCheck b s = some r → exec (.eventUnmask b) s = .next (complete b r s)) ∧
  (∀ (b : Barge) (s : State) (r : Reply), powerQueryCheck b s = some r → exec (.powerQuery b) s = .next (complete b r s)) ∧
  (∀ (b : Barge) (s : State) (r : Reply), baseplateDeclareCheck b s = some r → exec (.baseplateDeclare b) s = .next (syncLevels (complete b r s))) ∧
  (∀ (b : Barge) (s : State) (r : Reply), sprintPolicyCheck b s = some r → exec (.sprintPolicy b) s = .next (complete b r s)) ∧
  (∀ (b : Barge) (s : State) (r : Reply), schedWeightsCheck b s = some r → exec (.schedWeights b) s = .next (complete b r s)) ∧
  (∀ (b : Barge) (s : State) (r : Reply), patchLoadCheck b s = some r → exec (.patchLoad b) s = .next (complete b r s)) ∧
  (∀ (b : Barge) (s : State) (r : Reply), configImageStoreCheck b s = some r → exec (.configImageStore b) s = .next (complete b r s)) ∧
  (∀ (b : Barge) (s : State) (r : Reply), patchActivateCheck b s = some r → exec (.patchActivate b) s = .next (complete b r s)) ∧
  (∀ (b : Barge) (s : State) (r : Reply), patchDeactivateCheck b s = some r → exec (.patchDeactivate b) s = .next (complete b r s)) ∧
  (∀ (b : Barge) (s : State) (r : Reply), attestCheck b s = some r → exec (.attest b) s = .next (complete b r s)) ∧
  (∀ (b : Barge) (s : State) (r : Reply), keyRevokeCheck b s = some r → exec (.keyRevoke b) s = .next (complete b r s)) ∧
  (∀ (b : Barge) (s : State) (r : Reply), rollbackAdvanceCheck b s = some r → exec (.rollbackAdvance b) s = .next (complete b r s)) ∧
  (∀ (b : Barge) (s : State) (r : Reply), bistRunCheck b s = some r → exec (.bistRun b) s = .next (syncLevels (complete b r s))) ∧
  (∀ (b : Barge) (s : State) (r : Reply), selftestPolicyCheck b s = some r → exec (.selftestPolicy b) s = .next (syncLevels (complete b r s))) ∧
  (∀ (b : Barge) (s : State) (r : Reply), dumpReadCheck b s = some r → exec (.dumpRead b) s = .next (complete b r s)) ∧
  (∀ (b : Barge) (s : State) (r : Reply), dumpClearCheck b s = some r → exec (.dumpClear b) s = .next (syncLevels (complete b r s))) ∧
  (∀ (b : Barge) (s : State) (r : Reply), faultInjectCheck b s = some r → exec (.faultInject b) s = .next (syncLevels (complete b r s)))

/-- A channel with a configuration of Table 13-1 gives the table's check value over the nine ASCII digits, with START, no fold and FINISH (R391). -/
def Obligations.CheckValuesOfNineDigits : Prop :=
  (∀ (x : Channel) (addr : Nat),
    (([(8, 0x07, 0x00, false, 0xF4), (16, 0x1021, 0xFFFF, false, 0x29B1)] ++
      [(32, 0x04C11DB7, 0xFFFFFFFF, true, 0xCBF43926), (32, 0x1EDC6F41, 0xFFFFFFFF, true, 0xE3069283), (64, 0x42F0E1EBA9EA3693, 0xFFFFFFFFFFFFFFFF, true, 0x995DC9BBDF1939FA)]).all fun r =>
        (({ x with fold := 0, width := r.1, poly := r.2.1, init := r.2.2.1, refin := r.2.2.2.1, refout := r.2.2.2.1, invert := r.2.2.2.1 } : Channel).process
          true addr [0x31, 0x32, 0x33, 0x34, 0x35, 0x36, 0x37, 0x38, 0x39]).finish == r.2.2.2.2) = true)

/-- A BAR0 access that is not 4 bytes at a multiple of 4 or 8 bytes at a multiple of 8 is counted, reads zeros and writes nothing (R53). -/
def Obligations.BadAccesses : Prop :=
  (∀ (off w : Nat) (v : Word64) (s : State), ¬(w = 4 ∧ off % 4 = 0) ∧ ¬(w = 8 ∧ off % 8 = 0) → exec (.registerWrite 0 off w v) s = .next (s.mapCtr fun c => { c with badAccesses := inc32 c.badAccesses })) ∧
  (∀ (off w : Nat) (s : State), ¬(w = 4 ∧ off % 4 = 0) ∧ ¬(w = 8 ∧ off % 8 = 0) → readAccess0 off w s = (s.mapCtr fun c => { c with badAccesses := inc32 c.badAccesses }).mapHost fun h => { h with readData := 0 })

/-- FENCE_SIGNAL: a higher value is taken, any other is counted in FENCE_STALE, an absent fence or a 32-bit write in FENCE_BAD; every other fence and all else stays (R83, R82, R59). -/
def Obligations.FenceSignals : Prop :=
  (∀ (f : Nat) (v w : Word64) (s : State), s.fence f = some w → w < v → ∃ t, exec (.fenceSignal f true v) s = .next t ∧ t.fence f = some v ∧ (∀ g, g ≠ f → t.fence g = s.fence g) ∧ t = s.mapHost fun h => { h with fences := t.host.fences }) ∧
  (∀ (f : Nat) (v w : Word64) (s : State), s.fence f = some w → ¬ w < v → exec (.fenceSignal f true v) s = .next (s.mapCtr fun c => { c with fenceStale := inc32 c.fenceStale })) ∧
  (∀ (f : Nat) (v : Word64) (s : State), s.fence f = none → exec (.fenceSignal f true v) s = .next (s.mapCtr fun c => { c with fenceBad := inc32 c.fenceBad })) ∧
  (∀ (f : Nat) (v : Word64) (s : State), exec (.fenceSignal f false v) s = .next (s.mapCtr fun c => { c with fenceBad := inc32 c.fenceBad })) ∧
  (∀ (f : Nat) (wide : Bool) (v : Word64) (s t : State), exec (.fenceSignal f wide v) s = .next t → s.fencesRise t)

/-- The checks of a barge answer with the first one that fails, and with nothing exactly when none fails (R77). -/
def Obligations.FirstStatusApplies : Prop :=
  (∀ (l : List (Option Reply)) (r : Reply), firstFail l = some r ↔ ∃ pre post, l = pre ++ some r :: post ∧ ∀ x ∈ pre, x = none) ∧
  (∀ l : List (Option Reply), firstFail l = none ↔ ∀ x ∈ l, x = none)

/-- No command changes the queue of waiting commands or the direction straps of the links (R22, R64). -/
def Obligations.QueueOnlyPopped : Prop :=
  (∀ (c : Instr) (s t : State), s.banksWhole = true → exec c s = .next t → t.pending = s.pending ∧ t.aphyDir = s.aphyDir)

/-- Every step keeps every register bank as long as the manual makes it (R22, R60, R82, R127, R379, R416). -/
def Obligations.StepKeepsBanks : Prop :=
  (∀ s t : State, s.banksWhole = true → step s = .next t → t.banksWhole = true)

/-- A memory reads what was written last at the address, every other address reads as before, and equal contents are equal data (R61, R96). -/
def Obligations.MemoryLaws : Prop :=
  (∀ (m : List Host.Cell) (a : Nat) (v : Byte), Memory.wf m = true → Memory.read (Memory.write m a v) a = v ∧ ∀ c, c ≠ a → Memory.read (Memory.write m a v) c = Memory.read m c) ∧
  (∀ m n : List Host.Cell, Memory.wf m = true → Memory.wf n = true → (∀ a, Memory.read m a = Memory.read n a) → m = n)

/-- A run of bytes written to host memory reads back, and every byte outside the run reads as before (R72, R78, R61). -/
def Obligations.RunsOfBytes : Prop :=
  (∀ (s : State) (a : Nat) (l : List Byte), Memory.wf s.hostMem = true → (s.hostWrite a l).hostBytes a l.length = l ∧ ∀ c, c < a ∨ a + l.length ≤ c → Memory.read (s.hostWrite a l).hostMem c = Memory.read s.hostMem c)

/-- A completion record without a report lands at CQ_BASE + 32 × CQ_TAIL, and CQ_TAIL and PHASE move on; every other byte of host memory stays (R72, R73, R78). -/
def Obligations.CompletionRecordLands : Prop :=
  (∀ (x : HeldRecord) (s : State), Memory.wf s.hostMem = true → x.reply.report = none → x.barge.ring < s.host.rings.length →
    (writeRecord x true s).hostBytes ((s.ring x.barge.ring).cqBase.toNat + 32 * (s.ring x.barge.ring).cqTail) 32 =
        recordBytes x.barge x.reply (s.ring x.barge.ring).sqHead (s.ring x.barge.ring).phase ∧
      (∀ c, c < (s.ring x.barge.ring).cqBase.toNat + 32 * (s.ring x.barge.ring).cqTail ∨
          (s.ring x.barge.ring).cqBase.toNat + 32 * (s.ring x.barge.ring).cqTail + 32 ≤ c →
        Memory.read (writeRecord x true s).hostMem c = Memory.read s.hostMem c) ∧
      ((writeRecord x true s).ring x.barge.ring).cqTail = ((s.ring x.barge.ring).cqTail + 1) % 2 ^ (s.ring x.barge.ring).cqLog2 ∧
      ((writeRecord x true s).ring x.barge.ring).phase = xor (s.ring x.barge.ring).phase (decide ((s.ring x.barge.ring).cqTail + 1 = 2 ^ (s.ring x.barge.ring).cqLog2)))

/-- Completing a barge touches host memory, the host link, the events, the outputs, the count of free values and the progress of the image, and nothing else (R72, R76, R77, R79). -/
def Obligations.CompletionFrame : Prop :=
  (∀ (b : Barge) (r : Reply) (s : State),
    (complete b r s).pending = s.pending ∧ (complete b r s).time = s.time ∧ (complete b r s).mem = s.mem ∧ (complete b r s).surfaces = s.surfaces ∧
      (complete b r s).layers = s.layers ∧ (complete b r s).pods = s.pods ∧ (complete b r s).pipes = s.pipes ∧ (complete b r s).lanes = s.lanes ∧
      (complete b r s).basin = s.basin ∧ (complete b r s).links = s.links ∧ (complete b r s).cams = s.cams ∧ (complete b r s).contracts = s.contracts ∧
      (complete b r s).ledger = s.ledger ∧ (complete b r s).engines = s.engines ∧ (complete b r s).pound = s.pound ∧ (complete b r s).cv = s.cv ∧
      (complete b r s).sign = s.sign ∧ (complete b r s).recording = s.recording ∧ (complete b r s).power = s.power ∧ (complete b r s).can = s.can ∧
      (complete b r s).trust = s.trust ∧ (complete b r s).faults = s.faults ∧ (complete b r s).mode.base = s.mode.base ∧
      (complete b r s).mode.contain = s.mode.contain)

/-- An executed barge signals its fence exactly if SIGNAL_EN is set and its status is ST_OK, or another than ST_CONTAIN_ABORTED with SIGNAL_ON_ERROR set (R76). -/
def Obligations.SignalFenceOfABarge : Prop :=
  (∀ (b : Barge) (r : Reply) (s : State), r.executed = true → s.mode.contain = false →
    (complete b r s).host.fences = if b.signalEn = true ∧ (r.status = stOk ∨ b.signalOnError = true) ∧ r.status ≠ stContainAborted
      then (signalFence b.signalFence (BitVec.ofNat 64 b.signalValue) s).host.fences else s.host.fences)

/-- FLUSH frees every item of the queue, clears the mark and sets FLUSH_PENDING, voids an open item, and touches no other queue (R370, R368, R369). -/
def Obligations.FlushFreesAll : Prop :=
  (∀ (q : Nat) (s : State), q < s.pound.queues.length →
    ((qFlush q s).queue q).items = [] ∧ ((qFlush q s).queue q).held = [] ∧ ((qFlush q s).queue q).level = 0 ∧ ((qFlush q s).queue q).markOff = none ∧
      ((qFlush q s).queue q).readOff = 0 ∧ ((qFlush q s).queue q).flushPending = true ∧
      ((qFlush q s).queue q).itemsOut = satAdd top32 (s.queue q).itemsOut ((s.queue q).held ++ (s.queue q).items.filter (·.ended)).length ∧
      ((qFlush q s).queue q).voided = satAdd top32 (s.queue q).voided (if (s.queue q).openItem.isSome then 1 else 0) ∧
      (∀ i ∈ (s.queue q).held ++ (s.queue q).items, ∀ c ∈ i.cells, c ∉ (qFlush q s).pound.used) ∧
      ∀ p, p ≠ q → (qFlush q s).queue p = s.queue p)

/-- While FLUSH_PENDING is set, whichever of its six operations a consumer makes next returns FLUSHED, clears FLUSH_PENDING and does nothing else (R371). -/
def Obligations.FlushedOnce : Prop :=
  (∀ (q c n : Nat) (s : State), c ≠ 0 → (s.queue q).state ≠ .absent → (s.queue q).consumer = c → (s.queue q).flushPending = true →
    ∀ i ∈ [Instr.get q c n, .nextItem q c, .dropRemainder q c, .markRead q c, .rewind q c, .release q c],
      exec i s = .next ((s.mapQueue q fun x => { x with flushPending := false }).mapPound fun p => { p with code := .flushed })) ∧
  (∀ (q c n : Nat) (i : Item) (s : State), c ≠ 0 → (s.queue q).state ≠ .absent → (s.queue q).consumer = c → (s.queue q).flushPending = false →
    (s.queue q).current = some i → (s.queue q).readOff < i.bytes.length → s.pound.badCells = [] →
      ∃ t, exec (.get q c n) s = .next t ∧ t.pound.code = .ok ∧ t.pound.got = (i.bytes.drop (s.queue q).readOff).take n)

/-- A PUT never takes a queue past its QUOTA; a PUT that the quota or the common area does not allow takes nothing, is counted and returns FULL (R361, R368). -/
def Obligations.PutKeepsQuota : Prop :=
  (∀ (q : Nat) (l : List Byte) (s : State), (s.queue q).level ≤ (s.queue q).quota → ((qPut q l s).queue q).level ≤ ((qPut q l s).queue q).quota) ∧
  (∀ (q : Nat) (l : List Byte) (s : State), (s.queue q).voiding = false → ((s.queue q).openItem.getD {}).bytes.length + l.length ≤ 256 * (s.queue q).maxItem →
    (s.queue q).quota < (s.queue q).level + (ceilDiv (((s.queue q).openItem.getD {}).bytes.length + l.length) 256 - ((s.queue q).openItem.getD {}).cells.length) ∨
      ((s.queue q).reserved = false ∧ (if q = 0 ∨ q = 16 then 4096 else 3840) < commonHeld s.pound + (ceilDiv (((s.queue q).openItem.getD {}).bytes.length + l.length) 256 - ((s.queue q).openItem.getD {}).cells.length)) →
    qPut q l s = (s.mapQueue q fun x => { x with quotaRefusals := inc32 x.quotaRefusals }).mapPound fun p => { p with code := .full })

/-- Among the sources that may be taken, the concentrators take one of highest PRIORITY, the lowest-numbered on a tie (R425, R428). -/
def Obligations.BestSource : Prop :=
  (∀ (l : List (Nat × Source)), (l.map (·.1)).Pairwise (· < ·) → (bestSource l = none ↔ l = []) ∧
    ∀ x, bestSource l = some x → x ∈ l ∧ ∀ y ∈ l, y.2.priority ≤ x.2.priority ∧ (y.2.priority = x.2.priority → x.1 ≤ y.1))

/-- An edge assertion is kept while its enabled source holds fewer than 4 records, is lost and counted when it holds 4, and does nothing to a disabled source (R420, R430). -/
def Obligations.RecordsLost : Prop :=
  (∀ (n code : Nat) (l : List Byte) (s : State), levelKind n = false → n ≤ 175 → n < s.events.host.length →
    ∃ t, exec (.edgeAssertion true n code l) s = .next t ∧ (∀ m, m ≠ n → t.source true m = s.source true m) ∧
      ((s.source true n).enabled = false → t.source true n = s.source true n) ∧
      ((s.source true n).enabled = true → (s.source true n).fifo.length + (s.source true n).passed.length < 4 →
        (t.source true n).fifo = (s.source true n).fifo ++ [{ code, source := n, time := s.time, data := padTo 20 l }] ∧
          (t.source true n).pending = true ∧ (t.source true n).lost = (s.source true n).lost) ∧
      ((s.source true n).enabled = true → 4 ≤ (s.source true n).fifo.length + (s.source true n).passed.length →
        (t.source true n).fifo = (s.source true n).fifo ∧ (t.source true n).lost = inc32 (s.source true n).lost))

/-- BLT_ROP3 combines pattern, source and destination bit by bit: bit b of the result is bit 4P[b] + 2S[b] + D[b] of the code (R335). -/
def Obligations.Rop3Bits : Prop :=
  (∀ (rop p q d n b : Nat), (rop3 rop p q d n).testBit b =
    (decide (b < n) && rop.testBit (4 * (p.testBit b).toNat + 2 * (q.testBit b).toNat + (d.testBit b).toNat)))

/-- No two device addresses share a place: channel, page and byte in the page determine the address, within the bounds of the memory (R96). -/
def Obligations.PagesHoldDistinctBytes : Prop :=
  (∀ a c : Nat, pageOf a = pageOf c → a % 61440 % 1920 = c % 61440 % 1920 → a = c) ∧
  (∀ a : Nat, a < 131072 * 61440 → (pageOf a).1 < 8 ∧ (pageOf a).2 < 524288) ∧
  (pageOf 100000000 = (7, 6505))

/-- No host access, DMA or 2D operation reaches the basin (R23). -/
def Obligations.BasinIsOutOfReach : Prop :=
  (∀ s t : State, (∀ bar off w v, exec (.registerWrite bar off w v) s = .next t → t.basin = s.basin) ∧
    (∀ off l, exec (.bar2Write off l) s = .next t → t.basin = s.basin) ∧ (∀ off n, exec (.bar2Read off n) s = .next t → t.basin = s.basin) ∧
    (∀ bar off, exec (.lowWordRead bar off) s = .next t → t.basin = s.basin) ∧
    (∀ b, exec (.dmaUpload b) s = .next t → t.basin = s.basin) ∧ (∀ b, exec (.dmaDownload b) s = .next t → t.basin = s.basin) ∧
    (∀ r q, exec (.dmaTransferComplete r q) s = .next t → t.basin = s.basin) ∧
    (∀ e, exec (.twoDJobBegin e) s = .next t → t.basin = s.basin) ∧ (∀ e x, exec (.twoDBurst e x) s = .next t → t.basin = s.basin) ∧
    (∀ e, exec (.twoDLineLanded e) s = .next t → t.basin = s.basin) ∧ (∀ e, exec (.twoDJobComplete e) s = .next t → t.basin = s.basin))

/-- A Function Level Reset deletes rings 1 to 15, returns ring 0 to ABSENT with its set-up kept, clears MSI-X and keeps fences and every admitted set-up (R50). -/
def Obligations.FunctionResetFrame : Prop :=
  (∀ s : State, s.banksWhole = true → ∃ t, exec .functionLevelReset s = .next t ∧ (∀ n, 1 ≤ n → n ≤ 15 → (t.ring n).state = .absent) ∧
    (t.ring 0).state = .absent ∧ (t.ring 0).adminEnable = false ∧ (t.ring 0).sqHead = 0 ∧ (t.ring 0).sqTail = 0 ∧ (t.ring 0).cqTail = 0 ∧ (t.ring 0).cqHead = 0 ∧
    (t.ring 0).nextSeq = 0 ∧ (t.ring 0).err = 0 ∧ (t.ring 0).inflight = [] ∧ (t.ring 0).results = [] ∧ (t.ring 0).sqBase = (s.ring 0).sqBase ∧
    (t.ring 0).cqBase = (s.ring 0).cqBase ∧ (t.ring 0).cqLog2 = (s.ring 0).cqLog2 ∧ (t.ring 0).sqLog2 = (s.ring 0).sqLog2 ∧ (t.ring 0).vector = (s.ring 0).vector ∧
    (t.ring 0).weight = (s.ring 0).weight ∧ t.host.msixEnable = false ∧ t.host.msixFnMask = false ∧ t.host.ctr.hostResets = inc32 s.host.ctr.hostResets ∧
    t.host.fences = s.host.fences ∧ t.pipes = s.pipes ∧ t.layers = s.layers ∧ t.pods = s.pods ∧ t.surfaces = s.surfaces ∧ t.cams = s.cams ∧ t.contracts = s.contracts ∧
    t.recording = s.recording ∧ t.ledger = s.ledger ∧ t.lanes = s.lanes ∧ t.basin = s.basin ∧ t.links = s.links ∧ t.engines = s.engines ∧ t.cv = s.cv ∧
    t.sign = s.sign ∧ t.mem = s.mem)

/-- POD_DELETE leaves the members of the pod in no pod; an absent pod gives ST_BAD_HANDLE, one with a carried change ST_BUSY, and nothing else happens (R158). -/
def Obligations.PodDelete : Prop :=
  (∀ (b : Barge) (s : State), b.payloadLen = 8 → reservedBytes b 1 7 = none → b.pay 0 1 ≤ 63 →
    ((s.pod (b.pay 0 1)).live = false → exec (.podDelete b) s = .next (complete b (.err stBadHandle (b.pay 0 1)) s)) ∧
      ((s.pod (b.pay 0 1)).live = true → (s.pipes.any fun q => q.carried.any fun g => g.pod == b.pay 0 1) = true →
        ∃ d, exec (.podDelete b) s = .next (complete b (.err stBusy d) s)) ∧
      ((s.pod (b.pay 0 1)).live = true → (s.pipes.any fun q => q.carried.any fun g => g.pod == b.pay 0 1) = false →
        exec (.podDelete b) s = .next (complete b .ok (s.mapPod (b.pay 0 1) fun _ => {})) ∧
          ((s.mapPod (b.pay 0 1) fun _ => {}).pod (b.pay 0 1)).live = false ∧ ((s.mapPod (b.pay 0 1) fun _ => {}).pod (b.pay 0 1)).members = [] ∧
          ∀ k, k ≠ b.pay 0 1 → (s.mapPod (b.pay 0 1) fun _ => {}).pod k = s.pod k))

/-- FENCE_CREATE creates the fence with INITIAL_VALUE, every other fence as before; on an existing fence it completes with ST_STATE and does nothing else (R88). -/
def Obligations.FenceCreate : Prop :=
  (∀ (b : Barge) (s : State), b.payloadLen = 16 → reservedBytes b 2 6 = none → b.pay 0 2 ≤ 255 →
    (s.fence (b.pay 0 2) = none → exec (.fenceCreate b) s =
      .next (complete b .ok (s.mapHost fun h => { h with fences := h.fences.set (b.pay 0 2) (some (BitVec.ofNat 64 (b.pay 8 8))) }))) ∧
    ((s.fence (b.pay 0 2)).isSome = true → ∃ d, exec (.fenceCreate b) s = .next (complete b (.err stState d) s))) ∧
  (∀ (f : Nat) (v : Word64) (s : State), f < s.host.fences.length →
    (s.mapHost fun h => { h with fences := h.fences.set f (some v) }).fence f = some v ∧
      ∀ g, g ≠ f → (s.mapHost fun h => { h with fences := h.fences.set f (some v) }).fence g = s.fence g)
end

