-- ==== Sys2Proof/Laws/State.lean ====
section
/-! SUPPORT. What each named update of the state changes, field by field, and what an indexed part reads after an update, so that no
later proof unfolds a record update. -/
namespace Sys2Proof.Laws

open Sys2Proof Sys2Proof.Machine

set_option Elab.async false

/-! ### State.mapHost -/

@[simp] theorem mapHost_pending (s : State) (f) : (s.mapHost f).pending = s.pending := rfl
@[simp] theorem mapHost_time (s : State) (f) : (s.mapHost f).time = s.time := rfl
@[simp] theorem mapHost_free (s : State) (f) : (s.mapHost f).free = s.free := rfl
@[simp] theorem mapHost_out (s : State) (f) : (s.mapHost f).out = s.out := rfl
@[simp] theorem mapHost_hostMem (s : State) (f) : (s.mapHost f).hostMem = s.hostMem := rfl
@[simp] theorem mapHost_aphyDir (s : State) (f) : (s.mapHost f).aphyDir = s.aphyDir := rfl
@[simp] theorem mapHost_mode (s : State) (f) : (s.mapHost f).mode = s.mode := rfl
@[simp] theorem mapHost_host (s : State) (f) : (s.mapHost f).host = f s.host := rfl
@[simp] theorem mapHost_mem (s : State) (f) : (s.mapHost f).mem = s.mem := rfl
@[simp] theorem mapHost_surfaces (s : State) (f) : (s.mapHost f).surfaces = s.surfaces := rfl
@[simp] theorem mapHost_seals (s : State) (f) : (s.mapHost f).seals = s.seals := rfl
@[simp] theorem mapHost_dmas (s : State) (f) : (s.mapHost f).dmas = s.dmas := rfl
@[simp] theorem mapHost_layers (s : State) (f) : (s.mapHost f).layers = s.layers := rfl
@[simp] theorem mapHost_pods (s : State) (f) : (s.mapHost f).pods = s.pods := rfl
@[simp] theorem mapHost_pipes (s : State) (f) : (s.mapHost f).pipes = s.pipes := rfl
@[simp] theorem mapHost_lanes (s : State) (f) : (s.mapHost f).lanes = s.lanes := rfl
@[simp] theorem mapHost_basin (s : State) (f) : (s.mapHost f).basin = s.basin := rfl
@[simp] theorem mapHost_links (s : State) (f) : (s.mapHost f).links = s.links := rfl
@[simp] theorem mapHost_cams (s : State) (f) : (s.mapHost f).cams = s.cams := rfl
@[simp] theorem mapHost_contracts (s : State) (f) : (s.mapHost f).contracts = s.contracts := rfl
@[simp] theorem mapHost_ledger (s : State) (f) : (s.mapHost f).ledger = s.ledger := rfl
@[simp] theorem mapHost_engines (s : State) (f) : (s.mapHost f).engines = s.engines := rfl
@[simp] theorem mapHost_pound (s : State) (f) : (s.mapHost f).pound = s.pound := rfl
@[simp] theorem mapHost_cv (s : State) (f) : (s.mapHost f).cv = s.cv := rfl
@[simp] theorem mapHost_sign (s : State) (f) : (s.mapHost f).sign = s.sign := rfl
@[simp] theorem mapHost_events (s : State) (f) : (s.mapHost f).events = s.events := rfl
@[simp] theorem mapHost_recording (s : State) (f) : (s.mapHost f).recording = s.recording := rfl
@[simp] theorem mapHost_power (s : State) (f) : (s.mapHost f).power = s.power := rfl
@[simp] theorem mapHost_can (s : State) (f) : (s.mapHost f).can = s.can := rfl
@[simp] theorem mapHost_trust (s : State) (f) : (s.mapHost f).trust = s.trust := rfl
@[simp] theorem mapHost_faults (s : State) (f) : (s.mapHost f).faults = s.faults := rfl

/-! ### State.mapRing -/

@[simp] theorem mapRing_pending (s : State) (n f) : (s.mapRing n f).pending = s.pending := rfl
@[simp] theorem mapRing_time (s : State) (n f) : (s.mapRing n f).time = s.time := rfl
@[simp] theorem mapRing_free (s : State) (n f) : (s.mapRing n f).free = s.free := rfl
@[simp] theorem mapRing_out (s : State) (n f) : (s.mapRing n f).out = s.out := rfl
@[simp] theorem mapRing_hostMem (s : State) (n f) : (s.mapRing n f).hostMem = s.hostMem := rfl
@[simp] theorem mapRing_aphyDir (s : State) (n f) : (s.mapRing n f).aphyDir = s.aphyDir := rfl
@[simp] theorem mapRing_mode (s : State) (n f) : (s.mapRing n f).mode = s.mode := rfl
@[simp] theorem mapRing_host (s : State) (n f) : (s.mapRing n f).host = { s.host with rings := s.host.rings.modify n f } := rfl
@[simp] theorem mapRing_mem (s : State) (n f) : (s.mapRing n f).mem = s.mem := rfl
@[simp] theorem mapRing_surfaces (s : State) (n f) : (s.mapRing n f).surfaces = s.surfaces := rfl
@[simp] theorem mapRing_seals (s : State) (n f) : (s.mapRing n f).seals = s.seals := rfl
@[simp] theorem mapRing_dmas (s : State) (n f) : (s.mapRing n f).dmas = s.dmas := rfl
@[simp] theorem mapRing_layers (s : State) (n f) : (s.mapRing n f).layers = s.layers := rfl
@[simp] theorem mapRing_pods (s : State) (n f) : (s.mapRing n f).pods = s.pods := rfl
@[simp] theorem mapRing_pipes (s : State) (n f) : (s.mapRing n f).pipes = s.pipes := rfl
@[simp] theorem mapRing_lanes (s : State) (n f) : (s.mapRing n f).lanes = s.lanes := rfl
@[simp] theorem mapRing_basin (s : State) (n f) : (s.mapRing n f).basin = s.basin := rfl
@[simp] theorem mapRing_links (s : State) (n f) : (s.mapRing n f).links = s.links := rfl
@[simp] theorem mapRing_cams (s : State) (n f) : (s.mapRing n f).cams = s.cams := rfl
@[simp] theorem mapRing_contracts (s : State) (n f) : (s.mapRing n f).contracts = s.contracts := rfl
@[simp] theorem mapRing_ledger (s : State) (n f) : (s.mapRing n f).ledger = s.ledger := rfl
@[simp] theorem mapRing_engines (s : State) (n f) : (s.mapRing n f).engines = s.engines := rfl
@[simp] theorem mapRing_pound (s : State) (n f) : (s.mapRing n f).pound = s.pound := rfl
@[simp] theorem mapRing_cv (s : State) (n f) : (s.mapRing n f).cv = s.cv := rfl
@[simp] theorem mapRing_sign (s : State) (n f) : (s.mapRing n f).sign = s.sign := rfl
@[simp] theorem mapRing_events (s : State) (n f) : (s.mapRing n f).events = s.events := rfl
@[simp] theorem mapRing_recording (s : State) (n f) : (s.mapRing n f).recording = s.recording := rfl
@[simp] theorem mapRing_power (s : State) (n f) : (s.mapRing n f).power = s.power := rfl
@[simp] theorem mapRing_can (s : State) (n f) : (s.mapRing n f).can = s.can := rfl
@[simp] theorem mapRing_trust (s : State) (n f) : (s.mapRing n f).trust = s.trust := rfl
@[simp] theorem mapRing_faults (s : State) (n f) : (s.mapRing n f).faults = s.faults := rfl

/-! ### State.mapCtr -/

@[simp] theorem mapCtr_pending (s : State) (f) : (s.mapCtr f).pending = s.pending := rfl
@[simp] theorem mapCtr_time (s : State) (f) : (s.mapCtr f).time = s.time := rfl
@[simp] theorem mapCtr_free (s : State) (f) : (s.mapCtr f).free = s.free := rfl
@[simp] theorem mapCtr_out (s : State) (f) : (s.mapCtr f).out = s.out := rfl
@[simp] theorem mapCtr_hostMem (s : State) (f) : (s.mapCtr f).hostMem = s.hostMem := rfl
@[simp] theorem mapCtr_aphyDir (s : State) (f) : (s.mapCtr f).aphyDir = s.aphyDir := rfl
@[simp] theorem mapCtr_mode (s : State) (f) : (s.mapCtr f).mode = s.mode := rfl
@[simp] theorem mapCtr_host (s : State) (f) : (s.mapCtr f).host = { s.host with ctr := f s.host.ctr } := rfl
@[simp] theorem mapCtr_mem (s : State) (f) : (s.mapCtr f).mem = s.mem := rfl
@[simp] theorem mapCtr_surfaces (s : State) (f) : (s.mapCtr f).surfaces = s.surfaces := rfl
@[simp] theorem mapCtr_seals (s : State) (f) : (s.mapCtr f).seals = s.seals := rfl
@[simp] theorem mapCtr_dmas (s : State) (f) : (s.mapCtr f).dmas = s.dmas := rfl
@[simp] theorem mapCtr_layers (s : State) (f) : (s.mapCtr f).layers = s.layers := rfl
@[simp] theorem mapCtr_pods (s : State) (f) : (s.mapCtr f).pods = s.pods := rfl
@[simp] theorem mapCtr_pipes (s : State) (f) : (s.mapCtr f).pipes = s.pipes := rfl
@[simp] theorem mapCtr_lanes (s : State) (f) : (s.mapCtr f).lanes = s.lanes := rfl
@[simp] theorem mapCtr_basin (s : State) (f) : (s.mapCtr f).basin = s.basin := rfl
@[simp] theorem mapCtr_links (s : State) (f) : (s.mapCtr f).links = s.links := rfl
@[simp] theorem mapCtr_cams (s : State) (f) : (s.mapCtr f).cams = s.cams := rfl
@[simp] theorem mapCtr_contracts (s : State) (f) : (s.mapCtr f).contracts = s.contracts := rfl
@[simp] theorem mapCtr_ledger (s : State) (f) : (s.mapCtr f).ledger = s.ledger := rfl
@[simp] theorem mapCtr_engines (s : State) (f) : (s.mapCtr f).engines = s.engines := rfl
@[simp] theorem mapCtr_pound (s : State) (f) : (s.mapCtr f).pound = s.pound := rfl
@[simp] theorem mapCtr_cv (s : State) (f) : (s.mapCtr f).cv = s.cv := rfl
@[simp] theorem mapCtr_sign (s : State) (f) : (s.mapCtr f).sign = s.sign := rfl
@[simp] theorem mapCtr_events (s : State) (f) : (s.mapCtr f).events = s.events := rfl
@[simp] theorem mapCtr_recording (s : State) (f) : (s.mapCtr f).recording = s.recording := rfl
@[simp] theorem mapCtr_power (s : State) (f) : (s.mapCtr f).power = s.power := rfl
@[simp] theorem mapCtr_can (s : State) (f) : (s.mapCtr f).can = s.can := rfl
@[simp] theorem mapCtr_trust (s : State) (f) : (s.mapCtr f).trust = s.trust := rfl
@[simp] theorem mapCtr_faults (s : State) (f) : (s.mapCtr f).faults = s.faults := rfl

/-! ### State.mapPipeCtr -/

@[simp] theorem mapPipeCtr_pending (s : State) (p f) : (s.mapPipeCtr p f).pending = s.pending := rfl
@[simp] theorem mapPipeCtr_time (s : State) (p f) : (s.mapPipeCtr p f).time = s.time := rfl
@[simp] theorem mapPipeCtr_free (s : State) (p f) : (s.mapPipeCtr p f).free = s.free := rfl
@[simp] theorem mapPipeCtr_out (s : State) (p f) : (s.mapPipeCtr p f).out = s.out := rfl
@[simp] theorem mapPipeCtr_hostMem (s : State) (p f) : (s.mapPipeCtr p f).hostMem = s.hostMem := rfl
@[simp] theorem mapPipeCtr_aphyDir (s : State) (p f) : (s.mapPipeCtr p f).aphyDir = s.aphyDir := rfl
@[simp] theorem mapPipeCtr_mode (s : State) (p f) : (s.mapPipeCtr p f).mode = s.mode := rfl
@[simp] theorem mapPipeCtr_host (s : State) (p f) : (s.mapPipeCtr p f).host = { s.host with ctr := { s.host.ctr with pipe := s.host.ctr.pipe.modify p f } } := rfl
@[simp] theorem mapPipeCtr_mem (s : State) (p f) : (s.mapPipeCtr p f).mem = s.mem := rfl
@[simp] theorem mapPipeCtr_surfaces (s : State) (p f) : (s.mapPipeCtr p f).surfaces = s.surfaces := rfl
@[simp] theorem mapPipeCtr_seals (s : State) (p f) : (s.mapPipeCtr p f).seals = s.seals := rfl
@[simp] theorem mapPipeCtr_dmas (s : State) (p f) : (s.mapPipeCtr p f).dmas = s.dmas := rfl
@[simp] theorem mapPipeCtr_layers (s : State) (p f) : (s.mapPipeCtr p f).layers = s.layers := rfl
@[simp] theorem mapPipeCtr_pods (s : State) (p f) : (s.mapPipeCtr p f).pods = s.pods := rfl
@[simp] theorem mapPipeCtr_pipes (s : State) (p f) : (s.mapPipeCtr p f).pipes = s.pipes := rfl
@[simp] theorem mapPipeCtr_lanes (s : State) (p f) : (s.mapPipeCtr p f).lanes = s.lanes := rfl
@[simp] theorem mapPipeCtr_basin (s : State) (p f) : (s.mapPipeCtr p f).basin = s.basin := rfl
@[simp] theorem mapPipeCtr_links (s : State) (p f) : (s.mapPipeCtr p f).links = s.links := rfl
@[simp] theorem mapPipeCtr_cams (s : State) (p f) : (s.mapPipeCtr p f).cams = s.cams := rfl
@[simp] theorem mapPipeCtr_contracts (s : State) (p f) : (s.mapPipeCtr p f).contracts = s.contracts := rfl
@[simp] theorem mapPipeCtr_ledger (s : State) (p f) : (s.mapPipeCtr p f).ledger = s.ledger := rfl
@[simp] theorem mapPipeCtr_engines (s : State) (p f) : (s.mapPipeCtr p f).engines = s.engines := rfl
@[simp] theorem mapPipeCtr_pound (s : State) (p f) : (s.mapPipeCtr p f).pound = s.pound := rfl
@[simp] theorem mapPipeCtr_cv (s : State) (p f) : (s.mapPipeCtr p f).cv = s.cv := rfl
@[simp] theorem mapPipeCtr_sign (s : State) (p f) : (s.mapPipeCtr p f).sign = s.sign := rfl
@[simp] theorem mapPipeCtr_events (s : State) (p f) : (s.mapPipeCtr p f).events = s.events := rfl
@[simp] theorem mapPipeCtr_recording (s : State) (p f) : (s.mapPipeCtr p f).recording = s.recording := rfl
@[simp] theorem mapPipeCtr_power (s : State) (p f) : (s.mapPipeCtr p f).power = s.power := rfl
@[simp] theorem mapPipeCtr_can (s : State) (p f) : (s.mapPipeCtr p f).can = s.can := rfl
@[simp] theorem mapPipeCtr_trust (s : State) (p f) : (s.mapPipeCtr p f).trust = s.trust := rfl
@[simp] theorem mapPipeCtr_faults (s : State) (p f) : (s.mapPipeCtr p f).faults = s.faults := rfl

/-! ### State.mapCamCtr -/

@[simp] theorem mapCamCtr_pending (s : State) (i f) : (s.mapCamCtr i f).pending = s.pending := rfl
@[simp] theorem mapCamCtr_time (s : State) (i f) : (s.mapCamCtr i f).time = s.time := rfl
@[simp] theorem mapCamCtr_free (s : State) (i f) : (s.mapCamCtr i f).free = s.free := rfl
@[simp] theorem mapCamCtr_out (s : State) (i f) : (s.mapCamCtr i f).out = s.out := rfl
@[simp] theorem mapCamCtr_hostMem (s : State) (i f) : (s.mapCamCtr i f).hostMem = s.hostMem := rfl
@[simp] theorem mapCamCtr_aphyDir (s : State) (i f) : (s.mapCamCtr i f).aphyDir = s.aphyDir := rfl
@[simp] theorem mapCamCtr_mode (s : State) (i f) : (s.mapCamCtr i f).mode = s.mode := rfl
@[simp] theorem mapCamCtr_host (s : State) (i f) : (s.mapCamCtr i f).host = { s.host with ctr := { s.host.ctr with cam := s.host.ctr.cam.modify i f } } := rfl
@[simp] theorem mapCamCtr_mem (s : State) (i f) : (s.mapCamCtr i f).mem = s.mem := rfl
@[simp] theorem mapCamCtr_surfaces (s : State) (i f) : (s.mapCamCtr i f).surfaces = s.surfaces := rfl
@[simp] theorem mapCamCtr_seals (s : State) (i f) : (s.mapCamCtr i f).seals = s.seals := rfl
@[simp] theorem mapCamCtr_dmas (s : State) (i f) : (s.mapCamCtr i f).dmas = s.dmas := rfl
@[simp] theorem mapCamCtr_layers (s : State) (i f) : (s.mapCamCtr i f).layers = s.layers := rfl
@[simp] theorem mapCamCtr_pods (s : State) (i f) : (s.mapCamCtr i f).pods = s.pods := rfl
@[simp] theorem mapCamCtr_pipes (s : State) (i f) : (s.mapCamCtr i f).pipes = s.pipes := rfl
@[simp] theorem mapCamCtr_lanes (s : State) (i f) : (s.mapCamCtr i f).lanes = s.lanes := rfl
@[simp] theorem mapCamCtr_basin (s : State) (i f) : (s.mapCamCtr i f).basin = s.basin := rfl
@[simp] theorem mapCamCtr_links (s : State) (i f) : (s.mapCamCtr i f).links = s.links := rfl
@[simp] theorem mapCamCtr_cams (s : State) (i f) : (s.mapCamCtr i f).cams = s.cams := rfl
@[simp] theorem mapCamCtr_contracts (s : State) (i f) : (s.mapCamCtr i f).contracts = s.contracts := rfl
@[simp] theorem mapCamCtr_ledger (s : State) (i f) : (s.mapCamCtr i f).ledger = s.ledger := rfl
@[simp] theorem mapCamCtr_engines (s : State) (i f) : (s.mapCamCtr i f).engines = s.engines := rfl
@[simp] theorem mapCamCtr_pound (s : State) (i f) : (s.mapCamCtr i f).pound = s.pound := rfl
@[simp] theorem mapCamCtr_cv (s : State) (i f) : (s.mapCamCtr i f).cv = s.cv := rfl
@[simp] theorem mapCamCtr_sign (s : State) (i f) : (s.mapCamCtr i f).sign = s.sign := rfl
@[simp] theorem mapCamCtr_events (s : State) (i f) : (s.mapCamCtr i f).events = s.events := rfl
@[simp] theorem mapCamCtr_recording (s : State) (i f) : (s.mapCamCtr i f).recording = s.recording := rfl
@[simp] theorem mapCamCtr_power (s : State) (i f) : (s.mapCamCtr i f).power = s.power := rfl
@[simp] theorem mapCamCtr_can (s : State) (i f) : (s.mapCamCtr i f).can = s.can := rfl
@[simp] theorem mapCamCtr_trust (s : State) (i f) : (s.mapCamCtr i f).trust = s.trust := rfl
@[simp] theorem mapCamCtr_faults (s : State) (i f) : (s.mapCamCtr i f).faults = s.faults := rfl

/-! ### State.mapMem -/

@[simp] theorem mapMem_pending (s : State) (f) : (s.mapMem f).pending = s.pending := rfl
@[simp] theorem mapMem_time (s : State) (f) : (s.mapMem f).time = s.time := rfl
@[simp] theorem mapMem_free (s : State) (f) : (s.mapMem f).free = s.free := rfl
@[simp] theorem mapMem_out (s : State) (f) : (s.mapMem f).out = s.out := rfl
@[simp] theorem mapMem_hostMem (s : State) (f) : (s.mapMem f).hostMem = s.hostMem := rfl
@[simp] theorem mapMem_aphyDir (s : State) (f) : (s.mapMem f).aphyDir = s.aphyDir := rfl
@[simp] theorem mapMem_mode (s : State) (f) : (s.mapMem f).mode = s.mode := rfl
@[simp] theorem mapMem_host (s : State) (f) : (s.mapMem f).host = s.host := rfl
@[simp] theorem mapMem_mem (s : State) (f) : (s.mapMem f).mem = f s.mem := rfl
@[simp] theorem mapMem_surfaces (s : State) (f) : (s.mapMem f).surfaces = s.surfaces := rfl
@[simp] theorem mapMem_seals (s : State) (f) : (s.mapMem f).seals = s.seals := rfl
@[simp] theorem mapMem_dmas (s : State) (f) : (s.mapMem f).dmas = s.dmas := rfl
@[simp] theorem mapMem_layers (s : State) (f) : (s.mapMem f).layers = s.layers := rfl
@[simp] theorem mapMem_pods (s : State) (f) : (s.mapMem f).pods = s.pods := rfl
@[simp] theorem mapMem_pipes (s : State) (f) : (s.mapMem f).pipes = s.pipes := rfl
@[simp] theorem mapMem_lanes (s : State) (f) : (s.mapMem f).lanes = s.lanes := rfl
@[simp] theorem mapMem_basin (s : State) (f) : (s.mapMem f).basin = s.basin := rfl
@[simp] theorem mapMem_links (s : State) (f) : (s.mapMem f).links = s.links := rfl
@[simp] theorem mapMem_cams (s : State) (f) : (s.mapMem f).cams = s.cams := rfl
@[simp] theorem mapMem_contracts (s : State) (f) : (s.mapMem f).contracts = s.contracts := rfl
@[simp] theorem mapMem_ledger (s : State) (f) : (s.mapMem f).ledger = s.ledger := rfl
@[simp] theorem mapMem_engines (s : State) (f) : (s.mapMem f).engines = s.engines := rfl
@[simp] theorem mapMem_pound (s : State) (f) : (s.mapMem f).pound = s.pound := rfl
@[simp] theorem mapMem_cv (s : State) (f) : (s.mapMem f).cv = s.cv := rfl
@[simp] theorem mapMem_sign (s : State) (f) : (s.mapMem f).sign = s.sign := rfl
@[simp] theorem mapMem_events (s : State) (f) : (s.mapMem f).events = s.events := rfl
@[simp] theorem mapMem_recording (s : State) (f) : (s.mapMem f).recording = s.recording := rfl
@[simp] theorem mapMem_power (s : State) (f) : (s.mapMem f).power = s.power := rfl
@[simp] theorem mapMem_can (s : State) (f) : (s.mapMem f).can = s.can := rfl
@[simp] theorem mapMem_trust (s : State) (f) : (s.mapMem f).trust = s.trust := rfl
@[simp] theorem mapMem_faults (s : State) (f) : (s.mapMem f).faults = s.faults := rfl

/-! ### State.mapLayer -/

@[simp] theorem mapLayer_pending (s : State) (n f) : (s.mapLayer n f).pending = s.pending := rfl
@[simp] theorem mapLayer_time (s : State) (n f) : (s.mapLayer n f).time = s.time := rfl
@[simp] theorem mapLayer_free (s : State) (n f) : (s.mapLayer n f).free = s.free := rfl
@[simp] theorem mapLayer_out (s : State) (n f) : (s.mapLayer n f).out = s.out := rfl
@[simp] theorem mapLayer_hostMem (s : State) (n f) : (s.mapLayer n f).hostMem = s.hostMem := rfl
@[simp] theorem mapLayer_aphyDir (s : State) (n f) : (s.mapLayer n f).aphyDir = s.aphyDir := rfl
@[simp] theorem mapLayer_mode (s : State) (n f) : (s.mapLayer n f).mode = s.mode := rfl
@[simp] theorem mapLayer_host (s : State) (n f) : (s.mapLayer n f).host = s.host := rfl
@[simp] theorem mapLayer_mem (s : State) (n f) : (s.mapLayer n f).mem = s.mem := rfl
@[simp] theorem mapLayer_surfaces (s : State) (n f) : (s.mapLayer n f).surfaces = s.surfaces := rfl
@[simp] theorem mapLayer_seals (s : State) (n f) : (s.mapLayer n f).seals = s.seals := rfl
@[simp] theorem mapLayer_dmas (s : State) (n f) : (s.mapLayer n f).dmas = s.dmas := rfl
@[simp] theorem mapLayer_layers (s : State) (n f) : (s.mapLayer n f).layers = s.layers.modify n f := rfl
@[simp] theorem mapLayer_pods (s : State) (n f) : (s.mapLayer n f).pods = s.pods := rfl
@[simp] theorem mapLayer_pipes (s : State) (n f) : (s.mapLayer n f).pipes = s.pipes := rfl
@[simp] theorem mapLayer_lanes (s : State) (n f) : (s.mapLayer n f).lanes = s.lanes := rfl
@[simp] theorem mapLayer_basin (s : State) (n f) : (s.mapLayer n f).basin = s.basin := rfl
@[simp] theorem mapLayer_links (s : State) (n f) : (s.mapLayer n f).links = s.links := rfl
@[simp] theorem mapLayer_cams (s : State) (n f) : (s.mapLayer n f).cams = s.cams := rfl
@[simp] theorem mapLayer_contracts (s : State) (n f) : (s.mapLayer n f).contracts = s.contracts := rfl
@[simp] theorem mapLayer_ledger (s : State) (n f) : (s.mapLayer n f).ledger = s.ledger := rfl
@[simp] theorem mapLayer_engines (s : State) (n f) : (s.mapLayer n f).engines = s.engines := rfl
@[simp] theorem mapLayer_pound (s : State) (n f) : (s.mapLayer n f).pound = s.pound := rfl
@[simp] theorem mapLayer_cv (s : State) (n f) : (s.mapLayer n f).cv = s.cv := rfl
@[simp] theorem mapLayer_sign (s : State) (n f) : (s.mapLayer n f).sign = s.sign := rfl
@[simp] theorem mapLayer_events (s : State) (n f) : (s.mapLayer n f).events = s.events := rfl
@[simp] theorem mapLayer_recording (s : State) (n f) : (s.mapLayer n f).recording = s.recording := rfl
@[simp] theorem mapLayer_power (s : State) (n f) : (s.mapLayer n f).power = s.power := rfl
@[simp] theorem mapLayer_can (s : State) (n f) : (s.mapLayer n f).can = s.can := rfl
@[simp] theorem mapLayer_trust (s : State) (n f) : (s.mapLayer n f).trust = s.trust := rfl
@[simp] theorem mapLayer_faults (s : State) (n f) : (s.mapLayer n f).faults = s.faults := rfl

/-! ### State.mapPod -/

@[simp] theorem mapPod_pending (s : State) (n f) : (s.mapPod n f).pending = s.pending := rfl
@[simp] theorem mapPod_time (s : State) (n f) : (s.mapPod n f).time = s.time := rfl
@[simp] theorem mapPod_free (s : State) (n f) : (s.mapPod n f).free = s.free := rfl
@[simp] theorem mapPod_out (s : State) (n f) : (s.mapPod n f).out = s.out := rfl
@[simp] theorem mapPod_hostMem (s : State) (n f) : (s.mapPod n f).hostMem = s.hostMem := rfl
@[simp] theorem mapPod_aphyDir (s : State) (n f) : (s.mapPod n f).aphyDir = s.aphyDir := rfl
@[simp] theorem mapPod_mode (s : State) (n f) : (s.mapPod n f).mode = s.mode := rfl
@[simp] theorem mapPod_host (s : State) (n f) : (s.mapPod n f).host = s.host := rfl
@[simp] theorem mapPod_mem (s : State) (n f) : (s.mapPod n f).mem = s.mem := rfl
@[simp] theorem mapPod_surfaces (s : State) (n f) : (s.mapPod n f).surfaces = s.surfaces := rfl
@[simp] theorem mapPod_seals (s : State) (n f) : (s.mapPod n f).seals = s.seals := rfl
@[simp] theorem mapPod_dmas (s : State) (n f) : (s.mapPod n f).dmas = s.dmas := rfl
@[simp] theorem mapPod_layers (s : State) (n f) : (s.mapPod n f).layers = s.layers := rfl
@[simp] theorem mapPod_pods (s : State) (n f) : (s.mapPod n f).pods = s.pods.modify n f := rfl
@[simp] theorem mapPod_pipes (s : State) (n f) : (s.mapPod n f).pipes = s.pipes := rfl
@[simp] theorem mapPod_lanes (s : State) (n f) : (s.mapPod n f).lanes = s.lanes := rfl
@[simp] theorem mapPod_basin (s : State) (n f) : (s.mapPod n f).basin = s.basin := rfl
@[simp] theorem mapPod_links (s : State) (n f) : (s.mapPod n f).links = s.links := rfl
@[simp] theorem mapPod_cams (s : State) (n f) : (s.mapPod n f).cams = s.cams := rfl
@[simp] theorem mapPod_contracts (s : State) (n f) : (s.mapPod n f).contracts = s.contracts := rfl
@[simp] theorem mapPod_ledger (s : State) (n f) : (s.mapPod n f).ledger = s.ledger := rfl
@[simp] theorem mapPod_engines (s : State) (n f) : (s.mapPod n f).engines = s.engines := rfl
@[simp] theorem mapPod_pound (s : State) (n f) : (s.mapPod n f).pound = s.pound := rfl
@[simp] theorem mapPod_cv (s : State) (n f) : (s.mapPod n f).cv = s.cv := rfl
@[simp] theorem mapPod_sign (s : State) (n f) : (s.mapPod n f).sign = s.sign := rfl
@[simp] theorem mapPod_events (s : State) (n f) : (s.mapPod n f).events = s.events := rfl
@[simp] theorem mapPod_recording (s : State) (n f) : (s.mapPod n f).recording = s.recording := rfl
@[simp] theorem mapPod_power (s : State) (n f) : (s.mapPod n f).power = s.power := rfl
@[simp] theorem mapPod_can (s : State) (n f) : (s.mapPod n f).can = s.can := rfl
@[simp] theorem mapPod_trust (s : State) (n f) : (s.mapPod n f).trust = s.trust := rfl
@[simp] theorem mapPod_faults (s : State) (n f) : (s.mapPod n f).faults = s.faults := rfl

/-! ### State.mapPipe -/

@[simp] theorem mapPipe_pending (s : State) (p f) : (s.mapPipe p f).pending = s.pending := rfl
@[simp] theorem mapPipe_time (s : State) (p f) : (s.mapPipe p f).time = s.time := rfl
@[simp] theorem mapPipe_free (s : State) (p f) : (s.mapPipe p f).free = s.free := rfl
@[simp] theorem mapPipe_out (s : State) (p f) : (s.mapPipe p f).out = s.out := rfl
@[simp] theorem mapPipe_hostMem (s : State) (p f) : (s.mapPipe p f).hostMem = s.hostMem := rfl
@[simp] theorem mapPipe_aphyDir (s : State) (p f) : (s.mapPipe p f).aphyDir = s.aphyDir := rfl
@[simp] theorem mapPipe_mode (s : State) (p f) : (s.mapPipe p f).mode = s.mode := rfl
@[simp] theorem mapPipe_host (s : State) (p f) : (s.mapPipe p f).host = s.host := rfl
@[simp] theorem mapPipe_mem (s : State) (p f) : (s.mapPipe p f).mem = s.mem := rfl
@[simp] theorem mapPipe_surfaces (s : State) (p f) : (s.mapPipe p f).surfaces = s.surfaces := rfl
@[simp] theorem mapPipe_seals (s : State) (p f) : (s.mapPipe p f).seals = s.seals := rfl
@[simp] theorem mapPipe_dmas (s : State) (p f) : (s.mapPipe p f).dmas = s.dmas := rfl
@[simp] theorem mapPipe_layers (s : State) (p f) : (s.mapPipe p f).layers = s.layers := rfl
@[simp] theorem mapPipe_pods (s : State) (p f) : (s.mapPipe p f).pods = s.pods := rfl
@[simp] theorem mapPipe_pipes (s : State) (p f) : (s.mapPipe p f).pipes = s.pipes.modify p f := rfl
@[simp] theorem mapPipe_lanes (s : State) (p f) : (s.mapPipe p f).lanes = s.lanes := rfl
@[simp] theorem mapPipe_basin (s : State) (p f) : (s.mapPipe p f).basin = s.basin := rfl
@[simp] theorem mapPipe_links (s : State) (p f) : (s.mapPipe p f).links = s.links := rfl
@[simp] theorem mapPipe_cams (s : State) (p f) : (s.mapPipe p f).cams = s.cams := rfl
@[simp] theorem mapPipe_contracts (s : State) (p f) : (s.mapPipe p f).contracts = s.contracts := rfl
@[simp] theorem mapPipe_ledger (s : State) (p f) : (s.mapPipe p f).ledger = s.ledger := rfl
@[simp] theorem mapPipe_engines (s : State) (p f) : (s.mapPipe p f).engines = s.engines := rfl
@[simp] theorem mapPipe_pound (s : State) (p f) : (s.mapPipe p f).pound = s.pound := rfl
@[simp] theorem mapPipe_cv (s : State) (p f) : (s.mapPipe p f).cv = s.cv := rfl
@[simp] theorem mapPipe_sign (s : State) (p f) : (s.mapPipe p f).sign = s.sign := rfl
@[simp] theorem mapPipe_events (s : State) (p f) : (s.mapPipe p f).events = s.events := rfl
@[simp] theorem mapPipe_recording (s : State) (p f) : (s.mapPipe p f).recording = s.recording := rfl
@[simp] theorem mapPipe_power (s : State) (p f) : (s.mapPipe p f).power = s.power := rfl
@[simp] theorem mapPipe_can (s : State) (p f) : (s.mapPipe p f).can = s.can := rfl
@[simp] theorem mapPipe_trust (s : State) (p f) : (s.mapPipe p f).trust = s.trust := rfl
@[simp] theorem mapPipe_faults (s : State) (p f) : (s.mapPipe p f).faults = s.faults := rfl

/-! ### State.mapHalf -/

@[simp] theorem mapHalf_pending (s : State) (p h f) : (s.mapHalf p h f).pending = s.pending := rfl
@[simp] theorem mapHalf_time (s : State) (p h f) : (s.mapHalf p h f).time = s.time := rfl
@[simp] theorem mapHalf_free (s : State) (p h f) : (s.mapHalf p h f).free = s.free := rfl
@[simp] theorem mapHalf_out (s : State) (p h f) : (s.mapHalf p h f).out = s.out := rfl
@[simp] theorem mapHalf_hostMem (s : State) (p h f) : (s.mapHalf p h f).hostMem = s.hostMem := rfl
@[simp] theorem mapHalf_aphyDir (s : State) (p h f) : (s.mapHalf p h f).aphyDir = s.aphyDir := rfl
@[simp] theorem mapHalf_mode (s : State) (p h f) : (s.mapHalf p h f).mode = s.mode := rfl
@[simp] theorem mapHalf_host (s : State) (p h f) : (s.mapHalf p h f).host = s.host := rfl
@[simp] theorem mapHalf_mem (s : State) (p h f) : (s.mapHalf p h f).mem = s.mem := rfl
@[simp] theorem mapHalf_surfaces (s : State) (p h f) : (s.mapHalf p h f).surfaces = s.surfaces := rfl
@[simp] theorem mapHalf_seals (s : State) (p h f) : (s.mapHalf p h f).seals = s.seals := rfl
@[simp] theorem mapHalf_dmas (s : State) (p h f) : (s.mapHalf p h f).dmas = s.dmas := rfl
@[simp] theorem mapHalf_layers (s : State) (p h f) : (s.mapHalf p h f).layers = s.layers := rfl
@[simp] theorem mapHalf_pods (s : State) (p h f) : (s.mapHalf p h f).pods = s.pods := rfl
@[simp] theorem mapHalf_pipes (s : State) (p h f) : (s.mapHalf p h f).pipes = s.pipes.modify p fun x => { x with halves := x.halves.modify h f } := rfl
@[simp] theorem mapHalf_lanes (s : State) (p h f) : (s.mapHalf p h f).lanes = s.lanes := rfl
@[simp] theorem mapHalf_basin (s : State) (p h f) : (s.mapHalf p h f).basin = s.basin := rfl
@[simp] theorem mapHalf_links (s : State) (p h f) : (s.mapHalf p h f).links = s.links := rfl
@[simp] theorem mapHalf_cams (s : State) (p h f) : (s.mapHalf p h f).cams = s.cams := rfl
@[simp] theorem mapHalf_contracts (s : State) (p h f) : (s.mapHalf p h f).contracts = s.contracts := rfl
@[simp] theorem mapHalf_ledger (s : State) (p h f) : (s.mapHalf p h f).ledger = s.ledger := rfl
@[simp] theorem mapHalf_engines (s : State) (p h f) : (s.mapHalf p h f).engines = s.engines := rfl
@[simp] theorem mapHalf_pound (s : State) (p h f) : (s.mapHalf p h f).pound = s.pound := rfl
@[simp] theorem mapHalf_cv (s : State) (p h f) : (s.mapHalf p h f).cv = s.cv := rfl
@[simp] theorem mapHalf_sign (s : State) (p h f) : (s.mapHalf p h f).sign = s.sign := rfl
@[simp] theorem mapHalf_events (s : State) (p h f) : (s.mapHalf p h f).events = s.events := rfl
@[simp] theorem mapHalf_recording (s : State) (p h f) : (s.mapHalf p h f).recording = s.recording := rfl
@[simp] theorem mapHalf_power (s : State) (p h f) : (s.mapHalf p h f).power = s.power := rfl
@[simp] theorem mapHalf_can (s : State) (p h f) : (s.mapHalf p h f).can = s.can := rfl
@[simp] theorem mapHalf_trust (s : State) (p h f) : (s.mapHalf p h f).trust = s.trust := rfl
@[simp] theorem mapHalf_faults (s : State) (p h f) : (s.mapHalf p h f).faults = s.faults := rfl

/-! ### State.mapLink -/

@[simp] theorem mapLink_pending (s : State) (l f) : (s.mapLink l f).pending = s.pending := rfl
@[simp] theorem mapLink_time (s : State) (l f) : (s.mapLink l f).time = s.time := rfl
@[simp] theorem mapLink_free (s : State) (l f) : (s.mapLink l f).free = s.free := rfl
@[simp] theorem mapLink_out (s : State) (l f) : (s.mapLink l f).out = s.out := rfl
@[simp] theorem mapLink_hostMem (s : State) (l f) : (s.mapLink l f).hostMem = s.hostMem := rfl
@[simp] theorem mapLink_aphyDir (s : State) (l f) : (s.mapLink l f).aphyDir = s.aphyDir := rfl
@[simp] theorem mapLink_mode (s : State) (l f) : (s.mapLink l f).mode = s.mode := rfl
@[simp] theorem mapLink_host (s : State) (l f) : (s.mapLink l f).host = s.host := rfl
@[simp] theorem mapLink_mem (s : State) (l f) : (s.mapLink l f).mem = s.mem := rfl
@[simp] theorem mapLink_surfaces (s : State) (l f) : (s.mapLink l f).surfaces = s.surfaces := rfl
@[simp] theorem mapLink_seals (s : State) (l f) : (s.mapLink l f).seals = s.seals := rfl
@[simp] theorem mapLink_dmas (s : State) (l f) : (s.mapLink l f).dmas = s.dmas := rfl
@[simp] theorem mapLink_layers (s : State) (l f) : (s.mapLink l f).layers = s.layers := rfl
@[simp] theorem mapLink_pods (s : State) (l f) : (s.mapLink l f).pods = s.pods := rfl
@[simp] theorem mapLink_pipes (s : State) (l f) : (s.mapLink l f).pipes = s.pipes := rfl
@[simp] theorem mapLink_lanes (s : State) (l f) : (s.mapLink l f).lanes = s.lanes := rfl
@[simp] theorem mapLink_basin (s : State) (l f) : (s.mapLink l f).basin = s.basin := rfl
@[simp] theorem mapLink_links (s : State) (l f) : (s.mapLink l f).links = s.links.modify l f := rfl
@[simp] theorem mapLink_cams (s : State) (l f) : (s.mapLink l f).cams = s.cams := rfl
@[simp] theorem mapLink_contracts (s : State) (l f) : (s.mapLink l f).contracts = s.contracts := rfl
@[simp] theorem mapLink_ledger (s : State) (l f) : (s.mapLink l f).ledger = s.ledger := rfl
@[simp] theorem mapLink_engines (s : State) (l f) : (s.mapLink l f).engines = s.engines := rfl
@[simp] theorem mapLink_pound (s : State) (l f) : (s.mapLink l f).pound = s.pound := rfl
@[simp] theorem mapLink_cv (s : State) (l f) : (s.mapLink l f).cv = s.cv := rfl
@[simp] theorem mapLink_sign (s : State) (l f) : (s.mapLink l f).sign = s.sign := rfl
@[simp] theorem mapLink_events (s : State) (l f) : (s.mapLink l f).events = s.events := rfl
@[simp] theorem mapLink_recording (s : State) (l f) : (s.mapLink l f).recording = s.recording := rfl
@[simp] theorem mapLink_power (s : State) (l f) : (s.mapLink l f).power = s.power := rfl
@[simp] theorem mapLink_can (s : State) (l f) : (s.mapLink l f).can = s.can := rfl
@[simp] theorem mapLink_trust (s : State) (l f) : (s.mapLink l f).trust = s.trust := rfl
@[simp] theorem mapLink_faults (s : State) (l f) : (s.mapLink l f).faults = s.faults := rfl

/-! ### State.mapCam -/

@[simp] theorem mapCam_pending (s : State) (i f) : (s.mapCam i f).pending = s.pending := rfl
@[simp] theorem mapCam_time (s : State) (i f) : (s.mapCam i f).time = s.time := rfl
@[simp] theorem mapCam_free (s : State) (i f) : (s.mapCam i f).free = s.free := rfl
@[simp] theorem mapCam_out (s : State) (i f) : (s.mapCam i f).out = s.out := rfl
@[simp] theorem mapCam_hostMem (s : State) (i f) : (s.mapCam i f).hostMem = s.hostMem := rfl
@[simp] theorem mapCam_aphyDir (s : State) (i f) : (s.mapCam i f).aphyDir = s.aphyDir := rfl
@[simp] theorem mapCam_mode (s : State) (i f) : (s.mapCam i f).mode = s.mode := rfl
@[simp] theorem mapCam_host (s : State) (i f) : (s.mapCam i f).host = s.host := rfl
@[simp] theorem mapCam_mem (s : State) (i f) : (s.mapCam i f).mem = s.mem := rfl
@[simp] theorem mapCam_surfaces (s : State) (i f) : (s.mapCam i f).surfaces = s.surfaces := rfl
@[simp] theorem mapCam_seals (s : State) (i f) : (s.mapCam i f).seals = s.seals := rfl
@[simp] theorem mapCam_dmas (s : State) (i f) : (s.mapCam i f).dmas = s.dmas := rfl
@[simp] theorem mapCam_layers (s : State) (i f) : (s.mapCam i f).layers = s.layers := rfl
@[simp] theorem mapCam_pods (s : State) (i f) : (s.mapCam i f).pods = s.pods := rfl
@[simp] theorem mapCam_pipes (s : State) (i f) : (s.mapCam i f).pipes = s.pipes := rfl
@[simp] theorem mapCam_lanes (s : State) (i f) : (s.mapCam i f).lanes = s.lanes := rfl
@[simp] theorem mapCam_basin (s : State) (i f) : (s.mapCam i f).basin = s.basin := rfl
@[simp] theorem mapCam_links (s : State) (i f) : (s.mapCam i f).links = s.links := rfl
@[simp] theorem mapCam_cams (s : State) (i f) : (s.mapCam i f).cams = s.cams.modify i f := rfl
@[simp] theorem mapCam_contracts (s : State) (i f) : (s.mapCam i f).contracts = s.contracts := rfl
@[simp] theorem mapCam_ledger (s : State) (i f) : (s.mapCam i f).ledger = s.ledger := rfl
@[simp] theorem mapCam_engines (s : State) (i f) : (s.mapCam i f).engines = s.engines := rfl
@[simp] theorem mapCam_pound (s : State) (i f) : (s.mapCam i f).pound = s.pound := rfl
@[simp] theorem mapCam_cv (s : State) (i f) : (s.mapCam i f).cv = s.cv := rfl
@[simp] theorem mapCam_sign (s : State) (i f) : (s.mapCam i f).sign = s.sign := rfl
@[simp] theorem mapCam_events (s : State) (i f) : (s.mapCam i f).events = s.events := rfl
@[simp] theorem mapCam_recording (s : State) (i f) : (s.mapCam i f).recording = s.recording := rfl
@[simp] theorem mapCam_power (s : State) (i f) : (s.mapCam i f).power = s.power := rfl
@[simp] theorem mapCam_can (s : State) (i f) : (s.mapCam i f).can = s.can := rfl
@[simp] theorem mapCam_trust (s : State) (i f) : (s.mapCam i f).trust = s.trust := rfl
@[simp] theorem mapCam_faults (s : State) (i f) : (s.mapCam i f).faults = s.faults := rfl

/-! ### State.mapEngine -/

@[simp] theorem mapEngine_pending (s : State) (e f) : (s.mapEngine e f).pending = s.pending := rfl
@[simp] theorem mapEngine_time (s : State) (e f) : (s.mapEngine e f).time = s.time := rfl
@[simp] theorem mapEngine_free (s : State) (e f) : (s.mapEngine e f).free = s.free := rfl
@[simp] theorem mapEngine_out (s : State) (e f) : (s.mapEngine e f).out = s.out := rfl
@[simp] theorem mapEngine_hostMem (s : State) (e f) : (s.mapEngine e f).hostMem = s.hostMem := rfl
@[simp] theorem mapEngine_aphyDir (s : State) (e f) : (s.mapEngine e f).aphyDir = s.aphyDir := rfl
@[simp] theorem mapEngine_mode (s : State) (e f) : (s.mapEngine e f).mode = s.mode := rfl
@[simp] theorem mapEngine_host (s : State) (e f) : (s.mapEngine e f).host = s.host := rfl
@[simp] theorem mapEngine_mem (s : State) (e f) : (s.mapEngine e f).mem = s.mem := rfl
@[simp] theorem mapEngine_surfaces (s : State) (e f) : (s.mapEngine e f).surfaces = s.surfaces := rfl
@[simp] theorem mapEngine_seals (s : State) (e f) : (s.mapEngine e f).seals = s.seals := rfl
@[simp] theorem mapEngine_dmas (s : State) (e f) : (s.mapEngine e f).dmas = s.dmas := rfl
@[simp] theorem mapEngine_layers (s : State) (e f) : (s.mapEngine e f).layers = s.layers := rfl
@[simp] theorem mapEngine_pods (s : State) (e f) : (s.mapEngine e f).pods = s.pods := rfl
@[simp] theorem mapEngine_pipes (s : State) (e f) : (s.mapEngine e f).pipes = s.pipes := rfl
@[simp] theorem mapEngine_lanes (s : State) (e f) : (s.mapEngine e f).lanes = s.lanes := rfl
@[simp] theorem mapEngine_basin (s : State) (e f) : (s.mapEngine e f).basin = s.basin := rfl
@[simp] theorem mapEngine_links (s : State) (e f) : (s.mapEngine e f).links = s.links := rfl
@[simp] theorem mapEngine_cams (s : State) (e f) : (s.mapEngine e f).cams = s.cams := rfl
@[simp] theorem mapEngine_contracts (s : State) (e f) : (s.mapEngine e f).contracts = s.contracts := rfl
@[simp] theorem mapEngine_ledger (s : State) (e f) : (s.mapEngine e f).ledger = s.ledger := rfl
@[simp] theorem mapEngine_engines (s : State) (e f) : (s.mapEngine e f).engines = s.engines.modify e f := rfl
@[simp] theorem mapEngine_pound (s : State) (e f) : (s.mapEngine e f).pound = s.pound := rfl
@[simp] theorem mapEngine_cv (s : State) (e f) : (s.mapEngine e f).cv = s.cv := rfl
@[simp] theorem mapEngine_sign (s : State) (e f) : (s.mapEngine e f).sign = s.sign := rfl
@[simp] theorem mapEngine_events (s : State) (e f) : (s.mapEngine e f).events = s.events := rfl
@[simp] theorem mapEngine_recording (s : State) (e f) : (s.mapEngine e f).recording = s.recording := rfl
@[simp] theorem mapEngine_power (s : State) (e f) : (s.mapEngine e f).power = s.power := rfl
@[simp] theorem mapEngine_can (s : State) (e f) : (s.mapEngine e f).can = s.can := rfl
@[simp] theorem mapEngine_trust (s : State) (e f) : (s.mapEngine e f).trust = s.trust := rfl
@[simp] theorem mapEngine_faults (s : State) (e f) : (s.mapEngine e f).faults = s.faults := rfl

/-! ### State.mapChan -/

@[simp] theorem mapChan_pending (s : State) (c f) : (s.mapChan c f).pending = s.pending := rfl
@[simp] theorem mapChan_time (s : State) (c f) : (s.mapChan c f).time = s.time := rfl
@[simp] theorem mapChan_free (s : State) (c f) : (s.mapChan c f).free = s.free := rfl
@[simp] theorem mapChan_out (s : State) (c f) : (s.mapChan c f).out = s.out := rfl
@[simp] theorem mapChan_hostMem (s : State) (c f) : (s.mapChan c f).hostMem = s.hostMem := rfl
@[simp] theorem mapChan_aphyDir (s : State) (c f) : (s.mapChan c f).aphyDir = s.aphyDir := rfl
@[simp] theorem mapChan_mode (s : State) (c f) : (s.mapChan c f).mode = s.mode := rfl
@[simp] theorem mapChan_host (s : State) (c f) : (s.mapChan c f).host = s.host := rfl
@[simp] theorem mapChan_mem (s : State) (c f) : (s.mapChan c f).mem = s.mem := rfl
@[simp] theorem mapChan_surfaces (s : State) (c f) : (s.mapChan c f).surfaces = s.surfaces := rfl
@[simp] theorem mapChan_seals (s : State) (c f) : (s.mapChan c f).seals = s.seals := rfl
@[simp] theorem mapChan_dmas (s : State) (c f) : (s.mapChan c f).dmas = s.dmas := rfl
@[simp] theorem mapChan_layers (s : State) (c f) : (s.mapChan c f).layers = s.layers := rfl
@[simp] theorem mapChan_pods (s : State) (c f) : (s.mapChan c f).pods = s.pods := rfl
@[simp] theorem mapChan_pipes (s : State) (c f) : (s.mapChan c f).pipes = s.pipes := rfl
@[simp] theorem mapChan_lanes (s : State) (c f) : (s.mapChan c f).lanes = s.lanes := rfl
@[simp] theorem mapChan_basin (s : State) (c f) : (s.mapChan c f).basin = s.basin := rfl
@[simp] theorem mapChan_links (s : State) (c f) : (s.mapChan c f).links = s.links := rfl
@[simp] theorem mapChan_cams (s : State) (c f) : (s.mapChan c f).cams = s.cams := rfl
@[simp] theorem mapChan_contracts (s : State) (c f) : (s.mapChan c f).contracts = s.contracts := rfl
@[simp] theorem mapChan_ledger (s : State) (c f) : (s.mapChan c f).ledger = s.ledger := rfl
@[simp] theorem mapChan_engines (s : State) (c f) : (s.mapChan c f).engines = s.engines := rfl
@[simp] theorem mapChan_pound (s : State) (c f) : (s.mapChan c f).pound = s.pound := rfl
@[simp] theorem mapChan_cv (s : State) (c f) : (s.mapChan c f).cv = s.cv.modify c f := rfl
@[simp] theorem mapChan_sign (s : State) (c f) : (s.mapChan c f).sign = s.sign := rfl
@[simp] theorem mapChan_events (s : State) (c f) : (s.mapChan c f).events = s.events := rfl
@[simp] theorem mapChan_recording (s : State) (c f) : (s.mapChan c f).recording = s.recording := rfl
@[simp] theorem mapChan_power (s : State) (c f) : (s.mapChan c f).power = s.power := rfl
@[simp] theorem mapChan_can (s : State) (c f) : (s.mapChan c f).can = s.can := rfl
@[simp] theorem mapChan_trust (s : State) (c f) : (s.mapChan c f).trust = s.trust := rfl
@[simp] theorem mapChan_faults (s : State) (c f) : (s.mapChan c f).faults = s.faults := rfl

/-! ### State.mapSign -/

@[simp] theorem mapSign_pending (s : State) (l f) : (s.mapSign l f).pending = s.pending := rfl
@[simp] theorem mapSign_time (s : State) (l f) : (s.mapSign l f).time = s.time := rfl
@[simp] theorem mapSign_free (s : State) (l f) : (s.mapSign l f).free = s.free := rfl
@[simp] theorem mapSign_out (s : State) (l f) : (s.mapSign l f).out = s.out := rfl
@[simp] theorem mapSign_hostMem (s : State) (l f) : (s.mapSign l f).hostMem = s.hostMem := rfl
@[simp] theorem mapSign_aphyDir (s : State) (l f) : (s.mapSign l f).aphyDir = s.aphyDir := rfl
@[simp] theorem mapSign_mode (s : State) (l f) : (s.mapSign l f).mode = s.mode := rfl
@[simp] theorem mapSign_host (s : State) (l f) : (s.mapSign l f).host = s.host := rfl
@[simp] theorem mapSign_mem (s : State) (l f) : (s.mapSign l f).mem = s.mem := rfl
@[simp] theorem mapSign_surfaces (s : State) (l f) : (s.mapSign l f).surfaces = s.surfaces := rfl
@[simp] theorem mapSign_seals (s : State) (l f) : (s.mapSign l f).seals = s.seals := rfl
@[simp] theorem mapSign_dmas (s : State) (l f) : (s.mapSign l f).dmas = s.dmas := rfl
@[simp] theorem mapSign_layers (s : State) (l f) : (s.mapSign l f).layers = s.layers := rfl
@[simp] theorem mapSign_pods (s : State) (l f) : (s.mapSign l f).pods = s.pods := rfl
@[simp] theorem mapSign_pipes (s : State) (l f) : (s.mapSign l f).pipes = s.pipes := rfl
@[simp] theorem mapSign_lanes (s : State) (l f) : (s.mapSign l f).lanes = s.lanes := rfl
@[simp] theorem mapSign_basin (s : State) (l f) : (s.mapSign l f).basin = s.basin := rfl
@[simp] theorem mapSign_links (s : State) (l f) : (s.mapSign l f).links = s.links := rfl
@[simp] theorem mapSign_cams (s : State) (l f) : (s.mapSign l f).cams = s.cams := rfl
@[simp] theorem mapSign_contracts (s : State) (l f) : (s.mapSign l f).contracts = s.contracts := rfl
@[simp] theorem mapSign_ledger (s : State) (l f) : (s.mapSign l f).ledger = s.ledger := rfl
@[simp] theorem mapSign_engines (s : State) (l f) : (s.mapSign l f).engines = s.engines := rfl
@[simp] theorem mapSign_pound (s : State) (l f) : (s.mapSign l f).pound = s.pound := rfl
@[simp] theorem mapSign_cv (s : State) (l f) : (s.mapSign l f).cv = s.cv := rfl
@[simp] theorem mapSign_sign (s : State) (l f) : (s.mapSign l f).sign = s.sign.modify l f := rfl
@[simp] theorem mapSign_events (s : State) (l f) : (s.mapSign l f).events = s.events := rfl
@[simp] theorem mapSign_recording (s : State) (l f) : (s.mapSign l f).recording = s.recording := rfl
@[simp] theorem mapSign_power (s : State) (l f) : (s.mapSign l f).power = s.power := rfl
@[simp] theorem mapSign_can (s : State) (l f) : (s.mapSign l f).can = s.can := rfl
@[simp] theorem mapSign_trust (s : State) (l f) : (s.mapSign l f).trust = s.trust := rfl
@[simp] theorem mapSign_faults (s : State) (l f) : (s.mapSign l f).faults = s.faults := rfl

/-! ### State.mapEvents -/

@[simp] theorem mapEvents_pending (s : State) (f) : (s.mapEvents f).pending = s.pending := rfl
@[simp] theorem mapEvents_time (s : State) (f) : (s.mapEvents f).time = s.time := rfl
@[simp] theorem mapEvents_free (s : State) (f) : (s.mapEvents f).free = s.free := rfl
@[simp] theorem mapEvents_out (s : State) (f) : (s.mapEvents f).out = s.out := rfl
@[simp] theorem mapEvents_hostMem (s : State) (f) : (s.mapEvents f).hostMem = s.hostMem := rfl
@[simp] theorem mapEvents_aphyDir (s : State) (f) : (s.mapEvents f).aphyDir = s.aphyDir := rfl
@[simp] theorem mapEvents_mode (s : State) (f) : (s.mapEvents f).mode = s.mode := rfl
@[simp] theorem mapEvents_host (s : State) (f) : (s.mapEvents f).host = s.host := rfl
@[simp] theorem mapEvents_mem (s : State) (f) : (s.mapEvents f).mem = s.mem := rfl
@[simp] theorem mapEvents_surfaces (s : State) (f) : (s.mapEvents f).surfaces = s.surfaces := rfl
@[simp] theorem mapEvents_seals (s : State) (f) : (s.mapEvents f).seals = s.seals := rfl
@[simp] theorem mapEvents_dmas (s : State) (f) : (s.mapEvents f).dmas = s.dmas := rfl
@[simp] theorem mapEvents_layers (s : State) (f) : (s.mapEvents f).layers = s.layers := rfl
@[simp] theorem mapEvents_pods (s : State) (f) : (s.mapEvents f).pods = s.pods := rfl
@[simp] theorem mapEvents_pipes (s : State) (f) : (s.mapEvents f).pipes = s.pipes := rfl
@[simp] theorem mapEvents_lanes (s : State) (f) : (s.mapEvents f).lanes = s.lanes := rfl
@[simp] theorem mapEvents_basin (s : State) (f) : (s.mapEvents f).basin = s.basin := rfl
@[simp] theorem mapEvents_links (s : State) (f) : (s.mapEvents f).links = s.links := rfl
@[simp] theorem mapEvents_cams (s : State) (f) : (s.mapEvents f).cams = s.cams := rfl
@[simp] theorem mapEvents_contracts (s : State) (f) : (s.mapEvents f).contracts = s.contracts := rfl
@[simp] theorem mapEvents_ledger (s : State) (f) : (s.mapEvents f).ledger = s.ledger := rfl
@[simp] theorem mapEvents_engines (s : State) (f) : (s.mapEvents f).engines = s.engines := rfl
@[simp] theorem mapEvents_pound (s : State) (f) : (s.mapEvents f).pound = s.pound := rfl
@[simp] theorem mapEvents_cv (s : State) (f) : (s.mapEvents f).cv = s.cv := rfl
@[simp] theorem mapEvents_sign (s : State) (f) : (s.mapEvents f).sign = s.sign := rfl
@[simp] theorem mapEvents_events (s : State) (f) : (s.mapEvents f).events = f s.events := rfl
@[simp] theorem mapEvents_recording (s : State) (f) : (s.mapEvents f).recording = s.recording := rfl
@[simp] theorem mapEvents_power (s : State) (f) : (s.mapEvents f).power = s.power := rfl
@[simp] theorem mapEvents_can (s : State) (f) : (s.mapEvents f).can = s.can := rfl
@[simp] theorem mapEvents_trust (s : State) (f) : (s.mapEvents f).trust = s.trust := rfl
@[simp] theorem mapEvents_faults (s : State) (f) : (s.mapEvents f).faults = s.faults := rfl

/-! ### State.mapVector -/

@[simp] theorem mapVector_pending (s : State) (v f) : (s.mapVector v f).pending = s.pending := rfl
@[simp] theorem mapVector_time (s : State) (v f) : (s.mapVector v f).time = s.time := rfl
@[simp] theorem mapVector_free (s : State) (v f) : (s.mapVector v f).free = s.free := rfl
@[simp] theorem mapVector_out (s : State) (v f) : (s.mapVector v f).out = s.out := rfl
@[simp] theorem mapVector_hostMem (s : State) (v f) : (s.mapVector v f).hostMem = s.hostMem := rfl
@[simp] theorem mapVector_aphyDir (s : State) (v f) : (s.mapVector v f).aphyDir = s.aphyDir := rfl
@[simp] theorem mapVector_mode (s : State) (v f) : (s.mapVector v f).mode = s.mode := rfl
@[simp] theorem mapVector_host (s : State) (v f) : (s.mapVector v f).host = s.host := rfl
@[simp] theorem mapVector_mem (s : State) (v f) : (s.mapVector v f).mem = s.mem := rfl
@[simp] theorem mapVector_surfaces (s : State) (v f) : (s.mapVector v f).surfaces = s.surfaces := rfl
@[simp] theorem mapVector_seals (s : State) (v f) : (s.mapVector v f).seals = s.seals := rfl
@[simp] theorem mapVector_dmas (s : State) (v f) : (s.mapVector v f).dmas = s.dmas := rfl
@[simp] theorem mapVector_layers (s : State) (v f) : (s.mapVector v f).layers = s.layers := rfl
@[simp] theorem mapVector_pods (s : State) (v f) : (s.mapVector v f).pods = s.pods := rfl
@[simp] theorem mapVector_pipes (s : State) (v f) : (s.mapVector v f).pipes = s.pipes := rfl
@[simp] theorem mapVector_lanes (s : State) (v f) : (s.mapVector v f).lanes = s.lanes := rfl
@[simp] theorem mapVector_basin (s : State) (v f) : (s.mapVector v f).basin = s.basin := rfl
@[simp] theorem mapVector_links (s : State) (v f) : (s.mapVector v f).links = s.links := rfl
@[simp] theorem mapVector_cams (s : State) (v f) : (s.mapVector v f).cams = s.cams := rfl
@[simp] theorem mapVector_contracts (s : State) (v f) : (s.mapVector v f).contracts = s.contracts := rfl
@[simp] theorem mapVector_ledger (s : State) (v f) : (s.mapVector v f).ledger = s.ledger := rfl
@[simp] theorem mapVector_engines (s : State) (v f) : (s.mapVector v f).engines = s.engines := rfl
@[simp] theorem mapVector_pound (s : State) (v f) : (s.mapVector v f).pound = s.pound := rfl
@[simp] theorem mapVector_cv (s : State) (v f) : (s.mapVector v f).cv = s.cv := rfl
@[simp] theorem mapVector_sign (s : State) (v f) : (s.mapVector v f).sign = s.sign := rfl
@[simp] theorem mapVector_events (s : State) (v f) : (s.mapVector v f).events = { s.events with vectors := s.events.vectors.modify v f } := rfl
@[simp] theorem mapVector_recording (s : State) (v f) : (s.mapVector v f).recording = s.recording := rfl
@[simp] theorem mapVector_power (s : State) (v f) : (s.mapVector v f).power = s.power := rfl
@[simp] theorem mapVector_can (s : State) (v f) : (s.mapVector v f).can = s.can := rfl
@[simp] theorem mapVector_trust (s : State) (v f) : (s.mapVector v f).trust = s.trust := rfl
@[simp] theorem mapVector_faults (s : State) (v f) : (s.mapVector v f).faults = s.faults := rfl

/-! ### State.mapEvRing -/

@[simp] theorem mapEvRing_pending (s : State) (k f) : (s.mapEvRing k f).pending = s.pending := rfl
@[simp] theorem mapEvRing_time (s : State) (k f) : (s.mapEvRing k f).time = s.time := rfl
@[simp] theorem mapEvRing_free (s : State) (k f) : (s.mapEvRing k f).free = s.free := rfl
@[simp] theorem mapEvRing_out (s : State) (k f) : (s.mapEvRing k f).out = s.out := rfl
@[simp] theorem mapEvRing_hostMem (s : State) (k f) : (s.mapEvRing k f).hostMem = s.hostMem := rfl
@[simp] theorem mapEvRing_aphyDir (s : State) (k f) : (s.mapEvRing k f).aphyDir = s.aphyDir := rfl
@[simp] theorem mapEvRing_mode (s : State) (k f) : (s.mapEvRing k f).mode = s.mode := rfl
@[simp] theorem mapEvRing_host (s : State) (k f) : (s.mapEvRing k f).host = s.host := rfl
@[simp] theorem mapEvRing_mem (s : State) (k f) : (s.mapEvRing k f).mem = s.mem := rfl
@[simp] theorem mapEvRing_surfaces (s : State) (k f) : (s.mapEvRing k f).surfaces = s.surfaces := rfl
@[simp] theorem mapEvRing_seals (s : State) (k f) : (s.mapEvRing k f).seals = s.seals := rfl
@[simp] theorem mapEvRing_dmas (s : State) (k f) : (s.mapEvRing k f).dmas = s.dmas := rfl
@[simp] theorem mapEvRing_layers (s : State) (k f) : (s.mapEvRing k f).layers = s.layers := rfl
@[simp] theorem mapEvRing_pods (s : State) (k f) : (s.mapEvRing k f).pods = s.pods := rfl
@[simp] theorem mapEvRing_pipes (s : State) (k f) : (s.mapEvRing k f).pipes = s.pipes := rfl
@[simp] theorem mapEvRing_lanes (s : State) (k f) : (s.mapEvRing k f).lanes = s.lanes := rfl
@[simp] theorem mapEvRing_basin (s : State) (k f) : (s.mapEvRing k f).basin = s.basin := rfl
@[simp] theorem mapEvRing_links (s : State) (k f) : (s.mapEvRing k f).links = s.links := rfl
@[simp] theorem mapEvRing_cams (s : State) (k f) : (s.mapEvRing k f).cams = s.cams := rfl
@[simp] theorem mapEvRing_contracts (s : State) (k f) : (s.mapEvRing k f).contracts = s.contracts := rfl
@[simp] theorem mapEvRing_ledger (s : State) (k f) : (s.mapEvRing k f).ledger = s.ledger := rfl
@[simp] theorem mapEvRing_engines (s : State) (k f) : (s.mapEvRing k f).engines = s.engines := rfl
@[simp] theorem mapEvRing_pound (s : State) (k f) : (s.mapEvRing k f).pound = s.pound := rfl
@[simp] theorem mapEvRing_cv (s : State) (k f) : (s.mapEvRing k f).cv = s.cv := rfl
@[simp] theorem mapEvRing_sign (s : State) (k f) : (s.mapEvRing k f).sign = s.sign := rfl
@[simp] theorem mapEvRing_events (s : State) (k f) : (s.mapEvRing k f).events = { s.events with rings := s.events.rings.modify k f } := rfl
@[simp] theorem mapEvRing_recording (s : State) (k f) : (s.mapEvRing k f).recording = s.recording := rfl
@[simp] theorem mapEvRing_power (s : State) (k f) : (s.mapEvRing k f).power = s.power := rfl
@[simp] theorem mapEvRing_can (s : State) (k f) : (s.mapEvRing k f).can = s.can := rfl
@[simp] theorem mapEvRing_trust (s : State) (k f) : (s.mapEvRing k f).trust = s.trust := rfl
@[simp] theorem mapEvRing_faults (s : State) (k f) : (s.mapEvRing k f).faults = s.faults := rfl

/-! ### State.mapSource -/

@[simp] theorem mapSource_pending (s : State) (h n f) : (s.mapSource h n f).pending = s.pending := rfl
@[simp] theorem mapSource_time (s : State) (h n f) : (s.mapSource h n f).time = s.time := rfl
@[simp] theorem mapSource_free (s : State) (h n f) : (s.mapSource h n f).free = s.free := rfl
@[simp] theorem mapSource_out (s : State) (h n f) : (s.mapSource h n f).out = s.out := rfl
@[simp] theorem mapSource_hostMem (s : State) (h n f) : (s.mapSource h n f).hostMem = s.hostMem := rfl
@[simp] theorem mapSource_aphyDir (s : State) (h n f) : (s.mapSource h n f).aphyDir = s.aphyDir := rfl
@[simp] theorem mapSource_mode (s : State) (h n f) : (s.mapSource h n f).mode = s.mode := rfl
@[simp] theorem mapSource_host (s : State) (h n f) : (s.mapSource h n f).host = s.host := rfl
@[simp] theorem mapSource_mem (s : State) (h n f) : (s.mapSource h n f).mem = s.mem := rfl
@[simp] theorem mapSource_surfaces (s : State) (h n f) : (s.mapSource h n f).surfaces = s.surfaces := rfl
@[simp] theorem mapSource_seals (s : State) (h n f) : (s.mapSource h n f).seals = s.seals := rfl
@[simp] theorem mapSource_dmas (s : State) (h n f) : (s.mapSource h n f).dmas = s.dmas := rfl
@[simp] theorem mapSource_layers (s : State) (h n f) : (s.mapSource h n f).layers = s.layers := rfl
@[simp] theorem mapSource_pods (s : State) (h n f) : (s.mapSource h n f).pods = s.pods := rfl
@[simp] theorem mapSource_pipes (s : State) (h n f) : (s.mapSource h n f).pipes = s.pipes := rfl
@[simp] theorem mapSource_lanes (s : State) (h n f) : (s.mapSource h n f).lanes = s.lanes := rfl
@[simp] theorem mapSource_basin (s : State) (h n f) : (s.mapSource h n f).basin = s.basin := rfl
@[simp] theorem mapSource_links (s : State) (h n f) : (s.mapSource h n f).links = s.links := rfl
@[simp] theorem mapSource_cams (s : State) (h n f) : (s.mapSource h n f).cams = s.cams := rfl
@[simp] theorem mapSource_contracts (s : State) (h n f) : (s.mapSource h n f).contracts = s.contracts := rfl
@[simp] theorem mapSource_ledger (s : State) (h n f) : (s.mapSource h n f).ledger = s.ledger := rfl
@[simp] theorem mapSource_engines (s : State) (h n f) : (s.mapSource h n f).engines = s.engines := rfl
@[simp] theorem mapSource_pound (s : State) (h n f) : (s.mapSource h n f).pound = s.pound := rfl
@[simp] theorem mapSource_cv (s : State) (h n f) : (s.mapSource h n f).cv = s.cv := rfl
@[simp] theorem mapSource_sign (s : State) (h n f) : (s.mapSource h n f).sign = s.sign := rfl
@[simp] theorem mapSource_recording (s : State) (h n f) : (s.mapSource h n f).recording = s.recording := rfl
@[simp] theorem mapSource_power (s : State) (h n f) : (s.mapSource h n f).power = s.power := rfl
@[simp] theorem mapSource_can (s : State) (h n f) : (s.mapSource h n f).can = s.can := rfl
@[simp] theorem mapSource_trust (s : State) (h n f) : (s.mapSource h n f).trust = s.trust := rfl
@[simp] theorem mapSource_faults (s : State) (h n f) : (s.mapSource h n f).faults = s.faults := rfl

/-! ### State.mapPound -/

@[simp] theorem mapPound_pending (s : State) (f) : (s.mapPound f).pending = s.pending := rfl
@[simp] theorem mapPound_time (s : State) (f) : (s.mapPound f).time = s.time := rfl
@[simp] theorem mapPound_free (s : State) (f) : (s.mapPound f).free = s.free := rfl
@[simp] theorem mapPound_out (s : State) (f) : (s.mapPound f).out = s.out := rfl
@[simp] theorem mapPound_hostMem (s : State) (f) : (s.mapPound f).hostMem = s.hostMem := rfl
@[simp] theorem mapPound_aphyDir (s : State) (f) : (s.mapPound f).aphyDir = s.aphyDir := rfl
@[simp] theorem mapPound_mode (s : State) (f) : (s.mapPound f).mode = s.mode := rfl
@[simp] theorem mapPound_host (s : State) (f) : (s.mapPound f).host = s.host := rfl
@[simp] theorem mapPound_mem (s : State) (f) : (s.mapPound f).mem = s.mem := rfl
@[simp] theorem mapPound_surfaces (s : State) (f) : (s.mapPound f).surfaces = s.surfaces := rfl
@[simp] theorem mapPound_seals (s : State) (f) : (s.mapPound f).seals = s.seals := rfl
@[simp] theorem mapPound_dmas (s : State) (f) : (s.mapPound f).dmas = s.dmas := rfl
@[simp] theorem mapPound_layers (s : State) (f) : (s.mapPound f).layers = s.layers := rfl
@[simp] theorem mapPound_pods (s : State) (f) : (s.mapPound f).pods = s.pods := rfl
@[simp] theorem mapPound_pipes (s : State) (f) : (s.mapPound f).pipes = s.pipes := rfl
@[simp] theorem mapPound_lanes (s : State) (f) : (s.mapPound f).lanes = s.lanes := rfl
@[simp] theorem mapPound_basin (s : State) (f) : (s.mapPound f).basin = s.basin := rfl
@[simp] theorem mapPound_links (s : State) (f) : (s.mapPound f).links = s.links := rfl
@[simp] theorem mapPound_cams (s : State) (f) : (s.mapPound f).cams = s.cams := rfl
@[simp] theorem mapPound_contracts (s : State) (f) : (s.mapPound f).contracts = s.contracts := rfl
@[simp] theorem mapPound_ledger (s : State) (f) : (s.mapPound f).ledger = s.ledger := rfl
@[simp] theorem mapPound_engines (s : State) (f) : (s.mapPound f).engines = s.engines := rfl
@[simp] theorem mapPound_pound (s : State) (f) : (s.mapPound f).pound = f s.pound := rfl
@[simp] theorem mapPound_cv (s : State) (f) : (s.mapPound f).cv = s.cv := rfl
@[simp] theorem mapPound_sign (s : State) (f) : (s.mapPound f).sign = s.sign := rfl
@[simp] theorem mapPound_events (s : State) (f) : (s.mapPound f).events = s.events := rfl
@[simp] theorem mapPound_recording (s : State) (f) : (s.mapPound f).recording = s.recording := rfl
@[simp] theorem mapPound_power (s : State) (f) : (s.mapPound f).power = s.power := rfl
@[simp] theorem mapPound_can (s : State) (f) : (s.mapPound f).can = s.can := rfl
@[simp] theorem mapPound_trust (s : State) (f) : (s.mapPound f).trust = s.trust := rfl
@[simp] theorem mapPound_faults (s : State) (f) : (s.mapPound f).faults = s.faults := rfl

/-! ### State.mapQueue -/

@[simp] theorem mapQueue_pending (s : State) (q f) : (s.mapQueue q f).pending = s.pending := rfl
@[simp] theorem mapQueue_time (s : State) (q f) : (s.mapQueue q f).time = s.time := rfl
@[simp] theorem mapQueue_free (s : State) (q f) : (s.mapQueue q f).free = s.free := rfl
@[simp] theorem mapQueue_out (s : State) (q f) : (s.mapQueue q f).out = s.out := rfl
@[simp] theorem mapQueue_hostMem (s : State) (q f) : (s.mapQueue q f).hostMem = s.hostMem := rfl
@[simp] theorem mapQueue_aphyDir (s : State) (q f) : (s.mapQueue q f).aphyDir = s.aphyDir := rfl
@[simp] theorem mapQueue_mode (s : State) (q f) : (s.mapQueue q f).mode = s.mode := rfl
@[simp] theorem mapQueue_host (s : State) (q f) : (s.mapQueue q f).host = s.host := rfl
@[simp] theorem mapQueue_mem (s : State) (q f) : (s.mapQueue q f).mem = s.mem := rfl
@[simp] theorem mapQueue_surfaces (s : State) (q f) : (s.mapQueue q f).surfaces = s.surfaces := rfl
@[simp] theorem mapQueue_seals (s : State) (q f) : (s.mapQueue q f).seals = s.seals := rfl
@[simp] theorem mapQueue_dmas (s : State) (q f) : (s.mapQueue q f).dmas = s.dmas := rfl
@[simp] theorem mapQueue_layers (s : State) (q f) : (s.mapQueue q f).layers = s.layers := rfl
@[simp] theorem mapQueue_pods (s : State) (q f) : (s.mapQueue q f).pods = s.pods := rfl
@[simp] theorem mapQueue_pipes (s : State) (q f) : (s.mapQueue q f).pipes = s.pipes := rfl
@[simp] theorem mapQueue_lanes (s : State) (q f) : (s.mapQueue q f).lanes = s.lanes := rfl
@[simp] theorem mapQueue_basin (s : State) (q f) : (s.mapQueue q f).basin = s.basin := rfl
@[simp] theorem mapQueue_links (s : State) (q f) : (s.mapQueue q f).links = s.links := rfl
@[simp] theorem mapQueue_cams (s : State) (q f) : (s.mapQueue q f).cams = s.cams := rfl
@[simp] theorem mapQueue_contracts (s : State) (q f) : (s.mapQueue q f).contracts = s.contracts := rfl
@[simp] theorem mapQueue_ledger (s : State) (q f) : (s.mapQueue q f).ledger = s.ledger := rfl
@[simp] theorem mapQueue_engines (s : State) (q f) : (s.mapQueue q f).engines = s.engines := rfl
@[simp] theorem mapQueue_pound (s : State) (q f) : (s.mapQueue q f).pound = { s.pound with queues := s.pound.queues.modify q f } := rfl
@[simp] theorem mapQueue_cv (s : State) (q f) : (s.mapQueue q f).cv = s.cv := rfl
@[simp] theorem mapQueue_sign (s : State) (q f) : (s.mapQueue q f).sign = s.sign := rfl
@[simp] theorem mapQueue_events (s : State) (q f) : (s.mapQueue q f).events = s.events := rfl
@[simp] theorem mapQueue_recording (s : State) (q f) : (s.mapQueue q f).recording = s.recording := rfl
@[simp] theorem mapQueue_power (s : State) (q f) : (s.mapQueue q f).power = s.power := rfl
@[simp] theorem mapQueue_can (s : State) (q f) : (s.mapQueue q f).can = s.can := rfl
@[simp] theorem mapQueue_trust (s : State) (q f) : (s.mapQueue q f).trust = s.trust := rfl
@[simp] theorem mapQueue_faults (s : State) (q f) : (s.mapQueue q f).faults = s.faults := rfl

/-! ### State.mapRec -/

@[simp] theorem mapRec_pending (s : State) (f) : (s.mapRec f).pending = s.pending := rfl
@[simp] theorem mapRec_time (s : State) (f) : (s.mapRec f).time = s.time := rfl
@[simp] theorem mapRec_free (s : State) (f) : (s.mapRec f).free = s.free := rfl
@[simp] theorem mapRec_out (s : State) (f) : (s.mapRec f).out = s.out := rfl
@[simp] theorem mapRec_hostMem (s : State) (f) : (s.mapRec f).hostMem = s.hostMem := rfl
@[simp] theorem mapRec_aphyDir (s : State) (f) : (s.mapRec f).aphyDir = s.aphyDir := rfl
@[simp] theorem mapRec_mode (s : State) (f) : (s.mapRec f).mode = s.mode := rfl
@[simp] theorem mapRec_host (s : State) (f) : (s.mapRec f).host = s.host := rfl
@[simp] theorem mapRec_mem (s : State) (f) : (s.mapRec f).mem = s.mem := rfl
@[simp] theorem mapRec_surfaces (s : State) (f) : (s.mapRec f).surfaces = s.surfaces := rfl
@[simp] theorem mapRec_seals (s : State) (f) : (s.mapRec f).seals = s.seals := rfl
@[simp] theorem mapRec_dmas (s : State) (f) : (s.mapRec f).dmas = s.dmas := rfl
@[simp] theorem mapRec_layers (s : State) (f) : (s.mapRec f).layers = s.layers := rfl
@[simp] theorem mapRec_pods (s : State) (f) : (s.mapRec f).pods = s.pods := rfl
@[simp] theorem mapRec_pipes (s : State) (f) : (s.mapRec f).pipes = s.pipes := rfl
@[simp] theorem mapRec_lanes (s : State) (f) : (s.mapRec f).lanes = s.lanes := rfl
@[simp] theorem mapRec_basin (s : State) (f) : (s.mapRec f).basin = s.basin := rfl
@[simp] theorem mapRec_links (s : State) (f) : (s.mapRec f).links = s.links := rfl
@[simp] theorem mapRec_cams (s : State) (f) : (s.mapRec f).cams = s.cams := rfl
@[simp] theorem mapRec_contracts (s : State) (f) : (s.mapRec f).contracts = s.contracts := rfl
@[simp] theorem mapRec_ledger (s : State) (f) : (s.mapRec f).ledger = s.ledger := rfl
@[simp] theorem mapRec_engines (s : State) (f) : (s.mapRec f).engines = s.engines := rfl
@[simp] theorem mapRec_pound (s : State) (f) : (s.mapRec f).pound = s.pound := rfl
@[simp] theorem mapRec_cv (s : State) (f) : (s.mapRec f).cv = s.cv := rfl
@[simp] theorem mapRec_sign (s : State) (f) : (s.mapRec f).sign = s.sign := rfl
@[simp] theorem mapRec_events (s : State) (f) : (s.mapRec f).events = s.events := rfl
@[simp] theorem mapRec_recording (s : State) (f) : (s.mapRec f).recording = f s.recording := rfl
@[simp] theorem mapRec_power (s : State) (f) : (s.mapRec f).power = s.power := rfl
@[simp] theorem mapRec_can (s : State) (f) : (s.mapRec f).can = s.can := rfl
@[simp] theorem mapRec_trust (s : State) (f) : (s.mapRec f).trust = s.trust := rfl
@[simp] theorem mapRec_faults (s : State) (f) : (s.mapRec f).faults = s.faults := rfl

/-! ### State.mapStream -/

@[simp] theorem mapStream_pending (s : State) (k f) : (s.mapStream k f).pending = s.pending := rfl
@[simp] theorem mapStream_time (s : State) (k f) : (s.mapStream k f).time = s.time := rfl
@[simp] theorem mapStream_free (s : State) (k f) : (s.mapStream k f).free = s.free := rfl
@[simp] theorem mapStream_out (s : State) (k f) : (s.mapStream k f).out = s.out := rfl
@[simp] theorem mapStream_hostMem (s : State) (k f) : (s.mapStream k f).hostMem = s.hostMem := rfl
@[simp] theorem mapStream_aphyDir (s : State) (k f) : (s.mapStream k f).aphyDir = s.aphyDir := rfl
@[simp] theorem mapStream_mode (s : State) (k f) : (s.mapStream k f).mode = s.mode := rfl
@[simp] theorem mapStream_host (s : State) (k f) : (s.mapStream k f).host = s.host := rfl
@[simp] theorem mapStream_mem (s : State) (k f) : (s.mapStream k f).mem = s.mem := rfl
@[simp] theorem mapStream_surfaces (s : State) (k f) : (s.mapStream k f).surfaces = s.surfaces := rfl
@[simp] theorem mapStream_seals (s : State) (k f) : (s.mapStream k f).seals = s.seals := rfl
@[simp] theorem mapStream_dmas (s : State) (k f) : (s.mapStream k f).dmas = s.dmas := rfl
@[simp] theorem mapStream_layers (s : State) (k f) : (s.mapStream k f).layers = s.layers := rfl
@[simp] theorem mapStream_pods (s : State) (k f) : (s.mapStream k f).pods = s.pods := rfl
@[simp] theorem mapStream_pipes (s : State) (k f) : (s.mapStream k f).pipes = s.pipes := rfl
@[simp] theorem mapStream_lanes (s : State) (k f) : (s.mapStream k f).lanes = s.lanes := rfl
@[simp] theorem mapStream_basin (s : State) (k f) : (s.mapStream k f).basin = s.basin := rfl
@[simp] theorem mapStream_links (s : State) (k f) : (s.mapStream k f).links = s.links := rfl
@[simp] theorem mapStream_cams (s : State) (k f) : (s.mapStream k f).cams = s.cams := rfl
@[simp] theorem mapStream_contracts (s : State) (k f) : (s.mapStream k f).contracts = s.contracts := rfl
@[simp] theorem mapStream_ledger (s : State) (k f) : (s.mapStream k f).ledger = s.ledger := rfl
@[simp] theorem mapStream_engines (s : State) (k f) : (s.mapStream k f).engines = s.engines := rfl
@[simp] theorem mapStream_pound (s : State) (k f) : (s.mapStream k f).pound = s.pound := rfl
@[simp] theorem mapStream_cv (s : State) (k f) : (s.mapStream k f).cv = s.cv := rfl
@[simp] theorem mapStream_sign (s : State) (k f) : (s.mapStream k f).sign = s.sign := rfl
@[simp] theorem mapStream_events (s : State) (k f) : (s.mapStream k f).events = s.events := rfl
@[simp] theorem mapStream_recording (s : State) (k f) : (s.mapStream k f).recording = { s.recording with streams := s.recording.streams.modify k f } := rfl
@[simp] theorem mapStream_power (s : State) (k f) : (s.mapStream k f).power = s.power := rfl
@[simp] theorem mapStream_can (s : State) (k f) : (s.mapStream k f).can = s.can := rfl
@[simp] theorem mapStream_trust (s : State) (k f) : (s.mapStream k f).trust = s.trust := rfl
@[simp] theorem mapStream_faults (s : State) (k f) : (s.mapStream k f).faults = s.faults := rfl

/-! ### State.mapPower -/

@[simp] theorem mapPower_pending (s : State) (f) : (s.mapPower f).pending = s.pending := rfl
@[simp] theorem mapPower_time (s : State) (f) : (s.mapPower f).time = s.time := rfl
@[simp] theorem mapPower_free (s : State) (f) : (s.mapPower f).free = s.free := rfl
@[simp] theorem mapPower_out (s : State) (f) : (s.mapPower f).out = s.out := rfl
@[simp] theorem mapPower_hostMem (s : State) (f) : (s.mapPower f).hostMem = s.hostMem := rfl
@[simp] theorem mapPower_aphyDir (s : State) (f) : (s.mapPower f).aphyDir = s.aphyDir := rfl
@[simp] theorem mapPower_mode (s : State) (f) : (s.mapPower f).mode = s.mode := rfl
@[simp] theorem mapPower_host (s : State) (f) : (s.mapPower f).host = s.host := rfl
@[simp] theorem mapPower_mem (s : State) (f) : (s.mapPower f).mem = s.mem := rfl
@[simp] theorem mapPower_surfaces (s : State) (f) : (s.mapPower f).surfaces = s.surfaces := rfl
@[simp] theorem mapPower_seals (s : State) (f) : (s.mapPower f).seals = s.seals := rfl
@[simp] theorem mapPower_dmas (s : State) (f) : (s.mapPower f).dmas = s.dmas := rfl
@[simp] theorem mapPower_layers (s : State) (f) : (s.mapPower f).layers = s.layers := rfl
@[simp] theorem mapPower_pods (s : State) (f) : (s.mapPower f).pods = s.pods := rfl
@[simp] theorem mapPower_pipes (s : State) (f) : (s.mapPower f).pipes = s.pipes := rfl
@[simp] theorem mapPower_lanes (s : State) (f) : (s.mapPower f).lanes = s.lanes := rfl
@[simp] theorem mapPower_basin (s : State) (f) : (s.mapPower f).basin = s.basin := rfl
@[simp] theorem mapPower_links (s : State) (f) : (s.mapPower f).links = s.links := rfl
@[simp] theorem mapPower_cams (s : State) (f) : (s.mapPower f).cams = s.cams := rfl
@[simp] theorem mapPower_contracts (s : State) (f) : (s.mapPower f).contracts = s.contracts := rfl
@[simp] theorem mapPower_ledger (s : State) (f) : (s.mapPower f).ledger = s.ledger := rfl
@[simp] theorem mapPower_engines (s : State) (f) : (s.mapPower f).engines = s.engines := rfl
@[simp] theorem mapPower_pound (s : State) (f) : (s.mapPower f).pound = s.pound := rfl
@[simp] theorem mapPower_cv (s : State) (f) : (s.mapPower f).cv = s.cv := rfl
@[simp] theorem mapPower_sign (s : State) (f) : (s.mapPower f).sign = s.sign := rfl
@[simp] theorem mapPower_events (s : State) (f) : (s.mapPower f).events = s.events := rfl
@[simp] theorem mapPower_recording (s : State) (f) : (s.mapPower f).recording = s.recording := rfl
@[simp] theorem mapPower_power (s : State) (f) : (s.mapPower f).power = f s.power := rfl
@[simp] theorem mapPower_can (s : State) (f) : (s.mapPower f).can = s.can := rfl
@[simp] theorem mapPower_trust (s : State) (f) : (s.mapPower f).trust = s.trust := rfl
@[simp] theorem mapPower_faults (s : State) (f) : (s.mapPower f).faults = s.faults := rfl

/-! ### State.mapMode -/

@[simp] theorem mapMode_pending (s : State) (f) : (s.mapMode f).pending = s.pending := rfl
@[simp] theorem mapMode_time (s : State) (f) : (s.mapMode f).time = s.time := rfl
@[simp] theorem mapMode_free (s : State) (f) : (s.mapMode f).free = s.free := rfl
@[simp] theorem mapMode_out (s : State) (f) : (s.mapMode f).out = s.out := rfl
@[simp] theorem mapMode_hostMem (s : State) (f) : (s.mapMode f).hostMem = s.hostMem := rfl
@[simp] theorem mapMode_aphyDir (s : State) (f) : (s.mapMode f).aphyDir = s.aphyDir := rfl
@[simp] theorem mapMode_mode (s : State) (f) : (s.mapMode f).mode = f s.mode := rfl
@[simp] theorem mapMode_host (s : State) (f) : (s.mapMode f).host = s.host := rfl
@[simp] theorem mapMode_mem (s : State) (f) : (s.mapMode f).mem = s.mem := rfl
@[simp] theorem mapMode_surfaces (s : State) (f) : (s.mapMode f).surfaces = s.surfaces := rfl
@[simp] theorem mapMode_seals (s : State) (f) : (s.mapMode f).seals = s.seals := rfl
@[simp] theorem mapMode_dmas (s : State) (f) : (s.mapMode f).dmas = s.dmas := rfl
@[simp] theorem mapMode_layers (s : State) (f) : (s.mapMode f).layers = s.layers := rfl
@[simp] theorem mapMode_pods (s : State) (f) : (s.mapMode f).pods = s.pods := rfl
@[simp] theorem mapMode_pipes (s : State) (f) : (s.mapMode f).pipes = s.pipes := rfl
@[simp] theorem mapMode_lanes (s : State) (f) : (s.mapMode f).lanes = s.lanes := rfl
@[simp] theorem mapMode_basin (s : State) (f) : (s.mapMode f).basin = s.basin := rfl
@[simp] theorem mapMode_links (s : State) (f) : (s.mapMode f).links = s.links := rfl
@[simp] theorem mapMode_cams (s : State) (f) : (s.mapMode f).cams = s.cams := rfl
@[simp] theorem mapMode_contracts (s : State) (f) : (s.mapMode f).contracts = s.contracts := rfl
@[simp] theorem mapMode_ledger (s : State) (f) : (s.mapMode f).ledger = s.ledger := rfl
@[simp] theorem mapMode_engines (s : State) (f) : (s.mapMode f).engines = s.engines := rfl
@[simp] theorem mapMode_pound (s : State) (f) : (s.mapMode f).pound = s.pound := rfl
@[simp] theorem mapMode_cv (s : State) (f) : (s.mapMode f).cv = s.cv := rfl
@[simp] theorem mapMode_sign (s : State) (f) : (s.mapMode f).sign = s.sign := rfl
@[simp] theorem mapMode_events (s : State) (f) : (s.mapMode f).events = s.events := rfl
@[simp] theorem mapMode_recording (s : State) (f) : (s.mapMode f).recording = s.recording := rfl
@[simp] theorem mapMode_power (s : State) (f) : (s.mapMode f).power = s.power := rfl
@[simp] theorem mapMode_can (s : State) (f) : (s.mapMode f).can = s.can := rfl
@[simp] theorem mapMode_trust (s : State) (f) : (s.mapMode f).trust = s.trust := rfl
@[simp] theorem mapMode_faults (s : State) (f) : (s.mapMode f).faults = s.faults := rfl

/-! ### State.mapTrust -/

@[simp] theorem mapTrust_pending (s : State) (f) : (s.mapTrust f).pending = s.pending := rfl
@[simp] theorem mapTrust_time (s : State) (f) : (s.mapTrust f).time = s.time := rfl
@[simp] theorem mapTrust_free (s : State) (f) : (s.mapTrust f).free = s.free := rfl
@[simp] theorem mapTrust_out (s : State) (f) : (s.mapTrust f).out = s.out := rfl
@[simp] theorem mapTrust_hostMem (s : State) (f) : (s.mapTrust f).hostMem = s.hostMem := rfl
@[simp] theorem mapTrust_aphyDir (s : State) (f) : (s.mapTrust f).aphyDir = s.aphyDir := rfl
@[simp] theorem mapTrust_mode (s : State) (f) : (s.mapTrust f).mode = s.mode := rfl
@[simp] theorem mapTrust_host (s : State) (f) : (s.mapTrust f).host = s.host := rfl
@[simp] theorem mapTrust_mem (s : State) (f) : (s.mapTrust f).mem = s.mem := rfl
@[simp] theorem mapTrust_surfaces (s : State) (f) : (s.mapTrust f).surfaces = s.surfaces := rfl
@[simp] theorem mapTrust_seals (s : State) (f) : (s.mapTrust f).seals = s.seals := rfl
@[simp] theorem mapTrust_dmas (s : State) (f) : (s.mapTrust f).dmas = s.dmas := rfl
@[simp] theorem mapTrust_layers (s : State) (f) : (s.mapTrust f).layers = s.layers := rfl
@[simp] theorem mapTrust_pods (s : State) (f) : (s.mapTrust f).pods = s.pods := rfl
@[simp] theorem mapTrust_pipes (s : State) (f) : (s.mapTrust f).pipes = s.pipes := rfl
@[simp] theorem mapTrust_lanes (s : State) (f) : (s.mapTrust f).lanes = s.lanes := rfl
@[simp] theorem mapTrust_basin (s : State) (f) : (s.mapTrust f).basin = s.basin := rfl
@[simp] theorem mapTrust_links (s : State) (f) : (s.mapTrust f).links = s.links := rfl
@[simp] theorem mapTrust_cams (s : State) (f) : (s.mapTrust f).cams = s.cams := rfl
@[simp] theorem mapTrust_contracts (s : State) (f) : (s.mapTrust f).contracts = s.contracts := rfl
@[simp] theorem mapTrust_ledger (s : State) (f) : (s.mapTrust f).ledger = s.ledger := rfl
@[simp] theorem mapTrust_engines (s : State) (f) : (s.mapTrust f).engines = s.engines := rfl
@[simp] theorem mapTrust_pound (s : State) (f) : (s.mapTrust f).pound = s.pound := rfl
@[simp] theorem mapTrust_cv (s : State) (f) : (s.mapTrust f).cv = s.cv := rfl
@[simp] theorem mapTrust_sign (s : State) (f) : (s.mapTrust f).sign = s.sign := rfl
@[simp] theorem mapTrust_events (s : State) (f) : (s.mapTrust f).events = s.events := rfl
@[simp] theorem mapTrust_recording (s : State) (f) : (s.mapTrust f).recording = s.recording := rfl
@[simp] theorem mapTrust_power (s : State) (f) : (s.mapTrust f).power = s.power := rfl
@[simp] theorem mapTrust_can (s : State) (f) : (s.mapTrust f).can = s.can := rfl
@[simp] theorem mapTrust_trust (s : State) (f) : (s.mapTrust f).trust = f s.trust := rfl
@[simp] theorem mapTrust_faults (s : State) (f) : (s.mapTrust f).faults = s.faults := rfl

/-! ### State.mapFaults -/

@[simp] theorem mapFaults_pending (s : State) (f) : (s.mapFaults f).pending = s.pending := rfl
@[simp] theorem mapFaults_time (s : State) (f) : (s.mapFaults f).time = s.time := rfl
@[simp] theorem mapFaults_free (s : State) (f) : (s.mapFaults f).free = s.free := rfl
@[simp] theorem mapFaults_out (s : State) (f) : (s.mapFaults f).out = s.out := rfl
@[simp] theorem mapFaults_hostMem (s : State) (f) : (s.mapFaults f).hostMem = s.hostMem := rfl
@[simp] theorem mapFaults_aphyDir (s : State) (f) : (s.mapFaults f).aphyDir = s.aphyDir := rfl
@[simp] theorem mapFaults_mode (s : State) (f) : (s.mapFaults f).mode = s.mode := rfl
@[simp] theorem mapFaults_host (s : State) (f) : (s.mapFaults f).host = s.host := rfl
@[simp] theorem mapFaults_mem (s : State) (f) : (s.mapFaults f).mem = s.mem := rfl
@[simp] theorem mapFaults_surfaces (s : State) (f) : (s.mapFaults f).surfaces = s.surfaces := rfl
@[simp] theorem mapFaults_seals (s : State) (f) : (s.mapFaults f).seals = s.seals := rfl
@[simp] theorem mapFaults_dmas (s : State) (f) : (s.mapFaults f).dmas = s.dmas := rfl
@[simp] theorem mapFaults_layers (s : State) (f) : (s.mapFaults f).layers = s.layers := rfl
@[simp] theorem mapFaults_pods (s : State) (f) : (s.mapFaults f).pods = s.pods := rfl
@[simp] theorem mapFaults_pipes (s : State) (f) : (s.mapFaults f).pipes = s.pipes := rfl
@[simp] theorem mapFaults_lanes (s : State) (f) : (s.mapFaults f).lanes = s.lanes := rfl
@[simp] theorem mapFaults_basin (s : State) (f) : (s.mapFaults f).basin = s.basin := rfl
@[simp] theorem mapFaults_links (s : State) (f) : (s.mapFaults f).links = s.links := rfl
@[simp] theorem mapFaults_cams (s : State) (f) : (s.mapFaults f).cams = s.cams := rfl
@[simp] theorem mapFaults_contracts (s : State) (f) : (s.mapFaults f).contracts = s.contracts := rfl
@[simp] theorem mapFaults_ledger (s : State) (f) : (s.mapFaults f).ledger = s.ledger := rfl
@[simp] theorem mapFaults_engines (s : State) (f) : (s.mapFaults f).engines = s.engines := rfl
@[simp] theorem mapFaults_pound (s : State) (f) : (s.mapFaults f).pound = s.pound := rfl
@[simp] theorem mapFaults_cv (s : State) (f) : (s.mapFaults f).cv = s.cv := rfl
@[simp] theorem mapFaults_sign (s : State) (f) : (s.mapFaults f).sign = s.sign := rfl
@[simp] theorem mapFaults_events (s : State) (f) : (s.mapFaults f).events = s.events := rfl
@[simp] theorem mapFaults_recording (s : State) (f) : (s.mapFaults f).recording = s.recording := rfl
@[simp] theorem mapFaults_power (s : State) (f) : (s.mapFaults f).power = s.power := rfl
@[simp] theorem mapFaults_can (s : State) (f) : (s.mapFaults f).can = s.can := rfl
@[simp] theorem mapFaults_trust (s : State) (f) : (s.mapFaults f).trust = s.trust := rfl
@[simp] theorem mapFaults_faults (s : State) (f) : (s.mapFaults f).faults = f s.faults := rfl

/-! ### State.mapLanes -/

@[simp] theorem mapLanes_pending (s : State) (f) : (s.mapLanes f).pending = s.pending := rfl
@[simp] theorem mapLanes_time (s : State) (f) : (s.mapLanes f).time = s.time := rfl
@[simp] theorem mapLanes_free (s : State) (f) : (s.mapLanes f).free = s.free := rfl
@[simp] theorem mapLanes_out (s : State) (f) : (s.mapLanes f).out = s.out := rfl
@[simp] theorem mapLanes_hostMem (s : State) (f) : (s.mapLanes f).hostMem = s.hostMem := rfl
@[simp] theorem mapLanes_aphyDir (s : State) (f) : (s.mapLanes f).aphyDir = s.aphyDir := rfl
@[simp] theorem mapLanes_mode (s : State) (f) : (s.mapLanes f).mode = s.mode := rfl
@[simp] theorem mapLanes_host (s : State) (f) : (s.mapLanes f).host = s.host := rfl
@[simp] theorem mapLanes_mem (s : State) (f) : (s.mapLanes f).mem = s.mem := rfl
@[simp] theorem mapLanes_surfaces (s : State) (f) : (s.mapLanes f).surfaces = s.surfaces := rfl
@[simp] theorem mapLanes_seals (s : State) (f) : (s.mapLanes f).seals = s.seals := rfl
@[simp] theorem mapLanes_dmas (s : State) (f) : (s.mapLanes f).dmas = s.dmas := rfl
@[simp] theorem mapLanes_layers (s : State) (f) : (s.mapLanes f).layers = s.layers := rfl
@[simp] theorem mapLanes_pods (s : State) (f) : (s.mapLanes f).pods = s.pods := rfl
@[simp] theorem mapLanes_pipes (s : State) (f) : (s.mapLanes f).pipes = s.pipes := rfl
@[simp] theorem mapLanes_lanes (s : State) (f) : (s.mapLanes f).lanes = f s.lanes := rfl
@[simp] theorem mapLanes_basin (s : State) (f) : (s.mapLanes f).basin = s.basin := rfl
@[simp] theorem mapLanes_links (s : State) (f) : (s.mapLanes f).links = s.links := rfl
@[simp] theorem mapLanes_cams (s : State) (f) : (s.mapLanes f).cams = s.cams := rfl
@[simp] theorem mapLanes_contracts (s : State) (f) : (s.mapLanes f).contracts = s.contracts := rfl
@[simp] theorem mapLanes_ledger (s : State) (f) : (s.mapLanes f).ledger = s.ledger := rfl
@[simp] theorem mapLanes_engines (s : State) (f) : (s.mapLanes f).engines = s.engines := rfl
@[simp] theorem mapLanes_pound (s : State) (f) : (s.mapLanes f).pound = s.pound := rfl
@[simp] theorem mapLanes_cv (s : State) (f) : (s.mapLanes f).cv = s.cv := rfl
@[simp] theorem mapLanes_sign (s : State) (f) : (s.mapLanes f).sign = s.sign := rfl
@[simp] theorem mapLanes_events (s : State) (f) : (s.mapLanes f).events = s.events := rfl
@[simp] theorem mapLanes_recording (s : State) (f) : (s.mapLanes f).recording = s.recording := rfl
@[simp] theorem mapLanes_power (s : State) (f) : (s.mapLanes f).power = s.power := rfl
@[simp] theorem mapLanes_can (s : State) (f) : (s.mapLanes f).can = s.can := rfl
@[simp] theorem mapLanes_trust (s : State) (f) : (s.mapLanes f).trust = s.trust := rfl
@[simp] theorem mapLanes_faults (s : State) (f) : (s.mapLanes f).faults = s.faults := rfl

/-! ### State.mapBasin -/

@[simp] theorem mapBasin_pending (s : State) (f) : (s.mapBasin f).pending = s.pending := rfl
@[simp] theorem mapBasin_time (s : State) (f) : (s.mapBasin f).time = s.time := rfl
@[simp] theorem mapBasin_free (s : State) (f) : (s.mapBasin f).free = s.free := rfl
@[simp] theorem mapBasin_out (s : State) (f) : (s.mapBasin f).out = s.out := rfl
@[simp] theorem mapBasin_hostMem (s : State) (f) : (s.mapBasin f).hostMem = s.hostMem := rfl
@[simp] theorem mapBasin_aphyDir (s : State) (f) : (s.mapBasin f).aphyDir = s.aphyDir := rfl
@[simp] theorem mapBasin_mode (s : State) (f) : (s.mapBasin f).mode = s.mode := rfl
@[simp] theorem mapBasin_host (s : State) (f) : (s.mapBasin f).host = s.host := rfl
@[simp] theorem mapBasin_mem (s : State) (f) : (s.mapBasin f).mem = s.mem := rfl
@[simp] theorem mapBasin_surfaces (s : State) (f) : (s.mapBasin f).surfaces = s.surfaces := rfl
@[simp] theorem mapBasin_seals (s : State) (f) : (s.mapBasin f).seals = s.seals := rfl
@[simp] theorem mapBasin_dmas (s : State) (f) : (s.mapBasin f).dmas = s.dmas := rfl
@[simp] theorem mapBasin_layers (s : State) (f) : (s.mapBasin f).layers = s.layers := rfl
@[simp] theorem mapBasin_pods (s : State) (f) : (s.mapBasin f).pods = s.pods := rfl
@[simp] theorem mapBasin_pipes (s : State) (f) : (s.mapBasin f).pipes = s.pipes := rfl
@[simp] theorem mapBasin_lanes (s : State) (f) : (s.mapBasin f).lanes = s.lanes := rfl
@[simp] theorem mapBasin_basin (s : State) (f) : (s.mapBasin f).basin = f s.basin := rfl
@[simp] theorem mapBasin_links (s : State) (f) : (s.mapBasin f).links = s.links := rfl
@[simp] theorem mapBasin_cams (s : State) (f) : (s.mapBasin f).cams = s.cams := rfl
@[simp] theorem mapBasin_contracts (s : State) (f) : (s.mapBasin f).contracts = s.contracts := rfl
@[simp] theorem mapBasin_ledger (s : State) (f) : (s.mapBasin f).ledger = s.ledger := rfl
@[simp] theorem mapBasin_engines (s : State) (f) : (s.mapBasin f).engines = s.engines := rfl
@[simp] theorem mapBasin_pound (s : State) (f) : (s.mapBasin f).pound = s.pound := rfl
@[simp] theorem mapBasin_cv (s : State) (f) : (s.mapBasin f).cv = s.cv := rfl
@[simp] theorem mapBasin_sign (s : State) (f) : (s.mapBasin f).sign = s.sign := rfl
@[simp] theorem mapBasin_events (s : State) (f) : (s.mapBasin f).events = s.events := rfl
@[simp] theorem mapBasin_recording (s : State) (f) : (s.mapBasin f).recording = s.recording := rfl
@[simp] theorem mapBasin_power (s : State) (f) : (s.mapBasin f).power = s.power := rfl
@[simp] theorem mapBasin_can (s : State) (f) : (s.mapBasin f).can = s.can := rfl
@[simp] theorem mapBasin_trust (s : State) (f) : (s.mapBasin f).trust = s.trust := rfl
@[simp] theorem mapBasin_faults (s : State) (f) : (s.mapBasin f).faults = s.faults := rfl

/-! ### State.mapLedger -/

@[simp] theorem mapLedger_pending (s : State) (f) : (s.mapLedger f).pending = s.pending := rfl
@[simp] theorem mapLedger_time (s : State) (f) : (s.mapLedger f).time = s.time := rfl
@[simp] theorem mapLedger_free (s : State) (f) : (s.mapLedger f).free = s.free := rfl
@[simp] theorem mapLedger_out (s : State) (f) : (s.mapLedger f).out = s.out := rfl
@[simp] theorem mapLedger_hostMem (s : State) (f) : (s.mapLedger f).hostMem = s.hostMem := rfl
@[simp] theorem mapLedger_aphyDir (s : State) (f) : (s.mapLedger f).aphyDir = s.aphyDir := rfl
@[simp] theorem mapLedger_mode (s : State) (f) : (s.mapLedger f).mode = s.mode := rfl
@[simp] theorem mapLedger_host (s : State) (f) : (s.mapLedger f).host = s.host := rfl
@[simp] theorem mapLedger_mem (s : State) (f) : (s.mapLedger f).mem = s.mem := rfl
@[simp] theorem mapLedger_surfaces (s : State) (f) : (s.mapLedger f).surfaces = s.surfaces := rfl
@[simp] theorem mapLedger_seals (s : State) (f) : (s.mapLedger f).seals = s.seals := rfl
@[simp] theorem mapLedger_dmas (s : State) (f) : (s.mapLedger f).dmas = s.dmas := rfl
@[simp] theorem mapLedger_layers (s : State) (f) : (s.mapLedger f).layers = s.layers := rfl
@[simp] theorem mapLedger_pods (s : State) (f) : (s.mapLedger f).pods = s.pods := rfl
@[simp] theorem mapLedger_pipes (s : State) (f) : (s.mapLedger f).pipes = s.pipes := rfl
@[simp] theorem mapLedger_lanes (s : State) (f) : (s.mapLedger f).lanes = s.lanes := rfl
@[simp] theorem mapLedger_basin (s : State) (f) : (s.mapLedger f).basin = s.basin := rfl
@[simp] theorem mapLedger_links (s : State) (f) : (s.mapLedger f).links = s.links := rfl
@[simp] theorem mapLedger_cams (s : State) (f) : (s.mapLedger f).cams = s.cams := rfl
@[simp] theorem mapLedger_contracts (s : State) (f) : (s.mapLedger f).contracts = s.contracts := rfl
@[simp] theorem mapLedger_ledger (s : State) (f) : (s.mapLedger f).ledger = f s.ledger := rfl
@[simp] theorem mapLedger_engines (s : State) (f) : (s.mapLedger f).engines = s.engines := rfl
@[simp] theorem mapLedger_pound (s : State) (f) : (s.mapLedger f).pound = s.pound := rfl
@[simp] theorem mapLedger_cv (s : State) (f) : (s.mapLedger f).cv = s.cv := rfl
@[simp] theorem mapLedger_sign (s : State) (f) : (s.mapLedger f).sign = s.sign := rfl
@[simp] theorem mapLedger_events (s : State) (f) : (s.mapLedger f).events = s.events := rfl
@[simp] theorem mapLedger_recording (s : State) (f) : (s.mapLedger f).recording = s.recording := rfl
@[simp] theorem mapLedger_power (s : State) (f) : (s.mapLedger f).power = s.power := rfl
@[simp] theorem mapLedger_can (s : State) (f) : (s.mapLedger f).can = s.can := rfl
@[simp] theorem mapLedger_trust (s : State) (f) : (s.mapLedger f).trust = s.trust := rfl
@[simp] theorem mapLedger_faults (s : State) (f) : (s.mapLedger f).faults = s.faults := rfl

/-! ### State.send -/

@[simp] theorem send_pending (s : State) (o) : (s.send o).pending = s.pending := rfl
@[simp] theorem send_time (s : State) (o) : (s.send o).time = s.time := rfl
@[simp] theorem send_free (s : State) (o) : (s.send o).free = s.free := rfl
@[simp] theorem send_out (s : State) (o) : (s.send o).out = o :: s.out := rfl
@[simp] theorem send_hostMem (s : State) (o) : (s.send o).hostMem = s.hostMem := rfl
@[simp] theorem send_aphyDir (s : State) (o) : (s.send o).aphyDir = s.aphyDir := rfl
@[simp] theorem send_mode (s : State) (o) : (s.send o).mode = s.mode := rfl
@[simp] theorem send_host (s : State) (o) : (s.send o).host = s.host := rfl
@[simp] theorem send_mem (s : State) (o) : (s.send o).mem = s.mem := rfl
@[simp] theorem send_surfaces (s : State) (o) : (s.send o).surfaces = s.surfaces := rfl
@[simp] theorem send_seals (s : State) (o) : (s.send o).seals = s.seals := rfl
@[simp] theorem send_dmas (s : State) (o) : (s.send o).dmas = s.dmas := rfl
@[simp] theorem send_layers (s : State) (o) : (s.send o).layers = s.layers := rfl
@[simp] theorem send_pods (s : State) (o) : (s.send o).pods = s.pods := rfl
@[simp] theorem send_pipes (s : State) (o) : (s.send o).pipes = s.pipes := rfl
@[simp] theorem send_lanes (s : State) (o) : (s.send o).lanes = s.lanes := rfl
@[simp] theorem send_basin (s : State) (o) : (s.send o).basin = s.basin := rfl
@[simp] theorem send_links (s : State) (o) : (s.send o).links = s.links := rfl
@[simp] theorem send_cams (s : State) (o) : (s.send o).cams = s.cams := rfl
@[simp] theorem send_contracts (s : State) (o) : (s.send o).contracts = s.contracts := rfl
@[simp] theorem send_ledger (s : State) (o) : (s.send o).ledger = s.ledger := rfl
@[simp] theorem send_engines (s : State) (o) : (s.send o).engines = s.engines := rfl
@[simp] theorem send_pound (s : State) (o) : (s.send o).pound = s.pound := rfl
@[simp] theorem send_cv (s : State) (o) : (s.send o).cv = s.cv := rfl
@[simp] theorem send_sign (s : State) (o) : (s.send o).sign = s.sign := rfl
@[simp] theorem send_events (s : State) (o) : (s.send o).events = s.events := rfl
@[simp] theorem send_recording (s : State) (o) : (s.send o).recording = s.recording := rfl
@[simp] theorem send_power (s : State) (o) : (s.send o).power = s.power := rfl
@[simp] theorem send_can (s : State) (o) : (s.send o).can = s.can := rfl
@[simp] theorem send_trust (s : State) (o) : (s.send o).trust = s.trust := rfl
@[simp] theorem send_faults (s : State) (o) : (s.send o).faults = s.faults := rfl

/-! ### State.takeFree -/

@[simp] theorem takeFree_pending (s : State) : (s.takeFree).pending = s.pending := rfl
@[simp] theorem takeFree_time (s : State) : (s.takeFree).time = s.time := rfl
@[simp] theorem takeFree_free (s : State) : (s.takeFree).free = s.free + 1 := rfl
@[simp] theorem takeFree_out (s : State) : (s.takeFree).out = s.out := rfl
@[simp] theorem takeFree_hostMem (s : State) : (s.takeFree).hostMem = s.hostMem := rfl
@[simp] theorem takeFree_aphyDir (s : State) : (s.takeFree).aphyDir = s.aphyDir := rfl
@[simp] theorem takeFree_mode (s : State) : (s.takeFree).mode = s.mode := rfl
@[simp] theorem takeFree_host (s : State) : (s.takeFree).host = s.host := rfl
@[simp] theorem takeFree_mem (s : State) : (s.takeFree).mem = s.mem := rfl
@[simp] theorem takeFree_surfaces (s : State) : (s.takeFree).surfaces = s.surfaces := rfl
@[simp] theorem takeFree_seals (s : State) : (s.takeFree).seals = s.seals := rfl
@[simp] theorem takeFree_dmas (s : State) : (s.takeFree).dmas = s.dmas := rfl
@[simp] theorem takeFree_layers (s : State) : (s.takeFree).layers = s.layers := rfl
@[simp] theorem takeFree_pods (s : State) : (s.takeFree).pods = s.pods := rfl
@[simp] theorem takeFree_pipes (s : State) : (s.takeFree).pipes = s.pipes := rfl
@[simp] theorem takeFree_lanes (s : State) : (s.takeFree).lanes = s.lanes := rfl
@[simp] theorem takeFree_basin (s : State) : (s.takeFree).basin = s.basin := rfl
@[simp] theorem takeFree_links (s : State) : (s.takeFree).links = s.links := rfl
@[simp] theorem takeFree_cams (s : State) : (s.takeFree).cams = s.cams := rfl
@[simp] theorem takeFree_contracts (s : State) : (s.takeFree).contracts = s.contracts := rfl
@[simp] theorem takeFree_ledger (s : State) : (s.takeFree).ledger = s.ledger := rfl
@[simp] theorem takeFree_engines (s : State) : (s.takeFree).engines = s.engines := rfl
@[simp] theorem takeFree_pound (s : State) : (s.takeFree).pound = s.pound := rfl
@[simp] theorem takeFree_cv (s : State) : (s.takeFree).cv = s.cv := rfl
@[simp] theorem takeFree_sign (s : State) : (s.takeFree).sign = s.sign := rfl
@[simp] theorem takeFree_events (s : State) : (s.takeFree).events = s.events := rfl
@[simp] theorem takeFree_recording (s : State) : (s.takeFree).recording = s.recording := rfl
@[simp] theorem takeFree_power (s : State) : (s.takeFree).power = s.power := rfl
@[simp] theorem takeFree_can (s : State) : (s.takeFree).can = s.can := rfl
@[simp] theorem takeFree_trust (s : State) : (s.takeFree).trust = s.trust := rfl
@[simp] theorem takeFree_faults (s : State) : (s.takeFree).faults = s.faults := rfl

/-! ### Indexed parts -/

/-- An element of a list after one element changed. -/
theorem at_modify {α : Type} [Inhabited α] (l : List α) (f : α → α) (n m : Nat) (h : n < l.length) :
    at_ (l.modify n f) m = if m = n then f (at_ l m) else at_ l m := by
  unfold at_
  by_cases e : m = n
  · subst e; simp [List.getD_eq_getElem?_getD, List.getElem?_eq_getElem h]
  · simp [List.getD_eq_getElem?_getD, e, Ne.symm e]

/-- An element of a list after another one changed. -/
theorem at_modify_ne {α : Type} [Inhabited α] (l : List α) (f : α → α) (n m : Nat) (h : m ≠ n) : at_ (l.modify n f) m = at_ l m := by
  simp [at_, List.getD_eq_getElem?_getD, Ne.symm h]

theorem layer_mapLayer (s : State) (n m : Nat) (f) (h : n < s.layers.length) : (s.mapLayer n f).layer m = if m = n then f (s.layer m) else s.layer m :=
  at_modify _ f n m h
theorem layer_mapLayer_self (s : State) (n : Nat) (f) (h : n < s.layers.length) : (s.mapLayer n f).layer n = f (s.layer n) := by
  simp [layer_mapLayer, h]
theorem layer_mapLayer_ne (s : State) (n m : Nat) (f) (h : m ≠ n) : (s.mapLayer n f).layer m = s.layer m := at_modify_ne _ f n m h
theorem pod_mapPod (s : State) (n m : Nat) (f) (h : n < s.pods.length) : (s.mapPod n f).pod m = if m = n then f (s.pod m) else s.pod m :=
  at_modify _ f n m h
theorem pod_mapPod_self (s : State) (n : Nat) (f) (h : n < s.pods.length) : (s.mapPod n f).pod n = f (s.pod n) := by
  simp [pod_mapPod, h]
theorem pod_mapPod_ne (s : State) (n m : Nat) (f) (h : m ≠ n) : (s.mapPod n f).pod m = s.pod m := at_modify_ne _ f n m h
theorem pipe_mapPipe (s : State) (n m : Nat) (f) (h : n < s.pipes.length) : (s.mapPipe n f).pipe m = if m = n then f (s.pipe m) else s.pipe m :=
  at_modify _ f n m h
theorem pipe_mapPipe_self (s : State) (n : Nat) (f) (h : n < s.pipes.length) : (s.mapPipe n f).pipe n = f (s.pipe n) := by
  simp [pipe_mapPipe, h]
theorem pipe_mapPipe_ne (s : State) (n m : Nat) (f) (h : m ≠ n) : (s.mapPipe n f).pipe m = s.pipe m := at_modify_ne _ f n m h
theorem link_mapLink (s : State) (n m : Nat) (f) (h : n < s.links.length) : (s.mapLink n f).link m = if m = n then f (s.link m) else s.link m :=
  at_modify _ f n m h
theorem link_mapLink_self (s : State) (n : Nat) (f) (h : n < s.links.length) : (s.mapLink n f).link n = f (s.link n) := by
  simp [link_mapLink, h]
theorem link_mapLink_ne (s : State) (n m : Nat) (f) (h : m ≠ n) : (s.mapLink n f).link m = s.link m := at_modify_ne _ f n m h
theorem cam_mapCam (s : State) (n m : Nat) (f) (h : n < s.cams.length) : (s.mapCam n f).cam m = if m = n then f (s.cam m) else s.cam m :=
  at_modify _ f n m h
theorem cam_mapCam_self (s : State) (n : Nat) (f) (h : n < s.cams.length) : (s.mapCam n f).cam n = f (s.cam n) := by
  simp [cam_mapCam, h]
theorem cam_mapCam_ne (s : State) (n m : Nat) (f) (h : m ≠ n) : (s.mapCam n f).cam m = s.cam m := at_modify_ne _ f n m h
theorem engine_mapEngine (s : State) (n m : Nat) (f) (h : n < s.engines.length) : (s.mapEngine n f).engine m = if m = n then f (s.engine m) else s.engine m :=
  at_modify _ f n m h
theorem engine_mapEngine_self (s : State) (n : Nat) (f) (h : n < s.engines.length) : (s.mapEngine n f).engine n = f (s.engine n) := by
  simp [engine_mapEngine, h]
theorem engine_mapEngine_ne (s : State) (n m : Nat) (f) (h : m ≠ n) : (s.mapEngine n f).engine m = s.engine m := at_modify_ne _ f n m h
theorem chan_mapChan (s : State) (n m : Nat) (f) (h : n < s.cv.length) : (s.mapChan n f).chan m = if m = n then f (s.chan m) else s.chan m :=
  at_modify _ f n m h
theorem chan_mapChan_self (s : State) (n : Nat) (f) (h : n < s.cv.length) : (s.mapChan n f).chan n = f (s.chan n) := by
  simp [chan_mapChan, h]
theorem chan_mapChan_ne (s : State) (n m : Nat) (f) (h : m ≠ n) : (s.mapChan n f).chan m = s.chan m := at_modify_ne _ f n m h
theorem signBlock_mapSign (s : State) (n m : Nat) (f) (h : n < s.sign.length) : (s.mapSign n f).signBlock m = if m = n then f (s.signBlock m) else s.signBlock m :=
  at_modify _ f n m h
theorem signBlock_mapSign_self (s : State) (n : Nat) (f) (h : n < s.sign.length) : (s.mapSign n f).signBlock n = f (s.signBlock n) := by
  simp [signBlock_mapSign, h]
theorem signBlock_mapSign_ne (s : State) (n m : Nat) (f) (h : m ≠ n) : (s.mapSign n f).signBlock m = s.signBlock m := at_modify_ne _ f n m h
theorem ring_mapRing (s : State) (n m : Nat) (f) (h : n < s.host.rings.length) : (s.mapRing n f).ring m = if m = n then f (s.ring m) else s.ring m :=
  at_modify _ f n m h
theorem ring_mapRing_self (s : State) (n : Nat) (f) (h : n < s.host.rings.length) : (s.mapRing n f).ring n = f (s.ring n) := by
  simp [ring_mapRing, h]
theorem ring_mapRing_ne (s : State) (n m : Nat) (f) (h : m ≠ n) : (s.mapRing n f).ring m = s.ring m := at_modify_ne _ f n m h
theorem vector_mapVector (s : State) (n m : Nat) (f) (h : n < s.events.vectors.length) : (s.mapVector n f).vector m = if m = n then f (s.vector m) else s.vector m :=
  at_modify _ f n m h
theorem vector_mapVector_self (s : State) (n : Nat) (f) (h : n < s.events.vectors.length) : (s.mapVector n f).vector n = f (s.vector n) := by
  simp [vector_mapVector, h]
theorem vector_mapVector_ne (s : State) (n m : Nat) (f) (h : m ≠ n) : (s.mapVector n f).vector m = s.vector m := at_modify_ne _ f n m h
theorem evRing_mapEvRing (s : State) (n m : Nat) (f) (h : n < s.events.rings.length) : (s.mapEvRing n f).evRing m = if m = n then f (s.evRing m) else s.evRing m :=
  at_modify _ f n m h
theorem evRing_mapEvRing_self (s : State) (n : Nat) (f) (h : n < s.events.rings.length) : (s.mapEvRing n f).evRing n = f (s.evRing n) := by
  simp [evRing_mapEvRing, h]
theorem evRing_mapEvRing_ne (s : State) (n m : Nat) (f) (h : m ≠ n) : (s.mapEvRing n f).evRing m = s.evRing m := at_modify_ne _ f n m h
theorem queue_mapQueue (s : State) (n m : Nat) (f) (h : n < s.pound.queues.length) : (s.mapQueue n f).queue m = if m = n then f (s.queue m) else s.queue m :=
  at_modify _ f n m h
theorem queue_mapQueue_self (s : State) (n : Nat) (f) (h : n < s.pound.queues.length) : (s.mapQueue n f).queue n = f (s.queue n) := by
  simp [queue_mapQueue, h]
theorem queue_mapQueue_ne (s : State) (n m : Nat) (f) (h : m ≠ n) : (s.mapQueue n f).queue m = s.queue m := at_modify_ne _ f n m h
theorem stream_mapStream (s : State) (n m : Nat) (f) (h : n < s.recording.streams.length) : (s.mapStream n f).stream m = if m = n then f (s.stream m) else s.stream m :=
  at_modify _ f n m h
theorem stream_mapStream_self (s : State) (n : Nat) (f) (h : n < s.recording.streams.length) : (s.mapStream n f).stream n = f (s.stream n) := by
  simp [stream_mapStream, h]
theorem stream_mapStream_ne (s : State) (n m : Nat) (f) (h : m ≠ n) : (s.mapStream n f).stream m = s.stream m := at_modify_ne _ f n m h

end Sys2Proof.Laws
end

