-- ==== Sys2Proof/Laws/Memory.lean ====
section
/-! SUPPORT. Every memory operation keeps the canonical form of the memory that it writes, and the memories of the reset state have
it. -/
namespace Sys2Proof.Laws

open Sys2Proof Sys2Proof.Machine

/-! ### Sparse memories -/

/-- A canonical form from a higher address is one from a lower address. -/
theorem sparseWfFrom_mono {α : Type} [DecidableEq α] {d : α} {lo lo' : Nat} (h : lo' ≤ lo) {m : List (Nat × α)}
    (hm : sparseWfFrom d lo m = true) : sparseWfFrom d lo' m = true := by
  cases m with
  | nil => rfl
  | cons c m => simp only [sparseWfFrom, Bool.and_eq_true, decide_eq_true_eq] at hm ⊢; exact ⟨⟨by omega, hm.1.2⟩, hm.2⟩

/-- A write at or above the start keeps the canonical form from there. -/
theorem sparseWrite_wfFrom {α : Type} [DecidableEq α] {d : α} {lo a : Nat} (v : α) {m : List (Nat × α)}
    (hm : sparseWfFrom d lo m = true) (ha : lo ≤ a) : sparseWfFrom d lo (sparseWrite d m a v) = true := by
  induction m generalizing lo with
  | nil => by_cases e : v = d <;> simp [sparseWrite, e, sparseWfFrom, ha]
  | cons c m ih =>
    obtain ⟨b, w⟩ := c
    simp only [sparseWfFrom, Bool.and_eq_true, decide_eq_true_eq] at hm
    obtain ⟨⟨h1, h2⟩, h3⟩ := hm
    unfold sparseWrite
    by_cases hb : b < a
    · simp only [hb, ↓reduceIte, sparseWfFrom, Bool.and_eq_true, decide_eq_true_eq]
      exact ⟨⟨h1, h2⟩, ih h3 hb⟩
    · by_cases e : b = a
      · subst e
        by_cases hv : v = d
        · simpa [hv] using sparseWfFrom_mono (Nat.le_succ_of_le h1) h3
        · simp [sparseWfFrom, h1, hv, h3]
      · have hlt : a < b := by omega
        by_cases hv : v = d
        · rw [if_neg hb, if_neg e, if_pos hv]
          simp only [sparseWfFrom, Bool.and_eq_true, decide_eq_true_eq]
          exact ⟨⟨h1, h2⟩, h3⟩
        · simp only [hb, e, hv, ↓reduceIte, sparseWfFrom, Bool.and_eq_true, decide_eq_true_eq]
          exact ⟨⟨ha, by simp⟩, ⟨hlt, h2⟩, h3⟩

/-- A write keeps the canonical form. -/
theorem sparseWrite_wf {α : Type} [DecidableEq α] {d : α} (a : Nat) (v : α) {m : List (Nat × α)} (hm : sparseWf d m = true) :
    sparseWf d (sparseWrite d m a v) = true := sparseWrite_wfFrom v hm (Nat.zero_le a)

/-- Writes one after another keep the canonical form. -/
theorem sparseWrite_foldl_wf {α β : Type} [DecidableEq α] {d : α} (key : β → Nat) (val : β → α) (l : List β) {m : List (Nat × α)}
    (hm : sparseWf d m = true) : sparseWf d (l.foldl (fun c y => sparseWrite d c (key y) (val y)) m) = true := by
  induction l generalizing m with
  | nil => exact hm
  | cons y l ih => exact ih (sparseWrite_wf (key y) (val y) hm)

/-- A byte written keeps the canonical form. -/
theorem Memory.write_wf {m : List Host.Cell} (a : Nat) (v : Byte) (hm : Memory.wf m = true) : Memory.wf (Memory.write m a v) = true :=
  sparseWrite_wf a v hm

/-- A run of bytes written keeps the canonical form. -/
theorem Memory.writeBytes_wf {m : List Host.Cell} (a : Nat) (l : List Byte) (hm : Memory.wf m = true) :
    Memory.wf (Memory.writeBytes m a l) = true := by
  induction l generalizing m a with
  | nil => exact hm
  | cons b l ih => exact ih (a + 1) (Memory.write_wf a b hm)

/-- Runs written one after another keep the canonical form. -/
theorem Memory.writeBytes_foldl_wf {β : Type} (key : β → Nat) (val : β → List Byte) (l : List β) {m : List Host.Cell}
    (hm : Memory.wf m = true) : Memory.wf (l.foldl (fun c y => Memory.writeBytes c (key y) (val y)) m) = true := by
  induction l generalizing m with
  | nil => exact hm
  | cons y l ih => exact ih (Memory.writeBytes_wf (key y) (val y) hm)

/-! ### The memories of the state -/

/-- The memories of the reset state are in canonical form. -/
theorem reset_memoriesWf : State.reset.memoriesWf = true := by decide

/-- Host memory (R61). -/
theorem hostWrite_wf (s : State) (a : Nat) (l : List Byte) (h : Memory.wf s.hostMem = true) :
    Memory.wf (s.hostWrite a l).hostMem = true := Memory.writeBytes_wf a l h

@[simp] theorem cleanWord_cells (w : Nat) (s : State) : (cleanWord w s).mem.cells = s.mem.cells := rfl
@[simp] theorem noteCorrected_cells (s : State) : (noteCorrected s).mem.cells = s.mem.cells := rfl

/-- A codeword of device memory written, in whole or in part (R540). -/
theorem writeWord_wf (w lo : Nat) (bytes : List Byte) (s : State) (h : Memory.wf s.mem.cells = true) :
    Memory.wf (writeWord w lo bytes s).mem.cells = true := by
  unfold writeWord writeWord.poisonPut
  dsimp only
  repeat' split
  all_goals try simp only [mapMem_mem, cleanWord_cells, noteCorrected_cells]
  all_goals first
    | with_reducible exact h
    | with_reducible exact Memory.writeBytes_wf _ _ h
    | with_reducible exact Memory.writeBytes_wf _ _ (Memory.writeBytes_wf _ _ h)

/-- Bytes written to device memory, one codeword after another. -/
theorem devWriteFuel_wf (n a : Nat) (bytes : List Byte) (s : State) (h : Memory.wf s.mem.cells = true) :
    Memory.wf (devWriteFuel n a bytes s).mem.cells = true := by
  induction n generalizing a bytes s with
  | zero => exact h
  | succ n ih =>
    unfold devWriteFuel
    split
    · exact h
    · exact ih _ _ _ (writeWord_wf _ _ _ s h)

/-- Bytes written to device memory (R99). -/
theorem devWrite_wf (a : Nat) (bytes : List Byte) (s : State) (h : Memory.wf s.mem.cells = true) :
    Memory.wf (devWrite a bytes s).mem.cells = true := devWriteFuel_wf _ a bytes s h

/-- What a 2D engine has read, as a memory. -/
theorem readImage_wf (got : List (Nat × List Byte)) : Memory.wf (readImage got).mem.cells = true :=
  Memory.writeBytes_foldl_wf (fun x : Nat × List Byte => 128 * x.1) (fun x => x.2) got rfl

/-- Words of a row of the basin put into it (R216). -/
theorem basin_words_wf (l : List (Nat × Word32)) (s : State) (h : sparseWf (0 : Word32) s.basin.cells = true) :
    sparseWf (0 : Word32) (l.foldl (fun c y => sparseWrite 0 c y.1 y.2) s.basin.cells) = true :=
  sparseWrite_foldl_wf (fun y : Nat × Word32 => y.1) (fun y => y.2) l h

/-- The contents of an inserted drive (R449). -/
theorem diskOf_wf (l : List (Nat × Byte)) : Memory.wf (diskOf l) = true :=
  sparseWrite_foldl_wf (d := (0 : Byte)) (fun c : Nat × Byte => c.1) (fun c => c.2) l (m := []) rfl

/-- The data of a write command on the drive (R458). -/
theorem writeLanded_wf (c : NvmeCmd) (s : State) (h : Memory.wf s.recording.disk = true) :
    Memory.wf (writeLanded c s).recording.disk = true := by
  unfold writeLanded
  split
  · exact Memory.writeBytes_wf _ _ h
  · exact h

end Sys2Proof.Laws
end

