-- ==== Sys2Proof/WellFormed.lean ====
section
/-! DEFINITION. When a command is well formed: every number names an object of the module, and a barge is as long as its
header says. The meanings are total on any command; the world sends well-formed ones. -/
namespace Sys2Proof

/-- A barge as the rings carry it: ring 0 to 15, 1 to 64 slots, and as many bytes (R66). -/
def Barge.wf (b : Barge) : Bool :=
  decide (b.ring < 16) && decide (1 ≤ b.slots) && decide (b.slots ≤ 64) && b.bytes.length == 64 * b.slots

/-- A command names objects that the module has. -/
def Instr.wf : Instr → Bool
  | .nop b => b.wf
  | .identify b => b.wf
  | .ringCreate b => b.wf
  | .ringDelete b => b.wf
  | .heartbeatSet b => b.wf
  | .sleep b => b.wf
  | .depotChallenge b => b.wf
  | .depotEnter b => b.wf
  | .depotExit b => b.wf
  | .fenceCreate b => b.wf
  | .fenceDestroy b => b.wf
  | .statusReport b => b.wf
  | .memAlloc b => b.wf
  | .memFree b => b.wf
  | .surfaceRegister b => b.wf
  | .surfaceFree b => b.wf
  | .dmaUpload b => b.wf
  | .dmaDownload b => b.wf
  | .surfaceSeal b => b.wf
  | .surfaceUnseal b => b.wf
  | .surfaceQuery b => b.wf
  | .layerAssign b => b.wf
  | .layerRelease b => b.wf
  | .layerSet b => b.wf
  | .podDefine b => b.wf
  | .podDelete b => b.wf
  | .commit b => b.wf
  | .shadowBankComplete pipe => decide (pipe < 8)
  | .damageDeclare b => b.wf
  | .layerQuery b => b.wf
  | .pipeConfig b => b.wf
  | .pipeRemove b => b.wf
  | .pipeEnable b => b.wf
  | .pipeDisable b => b.wf
  | .timingChange b => b.wf
  | .towSet b => b.wf
  | .linkStatus b => b.wf
  | .edidRead b => b.wf
  | .writebackSet b => b.wf
  | .cameraDeclare b => b.wf
  | .cameraRemove b => b.wf
  | .cameraStart b => b.wf
  | .cameraStop b => b.wf
  | .cameraRingSet b => b.wf
  | .cameraStatus b => b.wf
  | .latencyContractSet b => b.wf
  | .bltCopy b => b.wf
  | .bltFill b => b.wf
  | .bltRop3 b => b.wf
  | .bltMonoExpand b => b.wf
  | .bltAlpha b => b.wf
  | .bltConvert b => b.wf
  | .twoDReserve b => b.wf
  | .twoDReserveRemove b => b.wf
  | .bltBatch b => b.wf
  | .cvConfig b => b.wf
  | .cvDma b => b.wf
  | .cvContextSave b => b.wf
  | .cvContextLoad b => b.wf
  | .frameSignSet b => b.wf
  | .cvReserve b => b.wf
  | .cvReserveRemove b => b.wf
  | .recStreamAdd b => b.wf
  | .recStreamRemove b => b.wf
  | .recBurst b => b.wf
  | .recBurstStop b => b.wf
  | .recQuery b => b.wf
  | .storeWrite b => b.wf
  | .storeRead b => b.wf
  | .programmeLoad b => b.wf
  | .programmeRemove b => b.wf
  | .prepareRemove b => b.wf
  | .formatDrive b => b.wf
  | .unprotect b => b.wf
  | .qCreate b => b.wf
  | .qDelete b => b.wf
  | .qQuotaSet b => b.wf
  | .qWeirSet b => b.wf
  | .qFlush b => b.wf
  | .qQuery b => b.wf
  | .eventRingCreate b => b.wf
  | .eventRingDelete b => b.wf
  | .eventRoute b => b.wf
  | .moderationSet b => b.wf
  | .eventEnable b => b.wf
  | .eventDisable b => b.wf
  | .eventMaskSources b => b.wf
  | .eventUnmask b => b.wf
  | .powerQuery b => b.wf
  | .baseplateDeclare b => b.wf
  | .sprintPolicy b => b.wf
  | .schedWeights b => b.wf
  | .patchLoad b => b.wf
  | .patchActivate b => b.wf
  | .patchDeactivate b => b.wf
  | .attest b => b.wf
  | .keyRevoke b => b.wf
  | .configImageStore b => b.wf
  | .rollbackAdvance b => b.wf
  | .bistRun b => b.wf
  | .selftestPolicy b => b.wf
  | .dumpRead b => b.wf
  | .dumpClear b => b.wf
  | .faultInject b => b.wf
  | .sqTailDb ring _ => decide (ring < 16)
  | .cqHeadDb ring _ => decide (ring < 16)
  | .bargeFetch _ => true
  | .bargeStart ring => decide (ring < 16)
  | .heartbeat _ => true
  | .snap _ => true
  | .fenceSignal fence _ _ => decide (fence < 256)
  | .adminEnable _ => true
  | .adminReset _ => true
  | .bar2Base _ => true
  | .bar2Read _ _ => true
  | .bar2Write _ _ => true
  | .lowWordRead bar _ => (bar == 0 || bar == 4 || bar == 255)
  | .registerWrite bar _ width _ => (bar == 0 || bar == 4 || bar == 255) && (width == 1 || width == 2 || width == 4 || width == 8)
  | .complete _ => true
  | .ecSnap _ => true
  | .headDb ring _ => decide (ring < 32)
  | .msixUnmask _ => true
  | .claim pair => decide (pair < 2)
  | .pairComplete pair _ => decide (pair < 2)
  | .functionLevelReset => true
  | .fundamentalReset => true
  | .d3hotEntry => true
  | .d0Return => true
  | .d3coldEntry => true
  | .pmeResend => true
  | .lock pipe => decide (pipe < 8)
  | .lineRelease pipe half y => decide (pipe < 8) && decide (half < 2) && decide (y < 65536)
  | .fetchReturn pipe half y _ _ => decide (pipe < 8) && decide (half < 2) && decide (y < 65536)
  | .deadline pipe half y => decide (pipe < 8) && decide (half < 2) && decide (y < 65536)
  | .lineWrite pipe half y => decide (pipe < 8) && decide (half < 2) && decide (y < 65536)
  | .windowOpen pipe half y => decide (pipe < 8) && decide (half < 2) && decide (y < 65536)
  | .windowClose pipe half y _ => decide (pipe < 8) && decide (half < 2) && decide (y < 65536)
  | .bankRebuildComplete => true
  | .lastPixelRepeat pipe half y _ => decide (pipe < 8) && decide (half < 2) && decide (y < 65536)
  | .frameStart pipe => decide (pipe < 8)
  | .verticalBlanking pipe => decide (pipe < 8)
  | .towDecision pipe => decide (pipe < 8)
  | .blackFramesEnd pipe => decide (pipe < 8)
  | .landingCheck pipe half y => decide (pipe < 8) && decide (half < 2) && decide (y < 65536)
  | .laneFaultDetected lane _ => decide (lane < 9)
  | .laneFaultDeclared lane => decide (lane < 9)
  | .takeoverSpareStart => true
  | .handoverLoaded => true
  | .hpdLow link => decide (link < 12)
  | .hpdHigh link => decide (link < 12)
  | .irqHpd link => decide (link < 12)
  | .hpdStormEnd link _ => decide (link < 12)
  | .auxReply link _ => decide (link < 12)
  | .auxTimeout link => decide (link < 12)
  | .trainingAttemptEnd link _ => decide (link < 12)
  | .trainingRetry link => decide (link < 12)
  | .linkLost link => decide (link < 12)
  | .cameraFs input _ _ => decide (input < 10)
  | .cameraLinePacket input _ => decide (input < 10)
  | .cameraLineLanded input => decide (input < 10)
  | .cameraFe input _ _ => decide (input < 10)
  | .cameraEmbeddedData input _ _ _ => decide (input < 10)
  | .cameraPacketDiscard input _ => decide (input < 10)
  | .cameraLinkError input => decide (input < 10)
  | .frameTimeout input => decide (input < 10)
  | .fsMissing input => decide (input < 10)
  | .cameraStartTimeout input => decide (input < 10)
  | .cameraStopTimeout input => decide (input < 10)
  | .twoDJobBegin engine => decide (engine < 2)
  | .twoDBurst engine _ => decide (engine < 2)
  | .twoDLineLanded engine => decide (engine < 2)
  | .twoDJobComplete engine => decide (engine < 2)
  | .cvDescriptor channel => decide (channel < 16)
  | .signatureRecord link => decide (link < 12)
  | .put queue _ _ => decide (queue < 256)
  | .endItem queue _ => decide (queue < 256)
  | .cancel queue _ => decide (queue < 256)
  | .itemComplete queue => decide (queue < 256)
  | .get queue _ _ => decide (queue < 256)
  | .nextItem queue _ => decide (queue < 256)
  | .dropRemainder queue _ => decide (queue < 256)
  | .markRead queue _ => decide (queue < 256)
  | .rewind queue _ => decide (queue < 256)
  | .release queue _ => decide (queue < 256)
  | .quarterDrainTimeout quarter => decide (quarter < 4)
  | .quarterSubstitution quarter _ => decide (quarter < 4)
  | .edgeAssertion _ source _ _ => decide (source < 256)
  | .levelChange _ source _ => decide (source < 256)
  | .recordMove => true
  | .eventEntryWrite ring => decide (ring < 32)
  | .holdoffTimerExpiry vector => decide (vector < 64)
  | .firmwareTick => true
  | .watchdog => true
  | .containEntry _ _ pair => decide (pair < 2)
  | .containExit => true
  | .dumpCopyComplete _ => true
  | .segmentClose => true
  | .segmentWrite => true
  | .manifestClose => true
  | .manifestWrite => true
  | .encodeFrame stream => decide (stream < 16)
  | .creditTick => true
  | .ledgerCompare _ _ => true
  | .driveInserted _ => true
  | .driveRateTestEnd _ => true
  | .driveRemoved => true
  | .nvmeCommandTimeout _ _ => true
  | .canFrameReceived _ _ => true
  | .vehicleStateTimeout => true
  | .canTimeout => true
  | .statusCanTx => true
  | .vinValid _ => true
  | .vinLow _ => true
  | .vinHigh _ => true
  | .vinRestored _ _ _ => true
  | .powerFailure => true
  | .thermalSample _ _ _ => true
  | .thermalHoldEnd => true
  | .sprintBegin => true
  | .sprintEnd _ => true
  | .schedulerTick _ => true
  | .scrubPassStart => true
  | .heartbeatTimeout => true
  | .sleepTimer => true
  | .wakeSource _ => true
  | .bootRestart => true
  | .serviceReady => true
  | .gddr6CrcFail device _ => decide (device < 4)
  | .remirrorComplete => true
  | .lockstepMismatch pair => decide (pair < 2)
  | .phaseFault _ _ => true
  | .selftestStep kind => decide (kind < 5)
  | .selftestStepEnd kind _ => decide (kind < 5)
  | .faultOutConditionEnd => true
  | .towpathIdentify _ => true
  | .towpathStatus _ => true
  | .towpathSummary _ => true
  | .towpathRead _ _ => true
  | .cameraPhyLinkUp input => decide (input < 10)
  | .cameraPhyLinkLost input => decide (input < 10)
  | .lightEntries => true
  | .wakeOutRelease => true
  | .challengeExpired => true
  | .towpathBadFrame _ _ _ => true
  | .tpCtsChange _ => true
  | .canBusError _ _ => true
  | .canBusOffRecovery => true
  | .nvmeCommandComplete _ _ _ => true
  | .dmaTransferComplete ring _ => decide (ring < 16)
  | .flashProgramComplete _ => true
  | .sealComputeComplete ring _ => decide (ring < 16)
  | .signingComplete => true
  | .bistComplete _ _ _ => true
  | .superblockUpdateTimer => true
  | .vinHighEnd _ => true
  | .holdUpStoreCharged _ => true
  | .aphyRetransmitRequest link => decide (link < 12)
  | .gddr6SupplyFault device => decide (device < 4)
  | .domainIdleTimeout domain => decide (domain < 80)

end Sys2Proof
end

