-- ==== Sys2Proof/Tests/Slice0.lean ====
section
/-! SUPPORT. Tests of the model: states and operands that meet the conditions of each statement, terms that WellFormed refuses,
and single steps whose results the manual states. -/
namespace Sys2Proof.Tests

open Sys2Proof Sys2Proof.Machine

set_option Elab.async false
set_option linter.unusedVariables false

/-! ### States and operands -/

/-- What a pair holds on the left, and its second part. -/
def leftOf {α β γ : Type} (d : α) (p : (α ⊕ β) × γ) : α × γ := (match p.1 with | .inl a => a | .inr _ => d, p.2)
theorem leftOf_eq {α β γ : Type} {d : α} {p : (α ⊕ β) × γ} (h : p.1.isLeft = true) : p = (.inl (leftOf d p).1, (leftOf d p).2) := by
  obtain ⟨x, c⟩ := p
  cases x with
  | inl a => rfl
  | inr b => cases h
theorem some_getD {α : Type} {o : Option α} {d : α} (h : o.isSome = true) : o = some (o.getD d) := by
  cases o with
  | none => cases h
  | some a => rfl
theorem some_pair {α β : Type} {o : Option (α × β)} {d : α × β} (h : o.isSome = true) : o = some ((o.getD d).1, (o.getD d).2) := by
  cases o with
  | none => cases h
  | some a => rfl
/-- A list of byte values filled with zeros to `n`. -/
def pad (n : Nat) (l : List Nat) : List Nat := l ++ List.replicate (n - l.length) 0
/-- The byte values of a little-endian number. -/
def le (n v : Nat) : List Nat := (leBytes n v).map (·.toNat)
/-- A barge of a ring with an opcode and a payload, the rest of its header zero (Table 2-8). -/
def testBarge (ring op : Nat) (pay : List Nat) : Barge :=
  { ring
    bytes := (le 2 op ++ [1 + (pay.length + 63) / 64, 0] ++ le 2 pay.length ++ [ring, 0] ++ pad 56 [] ++
      pad (64 * ((pay.length + 63) / 64)) pay).map (BitVec.ofNat 8) }
/-- The state after reset. -/
def rst : State := State.reset
/-- In SERVICE, the vehicle stationary. -/
def serviceState : State :=
  { rst.mapMode fun m => { m with base := .service, shown := 3, ready := true } with
    can := { rst.can with valid := true, stationary := true } }
/-- In DEPOT. -/
def depotState : State := serviceState.mapMode fun m => { m with base := .depot, shown := 6 }
/-- Device memory with one region of 2 granules; an output stage of 100 and 1,000 cd/m² stands at its start. -/
def withRegion (s : State) : State :=
  s.mapMem fun m => { m with regions := [{ base := 0, count := 2 }], cells := [(0, 100), (2, 232), (3, 3)] }
/-- One region. -/
def regionState : State := withRegion rst
/-- In SERVICE with a challenge outstanding and memory for a ticket. -/
def ticketState : State := (withRegion serviceState).mapMode fun m => { m with challenge := some ([], 1) }
/-- A surface of 64 by 16 pixels of ARGB8888 at address 0. -/
def testSurface : Surface := { live := true, width := 64, height := 16, format := 1, pitch0 := 256 }
/-- A second one behind it. -/
def maskSurface : Surface := { index := 1, live := true, base := 8192, width := 64, height := 16, format := 0x20, pitch0 := 64 }
/-- One region with two surfaces. -/
def surfaceState : State := { regionState with surfaces := [testSurface, maskSurface] }
/-- Handle of the first surface: index 0, generation 1. -/
def surfaceHandle : Nat := 65536
/-- SURFACE_REGISTER of the first surface. -/
def surfacePay : List Nat := pad 32 (le 8 0 ++ le 2 64 ++ le 2 16 ++ [1, 0, 0, 0] ++ le 4 256)
/-- 640 by 480 pixels at 60 Hz on DisplayPort link 0. -/
def testCfg : PipeCfg :=
  { linkKind := 1, links := 1, link0 := 0, laneCount := 4, linkRate := 1, pixclk := 25200000
    hActive := 640, hFp := 16, hSync := 96, hBp := 48, vActive := 480, vFp := 10, vSync := 2, vBp := 33
    vtMin := 525, vtMax := 600, lead := 24, bpc := 8 }
/-- The 48 bytes of that configuration with another vertical front porch. -/
def cfgBytes (vFp : Nat) : List Nat :=
  pad 48 ([0, 1, 1, 0, 0, 255, 4, 1] ++ le 4 25200000 ++ le 2 640 ++ le 2 16 ++ le 2 96 ++ le 2 48 ++ le 2 480 ++ le 2 vFp ++ le 2 2 ++
    le 2 33 ++ le 2 525 ++ le 2 600 ++ le 2 24 ++ [8])
/-- PIPE_CONFIG of pipe 0. -/
def configPay : List Nat := cfgBytes 10
/-- TIMING_CHANGE of pipe 0 to a front porch of 10 lines and some. -/
def timingPay (k : Nat) : List Nat := pad 8 [] ++ cfgBytes (10 + k)
/-- What the output stage of address 0 reads as, and the state after reading it. -/
def configStage : OutStage × State :=
  match readOstage (testBarge 0 0x0401 configPay) 0 regionState with
  | (.inl o, t) => (o, t)
  | (.inr _, t) => ({}, t)
/-- The state with the configuration and its write-back ring. -/
def configFitted : State :=
  match fitWbRing 0 testCfg (setConfig 0 testCfg configStage.1 configStage.2) with
  | .inl u => u
  | .inr _ => rst
/-- Pipe 0 configured. -/
def pipeState : State := regionState.mapPipe 0 fun x => { x with state := .configured, cfg := testCfg, lanes := [0] }
/-- Pipe 0 running and lit. -/
def runningState : State := pipeState.mapPipe 0 fun x => { x with state := .running, lit := true }
/-- Pipe 0 running with a layer that waits for its release. -/
def changedState : State := runningState.mapLayer 63 fun l => { l with state := .releasePending, pipe := 0 }
/-- An envelope of 64 by 16 pixels for surfaces. -/
def testEnv : Envelope := { kinds := 1, maxBpp := 32, maxSrcW := 64, maxSrcH := 16, maxDstW := 64, maxDstH := 16, maxRv := 256, tapsV := 2 }
/-- Layer 63 assigned to the configured pipe 0. -/
def layerState : State := pipeState.mapLayer 63 fun l => { l with state := .assigned, pipe := 0, env := testEnv }
/-- LAYER_ASSIGN of slot 63 to pipe 0 with that envelope. -/
def assignPay : List Nat :=
  pad 32 ([63, 0, 1, 32] ++ le 2 64 ++ le 2 16 ++ le 2 64 ++ le 2 16 ++ le 2 256 ++ [2, 1])
/-- LAYER_SET of slot 63: stacking position 5. -/
def layerSetPay : List Nat := pad 64 [63, 0, 8, 0, 0, 0, 5]
/-- A camera stream of 640 by 480 pixels at 30 Hz. -/
def testDecl : CamDecl :=
  { dt := 0x1E, width := 640, height := 480, framePeriod := 33333333, linePeriod := 60000, enc := 2, phyLanes := 1, laneRate := 2500 }
/-- Cameras 4 and 8 declared. -/
def cameraState : State :=
  (serviceState.mapCam 4 fun m => { m with state := .declared, decl := testDecl }).mapCam 8 fun m =>
    { m with state := .declared, decl := testDecl }
/-- CAMERA_DECLARE of input 8. -/
def declarePay : List Nat :=
  pad 32 ([8, 0, 0x1E, 0] ++ le 2 640 ++ le 2 480 ++ le 4 33333333 ++ le 4 60000 ++ [2, 0, 0, 6, 0, 1, 0, 0] ++ le 2 2500)
/-- CAMERA_DECLARE of input 8 with REMOVE. -/
def removePay : List Nat := pad 32 [8, 0, 0, 1]
/-- Pipe 0 configured with a layer that shows camera 8. -/
def contractState : State :=
  (pipeState.mapCam 8 fun m => { m with state := .declared, decl := testDecl }).mapLayer 63 fun l =>
    { l with state := .assigned, pipe := 0, active := { hasSource := true, kind := 1, input := 8 } }
/-- A camera whose frames may be recorded. -/
def streamReady : State := cameraState
/-- Stream 15 records. -/
def streamState : State := rst.mapStream 15 fun r => { r with live := true, source := 4, br := 1000000, brSust := 1000000 }
/-- An attached drive of the module, empty. -/
def driveState : State :=
  (withRegion serviceState).mapRec fun r =>
    { r with present := true, drive := .own, driveMib := 1048576, super := { nsMib := 1048576, contentMib := 1024, enduranceTb := 1000, serviceHours := 20000 } }
/-- Queue 254 exists. -/
def queueState : State := rst.mapQueue 254 fun x => { x with state := .created, maxItem := 1, quota := 16 }
/-- Memory for an object and an owner key enrolled. -/
def ownerState : State := (withRegion serviceState).mapTrust fun t => { t with ownerHash := t.ownerHash.set 0 (List.replicate 32 1) }
/-- Ring 15 exists with 64 slots and 16 entries. -/
def ringState15 : State := rst.mapRing 15 fun r => { r with state := .active, sqLog2 := 6, cqLog2 := 4, cqBase := 65536 }
/-- Ring 15 has published a NOP. -/
def publishedState : State :=
  ((ringState15.mapRing 15 fun r => { r with sqTail := 1 }).mapMode fun m => { m with ready := true }).hostWrite 0 (testBarge 15 0x0100 []).bytes
/-- Event ring 14 has a record to write. -/
def entryState : State :=
  (rst.mapEvRing 14 fun r => { r with state := 1, queue := 31, sizeLog2 := 4, entryLog2 := 5 }).mapQueue 31 fun x =>
    { x with state := .bound, items := [{ bytes := List.replicate 32 0, complete := true, ended := true }] }
/-- A source of the internal concentrator that may be claimed. -/
def claimSource : Source := { claimed := true, enabled := true, pending := true, priority := 3 }
/-- It stands at 55, and Q16 takes its records. -/
def claimState : State :=
  (rst.mapSource false 55 fun _ => claimSource).mapQueue 16 fun _ => { state := .bound, quota := 64, maxItem := 1 }
/-- Pipe 0 composes its frame. -/
def composingState : State := runningState.mapPipe 0 fun x => { x with composing := true }
/-- A line that was released. -/
def begunLine : LineRec := { opened := true }
/-- Line 0 has begun. -/
def begunState : State := composingState.mapHalf 0 0 fun x => { x with begun := true, lines := [begunLine] }
/-- A line that was issued. -/
def issuedLine : LineRec := { opened := true, issued := true }
/-- Line 0 is issued. -/
def issuedState : State := composingState.mapHalf 0 0 fun x => { x with begun := true, lines := [issuedLine] }
/-- Channel 0 has a descriptor in its queue and its last chain fed. -/
def chainState : State :=
  (regionState.mapChan 0 fun x => { x with chain := some { put := 1 }, rate := 1000 }).mapQueue 48 fun _ =>
    { state := .bound, reserved := true, quota := 16, maxItem := 1, items := [{ bytes := List.replicate 32 0, complete := true, ended := true }] }
/-- That descriptor and the state after it is taken. -/
def takenDescriptor : Descriptor := ((takeDescriptor 0 (feedChannel 0 cvItems chainState)).1).getD {}
/-- The state after it is taken. -/
def afterTaken : State := (takeDescriptor 0 (feedChannel 0 cvItems chainState)).2
/-- A signed object with a body, its signature zero. -/
def imageObject (body : List Nat) : List Byte :=
  (pad 0x14 [] ++ le 4 body.length ++ pad (0x2280 - 0x18) [] ++ body).map (BitVec.ofNat 8)
/-- A configuration image whose vehicle frame is 0x123 and that sends a status frame. -/
def testImage : List Byte := imageObject (pad 0x21 [] ++ [2] ++ pad 6 [] ++ le 4 0x123 ++ le 4 0x124 ++ le 4 0x321)
/-- CAN is on with that image. -/
def canState : State :=
  ((serviceState.mapTrust fun t => { t with config := some testImage }).mapQueue 80 fun _ =>
    { state := .bound, reserved := true, quota := 16, maxItem := 1 }).mapQueue 81 fun _ => { state := .bound, reserved := true, quota := 16, maxItem := 1 }
/-- An empty frame of the vehicle in its queue. -/
def canPut : State := (putItem 80 (leBytes 4 0x123 ++ []) canState).getD rst
/-- What is taken from it. -/
def canTake : List Byte × State := (takeItem 80 { canPut with can := { canPut.can with rxFrames := inc32 canPut.can.rxFrames } }).getD ([], rst)
/-- The bytes taken. -/
def canBytes : List Byte := canTake.1
/-- The state after they are taken. -/
def canTaken : State := canTake.2
theorem canPut_eq : putItem 80 (leBytes 4 0x123 ++ []) canState = some canPut := by
  unfold canPut; exact some_getD (by decide +kernel)
theorem canTake_eq : takeItem 80 { canPut with can := { canPut.can with rxFrames := inc32 canPut.can.rxFrames } } = some (canBytes, canTaken) := by
  unfold canBytes canTaken canTake; exact some_pair (by decide +kernel)
/-- The status frame put and taken. -/
def canStatusTake : List Byte × State :=
  ((putItem 81 (leBytes 1 canState.mode.shown ++ leBytes 1 (bootFlags canState) ++ leBytes 1 (faultSummary canState) ++
    leBytes 1 canState.can.alive ++ leBytes 4 0) { canState with can := { canState.can with alive := (canState.can.alive + 1) % 256 } }).bind
      fun u => takeItem 81 u).getD ([], rst)
/-- Its bytes. -/
def canStatus : List Byte := canStatusTake.1
/-- The state after it. -/
def canSent : State := canStatusTake.2
theorem canStatus_eq :
    ((putItem 81 (leBytes 1 canState.mode.shown ++ leBytes 1 (bootFlags canState) ++ leBytes 1 (faultSummary canState) ++
      leBytes 1 canState.can.alive ++ leBytes 4 0) { canState with can := { canState.can with alive := (canState.can.alive + 1) % 256 } }).bind
        fun u => takeItem 81 u) = some (canStatus, canSent) := by
  unfold canStatus canSent canStatusTake; exact some_pair (by decide +kernel)
/-- Work has waited while sprint is permitted. -/
def sprintState : State :=
  { (serviceState.mapPower fun p => { p with tb := 400, valid := 2000, vinSince := some 0, waitSince := some 0 }) with time := 1000000000 }
/-- In QUIET with an image that sleeps after 60 s. -/
def sleepyState : State :=
  { (serviceState.mapTrust fun t => { t with config := some (imageObject (pad 0x26 [] ++ le 2 60)) }).mapMode
      fun m => { m with base := .quiet, shown := 4 } with
    can := { rst.can with sleepFrom := some 0 } }
/-- In KEEPALIVE with every wake enabled. -/
def keepaliveState : State :=
  (rst.mapTrust fun t => { t with config := some (imageObject (pad 0x20 [] ++ [7])) }).mapMode
    fun m => { m with base := .keepalive, shown := 1 }
/-- In BOOT. -/
def bootState : State := rst.mapMode fun m => { m with base := .boot, shown := 2 }
/-- A surface to be sealed. -/
def sealSurface : Surface := testSurface
/-- The job that seals it. -/
def sealJob : SealJob := { barge := testBarge 0 0x0207 (pad 16 (le 8 surfaceHandle)), index := 0 }
/-- That job runs. -/
def sealState : State := { surfaceState with seals := [sealJob] }
/-- The seal words of the surface, and the state after they are taken. -/
def sealWordsOf : List Word32 × State :=
  leftOf [] (computeSeals sealSurface 0 sealSurface.tiles { sealState with seals := sealState.seals.filter fun k => !decide (k = sealJob) })
/-- What the allocation of one granule places, and the state after it. -/
def placedRegion : Region × State := (placeRegion (allocGranules (testBarge 0 0x0201 (pad 16 [1]))) false .host rst).getD ({}, rst)
/-- The gap of the empty content store. -/
def storeGap : Nat × Nat := (1027, 1023)
/-- A drive whose content store holds object 1 of type 2 in slot 1. -/
def programmeState : State :=
  driveState.mapRec fun r =>
    { r with disk := Memory.writeBytes [] (indexAddr + 64) ((le 4 1 ++ [2, 0, 0, 0] ++ le 4 1027 ++ le 4 100).map (BitVec.ofNat 8)) }
/-- That entry. -/
def programmeEntry : StoreEntry := entryOn programmeState 1
/-- STORE_READ of object 1 into the region. -/
def readPay : List Nat := pad 40 (pad 8 [] ++ le 8 1 ++ pad 16 [] ++ le 4 4096)
/-- Where that object stands. -/
def readSpot : Nat × Nat := (1027 * 1048576, 100)
/-- The block that all 2D payloads begin with: 8 by 8 pixels at the origin (Table 11-4). -/
def blitPay (n dst src : Nat) (rest : List Nat) : List Nat :=
  pad n (pad 8 [] ++ le 8 dst ++ le 8 src ++ le 4 0 ++ le 2 8 ++ le 2 8 ++ pad 8 [] ++ rest)

/-! ### The conditions of each statement can be met -/

theorem witness_RingAndFenceBarges :
    (∃ (b : Barge) (s : State), (nopCheck b s = none)) ∧
    (∃ (b : Barge) (s : State), (identifyCheck b s = none)) ∧
    (∃ (b : Barge) (s : State), (statusReportCheck b s = none)) ∧
    (∃ (b : Barge) (s : State), (ringCreateCheck b s = none)) ∧
    (∃ (b : Barge) (s : State), (ringDeleteCheck b s = none)) ∧
    (∃ (b : Barge) (s : State), (fenceCreateCheck b s = none)) ∧
    (∃ (b : Barge) (s : State), (fenceDestroyCheck b s = none)) ∧
    (∃ (b : Barge) (s : State), (heartbeatSetCheck b s = none)) :=
  ⟨⟨(testBarge 15 0x0100 []), rst, by decide +kernel⟩,
    ⟨(testBarge 15 0x0101 (pad 8 [])), rst, by decide +kernel⟩,
    ⟨(testBarge 0 0x0108 (pad 8 [])), rst, by decide +kernel⟩,
    ⟨(testBarge 0 0x0102 (pad 32 [15, 16, 63, 16, 16])), rst, by decide +kernel⟩,
    ⟨(testBarge 0 0x0103 (pad 8 [15])), (rst.mapRing 15 fun r => { r with state := .active }), by decide +kernel⟩,
    ⟨(testBarge 0 0x0106 (pad 16 [255])), rst, by decide +kernel⟩,
    ⟨(testBarge 0 0x0107 (pad 8 [255])), (rst.mapHost fun h => { h with fences := h.fences.set 255 (some 7) }), by decide +kernel⟩,
    ⟨(testBarge 0 0x0104 (pad 8 [100])), rst, by decide +kernel⟩⟩

theorem witness_ModeBarges :
    (∃ (b : Barge) (s : State), (sleepCheck b s = none)) ∧
    (∃ (b : Barge) (s : State) (c : List Byte × Nat), (depotChallengeCheck b s = none) ∧ (openChallenge s = some c)) ∧
    (∃ (b : Barge) (s : State), (depotChallengeCheck b s = none) ∧ (openChallenge s = none)) ∧
    (∃ (b : Barge) (s : State), (depotEnterCheck b s = none) ∧ (s.mode.base = .depot)) ∧
    (∃ (b : Barge) (s : State), (depotEnterCheck b s = none) ∧ (s.mode.base ≠ .depot)) ∧
    (∃ (b : Barge) (s : State), (depotExitCheck b s = none) ∧ (s.mode.base = .depot)) ∧
    (∃ (b : Barge) (s : State), (depotExitCheck b s = none) ∧ (s.mode.base ≠ .depot)) :=
  ⟨⟨(testBarge 0 0x0105 (pad 16 [1])), (serviceState.mapMode fun m => m), by decide +kernel⟩,
    ⟨(testBarge 0 0x0105 (pad 16 [2])), (rst.mapMode fun m => { m with challenge := some ([], 1) }), ([], 1), by decide +kernel, by decide +kernel⟩,
    ⟨(testBarge 0 0x0105 (pad 16 [2])), rst, by decide +kernel, by decide +kernel⟩,
    ⟨(testBarge 0 0x0105 (pad 16 [3])), depotState, by decide +kernel, by decide +kernel⟩,
    ⟨(testBarge 0 0x0105 (pad 16 [3])), ticketState, by decide +kernel, by decide +kernel⟩,
    ⟨(testBarge 0 0x0105 (pad 16 [4])), depotState, by decide +kernel, by decide +kernel⟩,
    ⟨(testBarge 0 0x0105 (pad 16 [4])), rst, by decide +kernel, by decide +kernel⟩⟩

theorem witness_MemoryBarges :
    (∃ (b : Barge) (s : State) (r : Region) (t : State), (memAllocCheck b s = none) ∧ (placeRegion (allocGranules b) (bit (b.pay 8 1) 0) .host s = some (r, t))) ∧
    (∃ (b : Barge) (s : State), (memFreeCheck b s = none)) ∧
    (∃ (b : Barge) (s : State), (surfaceRegisterCheck b s = none)) ∧
    (∃ (b : Barge) (s : State), (surfaceFreeCheck b s = none)) ∧
    (∃ (b : Barge) (s : State), (dmaUploadCheck b s = none)) ∧
    (∃ (b : Barge) (s : State), (dmaDownloadCheck b s = none)) ∧
    (∃ (b : Barge) (s : State), (surfaceSealCheck b s = none)) ∧
    (∃ (b : Barge) (s : State), (surfaceUnsealCheck b s = none)) ∧
    (∃ (b : Barge) (s : State), (surfaceQueryCheck b s = none)) :=
  ⟨⟨(testBarge 0 0x0201 (pad 16 [1])), rst, (placedRegion).1, (placedRegion).2, by decide +kernel, by decide +kernel⟩,
    ⟨(testBarge 0 0x0202 (pad 8 [])), regionState, by decide +kernel⟩,
    ⟨(testBarge 0 0x0203 surfacePay), regionState, by decide +kernel⟩,
    ⟨(testBarge 0 0x0204 (le 8 surfaceHandle)), surfaceState, by decide +kernel⟩,
    ⟨(testBarge 0 0x0205 (pad 24 [0,0,0,0,0,0,0,0,0,0,0,0,0,0,0,0,4])), regionState, by decide +kernel⟩,
    ⟨(testBarge 0 0x0206 (pad 24 [0,0,0,0,0,0,0,0,0,0,0,0,0,0,0,0,4])), regionState, by decide +kernel⟩,
    ⟨(testBarge 0 0x0207 (le 8 surfaceHandle ++ pad 8 [])), surfaceState, by decide +kernel⟩,
    ⟨(testBarge 0 0x0207 (le 8 surfaceHandle ++ pad 8 [1])), surfaceState, by decide +kernel⟩,
    ⟨(testBarge 0 0x0208 (pad 8 [])), rst, by decide +kernel⟩⟩

theorem witness_LayerBarges :
    (∃ (b : Barge) (s : State), (layerAssignCheck b s = none) ∧ ((runAdmission s (assignRequest b s)).1 = none)) ∧
    (∃ (b : Barge) (s : State), (layerReleaseCheck b s = none)) ∧
    (∃ (b : Barge) (s : State), (layerSetCheck b s = none)) ∧
    (∃ (b : Barge) (s : State), (podDefineCheck b s = none)) ∧
    (∃ (b : Barge) (s : State), (podDeleteCheck b s = none)) ∧
    (∃ (b : Barge) (s : State), (commitCheck b s = none) ∧ ((((takeCommit b s).2).pipe (b.pay 0 1)).state = .configured)) ∧
    (∃ (b : Barge) (s : State), (commitCheck b s = none) ∧ (((takeCommit b s).2.pipe (b.pay 0 1)).state ≠ .configured) ∧ ((takeCommit b s).1.groups = []) ∧ ((takeCommit b s).1.releases = [])) ∧
    (∃ (b : Barge) (s : State), (commitCheck b s = none) ∧ (((takeCommit b s).2.pipe (b.pay 0 1)).state ≠ .configured) ∧ ((takeCommit b s).1.groups ≠ [] ∨ (takeCommit b s).1.releases ≠ []) ∧ (((takeCommit b s).2.pipe (b.pay 0 1)).shadow = none)) ∧
    (∃ (b : Barge) (s : State), (commitCheck b s = none) ∧ (((takeCommit b s).2.pipe (b.pay 0 1)).state ≠ .configured) ∧ ((takeCommit b s).1.groups ≠ [] ∨ (takeCommit b s).1.releases ≠ []) ∧ (((takeCommit b s).2.pipe (b.pay 0 1)).shadow ≠ none)) ∧
    (∃ (b : Barge) (s : State), (damageDeclareCheck b s = none) ∧ ((s.pipe (b.pay 0 1)).state = .running)) ∧
    (∃ (b : Barge) (s : State), (damageDeclareCheck b s = none) ∧ ((s.pipe (b.pay 0 1)).state ≠ .running)) ∧
    (∃ (b : Barge) (s : State), (layerQueryCheck b s = none)) ∧
    (∃ (p : Nat) (c : Commit) (s : State), ((s.pipe p).shadow = some c) ∧ (c.complete = false) ∧ (s.mode.contain = false)) :=
  ⟨⟨(testBarge 0 0x0301 assignPay), pipeState, by decide +kernel, by decide +kernel⟩,
    ⟨(testBarge 0 0x0302 (pad 8 [63])), layerState, by decide +kernel⟩,
    ⟨(testBarge 0 0x0303 layerSetPay), layerState, by decide +kernel⟩,
    ⟨(testBarge 0 0x0304 (pad 16 [63, 0, 0, 0, 0, 0, 0, 0, 0, 0, 0, 0, 0, 0, 0, 128])), layerState, by decide +kernel⟩,
    ⟨(testBarge 0 0x0305 (pad 8 [63])), (rst.mapPod 63 fun p => { p with live := true }), by decide +kernel⟩,
    ⟨(testBarge 0 0x0306 (pad 8 [])), pipeState, by decide +kernel, by decide +kernel⟩,
    ⟨(testBarge 0 0x0306 (pad 8 [])), runningState, by decide +kernel, by decide +kernel, by decide +kernel, by decide +kernel⟩,
    ⟨(testBarge 0 0x0306 (pad 8 [])), changedState, by decide +kernel, by decide +kernel, by decide +kernel, by decide +kernel⟩,
    ⟨(testBarge 0 0x0306 (pad 8 [])), (changedState.mapPipe 0 fun x => { x with shadow := some {} }), by decide +kernel, by decide +kernel, by decide +kernel, by decide +kernel⟩,
    ⟨(testBarge 0 0x0307 (pad 16 [0, 0, 0, 1, 0, 0, 0, 0, 0, 0, 0, 0, 1, 0, 1])), runningState, by decide +kernel, by decide +kernel⟩,
    ⟨(testBarge 0 0x0307 (pad 16 [7, 0, 0, 1, 0, 0, 0, 0, 0, 0, 0, 0, 1, 0, 1])), rst, by decide +kernel, by decide +kernel⟩,
    ⟨(testBarge 0 0x0308 (pad 8 [63])), rst, by decide +kernel⟩,
    ⟨7, {}, (rst.mapPipe 7 fun x => { x with shadow := some {} }), by decide +kernel, by decide +kernel, by decide +kernel⟩⟩

theorem witness_PipeBarges :
    (∃ (b : Barge) (s : State) (o : OutStage) (t u : State), (pipeConfigCheck b s = none) ∧ (readOstage b (cfgOf b 0).ostage s = (.inl o, t)) ∧ (fitWbRing (b.pay 0 1) (cfgOf b 0) (setConfig (b.pay 0 1) (cfgOf b 0) o t) = .inl u) ∧ ((runAdmission t { rest := t.mapPipe (b.pay 0 1) fun _ => {}, new := u, pipe := some (b.pay 0 1) }).1 = none)) ∧
    (∃ (b : Barge) (s : State), (pipeRemoveCheck b s = none) ∧ ((s.pipe (b.pay 0 1)).state = .unconfigured)) ∧
    (∃ (b : Barge) (s : State), (pipeRemoveCheck b s = none) ∧ ((s.pipe (b.pay 0 1)).state ≠ .unconfigured)) ∧
    (∃ (b : Barge) (s : State), (pipeEnableCheck b s = none) ∧ ((s.pipe (b.pay 0 1)).state = .configured)) ∧
    (∃ (b : Barge) (s : State), (pipeEnableCheck b s = none) ∧ ((s.pipe (b.pay 0 1)).state ≠ .configured)) ∧
    (∃ (b : Barge) (s : State), (pipeDisableCheck b s = none) ∧ ((s.pipe (b.pay 0 1)).state = .running)) ∧
    (∃ (b : Barge) (s : State), (pipeDisableCheck b s = none) ∧ ((s.pipe (b.pay 0 1)).state ≠ .running)) ∧
    (∃ (b : Barge) (s : State), (timingChangeCheck b s = none) ∧ (cfgOf b 8 = (s.pipe (b.pay 0 1)).current)) ∧
    (∃ (b : Barge) (s : State), (timingChangeCheck b s = none) ∧ (cfgOf b 8 ≠ (s.pipe (b.pay 0 1)).current) ∧ ((cfgOf b 8).ostage = (s.pipe (b.pay 0 1)).current.ostage)) ∧
    (∃ (b : Barge) (s : State), (towSetCheck b s = none) ∧ ((s.pipe (b.pay 0 1)).state = .configured) ∧ ((runAdmission s { rest := withoutTow (b.pay 0 1) s, new := applyTow (b.pay 0 1) (towOf b) s, pipe := some (b.pay 0 1) }).1 = none)) ∧
    (∃ (b : Barge) (s : State), (linkStatusCheck b s = none)) ∧
    (∃ (b : Barge) (s : State), (edidReadCheck b s = none)) ∧
    (∃ (b : Barge) (s : State), (writebackSetCheck b s = none) ∧ ((s.pipe (b.pay 0 1)).state = .configured) ∧ ((wbOf b).enable = false) ∧ ((runAdmission s { rest := withoutTap (b.pay 0 1) s, new := applyWriteback (b.pay 0 1) ((if (wbOf b).dest = 0 then { wbOf b with slots := wbSlots ((s.pipe (b.pay 0 1)).admitted.getD (s.pipe (b.pay 0 1)).cfg) (b.pay 3 1) } else wbOf b)) s }).1 = none)) :=
  ⟨⟨(testBarge 0 0x0401 configPay), regionState, configStage.1, configStage.2, configFitted, by decide +kernel, by decide +kernel, by decide +kernel, by decide +kernel⟩,
    ⟨(testBarge 0 0x0401 (pad 48 [7, 0, 0, 1])), rst, by decide +kernel, by decide +kernel⟩,
    ⟨(testBarge 0 0x0401 (pad 48 [0, 0, 0, 1])), pipeState, by decide +kernel, by decide +kernel⟩,
    ⟨(testBarge 0 0x0402 (pad 8 [])), pipeState, by decide +kernel, by decide +kernel⟩,
    ⟨(testBarge 0 0x0402 (pad 8 [])), runningState, by decide +kernel, by decide +kernel⟩,
    ⟨(testBarge 0 0x0403 (pad 8 [])), runningState, by decide +kernel, by decide +kernel⟩,
    ⟨(testBarge 0 0x0403 (pad 8 [7])), rst, by decide +kernel, by decide +kernel⟩,
    ⟨(testBarge 0 0x0404 (timingPay 0)), runningState, by decide +kernel, by decide +kernel⟩,
    ⟨(testBarge 0 0x0404 (timingPay 1)), runningState, by decide +kernel, by decide +kernel, by decide +kernel⟩,
    ⟨(testBarge 0 0x0405 (pad 16 [])), pipeState, by decide +kernel, by decide +kernel, by decide +kernel⟩,
    ⟨(testBarge 0 0x0407 (pad 8 [7])), rst, by decide +kernel⟩,
    ⟨(testBarge 0 0x0406 (pad 8 [0, 1, 128, 0, 0, 0, 0, 0])), rst, by decide +kernel⟩,
    ⟨(testBarge 0 0x0408 (pad 48 [0, 0, 2, 1])), pipeState, by decide +kernel, by decide +kernel, by decide +kernel, by decide +kernel⟩⟩

theorem witness_CameraBarges :
    (∃ (b : Barge) (s : State), (cameraDeclareCheck b s = none) ∧ ((runAdmission s { rest := undeclared (b.pay 0 1) s, new := (declared (b.pay 0 1) (camDeclOf b) s).1, memFail := (declared (b.pay 0 1) (camDeclOf b) s).2 }).1 = none)) ∧
    (∃ (b : Barge) (s : State), (cameraRemoveCheck b s = none) ∧ ((s.cam (b.pay 0 1)).state = .undeclared)) ∧
    (∃ (b : Barge) (s : State), (cameraRemoveCheck b s = none) ∧ ((s.cam (b.pay 0 1)).state ≠ .undeclared)) ∧
    (∃ (b : Barge) (s : State), (cameraStartCheck b s = none) ∧ ((s.cam (b.pay 0 1)).state = .declared)) ∧
    (∃ (b : Barge) (s : State), (cameraStartCheck b s = none) ∧ ((s.cam (b.pay 0 1)).state ≠ .declared)) ∧
    (∃ (b : Barge) (s : State), (cameraStopCheck b s = none) ∧ ((s.cam (b.pay 0 1)).receiving = true)) ∧
    (∃ (b : Barge) (s : State), (cameraStopCheck b s = none) ∧ ((s.cam (b.pay 0 1)).receiving = false)) ∧
    (∃ (b : Barge) (s : State), (cameraRingSetCheck b s = none) ∧ ((runAdmission s { rest := undeclared (b.pay 0 1) s, new := (ringSet b s).1, memFail := (ringSet b s).2 }).1 = none)) ∧
    (∃ (b : Barge) (s : State), (cameraStatusCheck b s = none)) ∧
    (∃ (b : Barge) (s : State), (latencyContractSetCheck b s = none) ∧ ((contractOf b).cls = 0) ∧ (((heldContracts s).any fun d => d.pipe == (contractOf b).pipe && d.slot == (contractOf b).slot) = false)) ∧
    (∃ (b : Barge) (s : State), (latencyContractSetCheck b s = none) ∧ ((contractOf b).cls ≠ 0) ∧ ((s.pipe (contractOf b).pipe).state = .configured) ∧ ((runAdmission s { rest := withoutContract (contractOf b) s, new := setContract (contractOf b) s, pipe := some (contractOf b).pipe }).1 = none)) :=
  ⟨⟨(testBarge 0 0x0501 declarePay), serviceState, by decide +kernel, by decide +kernel⟩,
    ⟨(testBarge 0 0x0501 removePay), rst, by decide +kernel, by decide +kernel⟩,
    ⟨(testBarge 0 0x0501 removePay), cameraState, by decide +kernel, by decide +kernel⟩,
    ⟨(testBarge 0 0x0502 (pad 8 [4])), cameraState, by decide +kernel, by decide +kernel⟩,
    ⟨(testBarge 0 0x0502 (pad 8 [9])), (rst.mapCam 9 fun m => { m with state := .running }), by decide +kernel, by decide +kernel⟩,
    ⟨(testBarge 0 0x0503 (pad 8 [9])), (rst.mapCam 9 fun m => { m with state := .running }), by decide +kernel, by decide +kernel⟩,
    ⟨(testBarge 0 0x0503 (pad 8 [4])), cameraState, by decide +kernel, by decide +kernel⟩,
    ⟨(testBarge 0 0x0504 (pad 56 [4])), cameraState, by decide +kernel, by decide +kernel⟩,
    ⟨(testBarge 0 0x0505 (pad 8 [9])), rst, by decide +kernel⟩,
    ⟨(testBarge 0 0x0506 (pad 16 [0, 63])), pipeState, by decide +kernel, by decide +kernel, by decide +kernel⟩,
    ⟨(testBarge 0 0x0506 (pad 16 [0, 63, 1, 0, 255, 255, 255, 255])), contractState, by decide +kernel, by decide +kernel, by decide +kernel, by decide +kernel⟩⟩

theorem witness_TwoDBarges :
    (∃ (b : Barge) (s : State), (bltCopyCheck b s = none) ∧ ((engineOut s 0 && engineOut s 1) = false)) ∧
    (∃ (b : Barge) (s : State), (bltFillCheck b s = none) ∧ ((engineOut s 0 && engineOut s 1) = false)) ∧
    (∃ (b : Barge) (s : State), (bltRop3Check b s = none) ∧ ((engineOut s 0 && engineOut s 1) = false)) ∧
    (∃ (b : Barge) (s : State), (bltMonoExpandCheck b s = none) ∧ ((engineOut s 0 && engineOut s 1) = false)) ∧
    (∃ (b : Barge) (s : State), (bltAlphaCheck b s = none) ∧ ((engineOut s 0 && engineOut s 1) = false)) ∧
    (∃ (b : Barge) (s : State), (bltConvertCheck b s = none) ∧ ((engineOut s 0 && engineOut s 1) = false)) ∧
    (∃ (b : Barge) (s : State), (bltBatchCheck b s = none)) ∧
    (∃ (b : Barge) (s : State), (twoDReserveCheck b s = none) ∧ (b.pay 8 4 ≠ 0) ∧ ((runAdmission s { rest := s.mapEngine (b.pay 0 1) Engine.unreserved, new := (accrueEngine (b.pay 0 1) s).mapEngine (b.pay 0 1) fun x =>
            { x with rate := b.pay 8 4, burst := 64 * 2 ^ b.pay 1 1 } }).1 = none)) ∧
    (∃ (b : Barge) (s : State), (twoDReserveRemoveCheck b s = none) ∧ ((s.engine (b.pay 0 1)).jobs = [])) ∧
    (∃ (b : Barge) (s : State), (twoDReserveRemoveCheck b s = none) ∧ ((s.engine (b.pay 0 1)).jobs ≠ [])) :=
  ⟨⟨(testBarge 0 0x0601 (blitPay 40 surfaceHandle surfaceHandle [])), surfaceState, by decide +kernel, by decide +kernel⟩,
    ⟨(testBarge 0 0x0602 (blitPay 48 surfaceHandle 0 [])), surfaceState, by decide +kernel, by decide +kernel⟩,
    ⟨(testBarge 0 0x0603 (blitPay 72 surfaceHandle 0 [])), surfaceState, by decide +kernel, by decide +kernel⟩,
    ⟨(testBarge 0 0x0604 (blitPay 64 surfaceHandle 65537 [])), surfaceState, by decide +kernel, by decide +kernel⟩,
    ⟨(testBarge 0 0x0605 (blitPay 56 surfaceHandle surfaceHandle [1])), surfaceState, by decide +kernel, by decide +kernel⟩,
    ⟨(testBarge 0 0x0606 (blitPay 48 surfaceHandle surfaceHandle [])), surfaceState, by decide +kernel, by decide +kernel⟩,
    ⟨(testBarge 0 0x0607 (pad 16 [0, 0, 0, 0, 0, 0, 0, 0, 1])), regionState, by decide +kernel⟩,
    ⟨(testBarge 0 0x0608 (pad 16 [1, 3, 0, 0, 0, 0, 0, 0, 1])), rst, by decide +kernel, by decide +kernel, by decide +kernel⟩,
    ⟨(testBarge 0 0x0608 (pad 16 [1])), rst, by decide +kernel, by decide +kernel⟩,
    ⟨(testBarge 0 0x0608 (pad 16 [1])), (rst.mapEngine 1 fun x => { x with queue := [{}] }), by decide +kernel, by decide +kernel⟩⟩

theorem witness_CvBarges :
    (∃ (b : Barge) (s : State), (cvConfigCheck b s = none) ∧ ((s.chan (b.pay 0 1)).failed = false)) ∧
    (∃ (b : Barge) (s : State), (cvDmaCheck b s = none) ∧ ((s.chan (b.pay 0 1)).failed = false)) ∧
    (∃ (b : Barge) (s : State), (cvContextSaveCheck b s = none) ∧ ((s.chan (b.pay 0 1)).failed = false) ∧ (privilegedChannel s (b.pay 0 1) = false)) ∧
    (∃ (b : Barge) (s : State), (cvContextSaveCheck b s = none) ∧ (privilegedChannel s (b.pay 0 1) = true)) ∧
    (∃ (b : Barge) (s : State), (cvContextLoadCheck b s = none) ∧ ((s.chan (b.pay 0 1)).failed = false)) ∧
    (∃ (b : Barge) (s : State), (frameSignSetCheck b s = none) ∧ ((bindProducer (signQueue b) (0x20 + 12 + b.pay 0 1 % 4) s).time = s.time)) ∧
    (∃ (b : Barge) (s : State), (cvReserveRemoveCheck b s = none) ∧ ((s.chan (b.pay 0 1)).failed = false)) ∧
    (∃ (b : Barge) (s : State), (cvReserveCheck b s = none) ∧ (b.pay 8 4 ≠ 0) ∧ ((s.chan (b.pay 0 1)).failed = false)) :=
  ⟨⟨(testBarge 0 0x0701 (pad 32 [11, 64, 0, 0, 0, 0, 0, 0, 1])), rst, by decide +kernel, by decide +kernel⟩,
    ⟨(testBarge 0 0x0702 (pad 24 [11, 0, 0, 0, 1])), regionState, by decide +kernel, by decide +kernel⟩,
    ⟨(testBarge 0 0x0703 (pad 8 [11])), rst, by decide +kernel, by decide +kernel, by decide +kernel⟩,
    ⟨(testBarge 0 0x0703 (pad 8 [15])), rst, by decide +kernel, by decide +kernel⟩,
    ⟨(testBarge 0 0x0704 (pad 24 [11])), rst, by decide +kernel, by decide +kernel⟩,
    ⟨(testBarge 0 0x0705 (pad 32 [11, 0, 60])), rst, by decide +kernel, by decide +kernel⟩,
    ⟨(testBarge 0 0x0706 (pad 16 [11])), rst, by decide +kernel, by decide +kernel⟩,
    ⟨(testBarge 0 0x0706 (pad 16 [11, 0, 0, 0, 0, 0, 0, 0, 1])), rst, by decide +kernel, by decide +kernel, by decide +kernel⟩⟩

theorem witness_RecordingBarges :
    (∃ (b : Barge) (s : State), (recStreamAddCheck b s = none) ∧ ((runAdmission s { rest := s, new := (withStream b s).1, stream := b.pay 0 1, memFail := (withStream b s).2 }).1 = none)) ∧
    (∃ (b : Barge) (s : State), (recStreamRemoveCheck b s = none) ∧ ((s.stream (b.pay 0 1)).add = none)) ∧
    (∃ (b : Barge) (s : State), (recBurstCheck b s = none)) ∧
    (∃ (b : Barge) (s : State), (recBurstStopCheck b s = none)) ∧
    (∃ (b : Barge) (s : State), (recQueryCheck b s = none)) :=
  ⟨⟨(testBarge 0 0x0801 (pad 16 [15, 0, 4, 0, 64, 66, 15, 0, 64, 66, 15, 0])), streamReady, by decide +kernel, by decide +kernel⟩,
    ⟨(testBarge 0 0x0802 (pad 8 [15])), streamState, by decide +kernel, by decide +kernel⟩,
    ⟨(testBarge 0 0x0803 (pad 16 [1, 0, 0, 0, 1])), rst, by decide +kernel⟩,
    ⟨(testBarge 0 0x0803 (pad 16 [1, 0, 2])), rst, by decide +kernel⟩,
    ⟨(testBarge 0 0x0804 (pad 8 [])), rst, by decide +kernel⟩⟩

theorem witness_StoreBarges :
    (∃ (b : Barge) (s : State) (g : Nat × Nat), (storeWriteCheck b s = none) ∧ (((freeStore s).find? fun x => decide (ceilDiv (b.pay 16 4) mib ≤ x.2)) = some g)) ∧
    (∃ (b : Barge) (s : State) (p : Nat × Nat), (storeReadCheck b s = none) ∧ (readPlace s b = some p)) ∧
    (∃ (b : Barge) (s : State) (e : StoreEntry), (programmeLoadCheck b s = none) ∧ (storeFind s (b.pay 0 4) = some e)) ∧
    (∃ (b : Barge) (s : State), (programmeRemoveCheck b s = none)) ∧
    (∃ (b : Barge) (s : State), (prepareRemoveCheck b s = none)) ∧
    (∃ (b : Barge) (s : State), (formatCheck b s = none)) ∧
    (∃ (b : Barge) (s : State), (unprotectCheck b s = none)) :=
  ⟨⟨(testBarge 0 0x0805 (pad 24 [1, 0, 0, 0, 0, 0, 0, 0, 0, 0, 0, 0, 0, 0, 0, 0, 1])), driveState, storeGap, by decide +kernel, by decide +kernel⟩,
    ⟨(testBarge 0 0x0806 readPay), programmeState, readSpot, by decide +kernel, by decide +kernel⟩,
    ⟨(testBarge 0 0x0807 (pad 16 [1])), programmeState, programmeEntry, by decide +kernel, by decide +kernel⟩,
    ⟨(testBarge 0 0x0807 (pad 16 [0, 0, 0, 0, 1])), rst, by decide +kernel⟩,
    ⟨(testBarge 0 0x0808 (pad 16 [])), driveState, by decide +kernel⟩,
    ⟨(testBarge 0 0x0808 (pad 16 [1, 0, 0, 0, 0, 4, 0, 0, 1, 0, 0, 0, 232, 3])), (rst.mapRec fun r => { r with present := true, drive := .unformatted, driveMib := 4096 }), by decide +kernel⟩,
    ⟨(testBarge 0 0x0808 (pad 16 [2])), (driveState.mapMode fun m => { m with base := .depot, shown := 5 }), by decide +kernel⟩⟩

theorem witness_PoundBarges :
    (∃ (b : Barge) (s : State), (qCreateCheck b s = none) ∧ (b.pay 0 1 ≠ 0xFF)) ∧
    (∃ (b : Barge) (s : State) (q : Nat), (qCreateCheck b s = none) ∧ (b.pay 0 1 = 0xFF) ∧ (freeHostQueue s = some q)) ∧
    (∃ (b : Barge) (s : State), (qDeleteCheck b s = none)) ∧
    (∃ (b : Barge) (s : State), (qQuotaSetCheck b s = none)) ∧
    (∃ (b : Barge) (s : State), (qWeirSetCheck b s = none)) ∧
    (∃ (b : Barge) (s : State), (qFlushCheck b s = none)) ∧
    (∃ (b : Barge) (s : State), (qQueryCheck b s = none)) :=
  ⟨⟨(testBarge 0 0x0901 (pad 16 [254, 0, 0, 1, 0, 16])), rst, by decide +kernel, by decide +kernel⟩,
    ⟨(testBarge 0 0x0901 (pad 16 [255, 0, 1, 0, 1])), rst, 192, by decide +kernel, by decide +kernel, by decide +kernel⟩,
    ⟨(testBarge 0 0x0902 (pad 8 [254])), queueState, by decide +kernel⟩,
    ⟨(testBarge 0 0x0903 (pad 8 [254, 0, 0, 16])), queueState, by decide +kernel⟩,
    ⟨(testBarge 0 0x0904 (pad 16 [254, 8])), queueState, by decide +kernel⟩,
    ⟨(testBarge 0 0x0905 (pad 8 [254])), queueState, by decide +kernel⟩,
    ⟨(testBarge 0 0x0906 (pad 8 [255])), rst, by decide +kernel⟩⟩

theorem witness_EventAndPowerBarges :
    (∃ (b : Barge) (s : State), (eventRingCreateCheck b s = none)) ∧
    (∃ (b : Barge) (s : State), (eventRingDeleteCheck b s = none) ∧ (b.pay 0 1 < 16) ∧ (bit (b.pay 1 1) 0 = true)) ∧
    (∃ (b : Barge) (s : State), (eventRingDeleteCheck b s = none) ∧ (16 ≤ b.pay 0 1)) ∧
    (∃ (b : Barge) (s : State), (eventRouteCheck b s = none)) ∧
    (∃ (b : Barge) (s : State), (moderationSetCheck b s = none)) ∧
    (∃ (b : Barge) (s : State), (eventMaskCheck b s = none)) ∧
    (∃ (b : Barge) (s : State), (eventMaskCheck b s = none)) ∧
    (∃ (b : Barge) (s : State), (eventMaskCheck b s = none)) ∧
    (∃ (b : Barge) (s : State), (eventMaskCheck b s = none)) ∧
    (∃ (b : Barge) (s : State), (powerQueryCheck b s = none)) ∧
    (∃ (b : Barge) (s : State), (baseplateDeclareCheck b s = none)) ∧
    (∃ (b : Barge) (s : State), (sprintPolicyCheck b s = none)) ∧
    (∃ (b : Barge) (s : State), (schedWeightsCheck b s = none)) :=
  ⟨⟨(testBarge 0 0x0A01 (pad 32 [14, 63, 16, 5])), rst, by decide +kernel⟩,
    ⟨(testBarge 0 0x0A02 (pad 8 [14, 1])), (rst.mapEvRing 14 fun r => { r with state := 1 }), by decide +kernel, by decide +kernel, by decide +kernel⟩,
    ⟨(testBarge 0 0x0A02 (pad 8 [31])), (rst.mapEvRing 31 fun r => { r with state := 1 }), by decide +kernel, by decide +kernel⟩,
    ⟨(testBarge 0 0x0A03 (pad 12 [1, 0, 0, 0, 0, 0, 0, 0, 175, 14, 15, 1])), rst, by decide +kernel⟩,
    ⟨(testBarge 0 0x0A04 (pad 8 [63, 1, 255, 0, 16, 39])), rst, by decide +kernel⟩,
    ⟨(testBarge 0 0x0A05 (pad 40 [0, 0, 0, 0, 0, 0, 0, 0, 255])), rst, by decide +kernel⟩,
    ⟨(testBarge 0 0x0A05 (pad 40 [1, 0, 0, 0, 0, 0, 0, 0, 255])), rst, by decide +kernel⟩,
    ⟨(testBarge 0 0x0A05 (pad 40 [2, 0, 0, 0, 0, 0, 0, 0, 255])), rst, by decide +kernel⟩,
    ⟨(testBarge 0 0x0A05 (pad 40 [3, 0, 0, 0, 0, 0, 0, 0, 255])), rst, by decide +kernel⟩,
    ⟨(testBarge 0 0x0B01 (pad 8 [])), rst, by decide +kernel⟩,
    ⟨(testBarge 0 0x0B02 (pad 8 [125])), rst, by decide +kernel⟩,
    ⟨(testBarge 0 0x0B03 (pad 8 [15, 2])), rst, by decide +kernel⟩,
    ⟨(testBarge 0 0x0B04 (pad 8 [255, 255, 255, 255])), rst, by decide +kernel⟩⟩

theorem witness_TrustBarges :
    (∃ (b : Barge) (s : State), (patchLoadCheck b s = none)) ∧
    (∃ (b : Barge) (s : State), (configImageStoreCheck b s = none)) ∧
    (∃ (b : Barge) (s : State), (patchActivateCheck b s = none) ∧ ((s.trust.patches.getD (b.pay 0 1) {}).state = .active)) ∧
    (∃ (b : Barge) (s : State), (patchActivateCheck b s = none) ∧ ((s.trust.patches.getD (b.pay 0 1) {}).state = .loaded)) ∧
    (∃ (b : Barge) (s : State), (patchDeactivateCheck b s = none)) ∧
    (∃ (b : Barge) (s : State), (attestCheck b s = none)) ∧
    (∃ (b : Barge) (s : State), (keyRevokeCheck b s = none)) ∧
    (∃ (b : Barge) (s : State), (rollbackAdvanceCheck b s = none)) :=
  ⟨⟨(testBarge 0 0x0C01 (pad 16 [0, 0, 0, 0, 0, 0, 0, 0, 0, 32])), regionState, by decide +kernel⟩,
    ⟨(testBarge 0 0x0C05 (pad 16 [0, 0, 0, 0, 0, 0, 0, 0, 0, 32])), ownerState, by decide +kernel⟩,
    ⟨(testBarge 0 0x0C02 (pad 8 [1])), (rst.mapTrust fun t => { t with patches := t.patches.modify 1 fun x => { x with state := .active } }), by decide +kernel, by decide +kernel⟩,
    ⟨(testBarge 0 0x0C02 (pad 8 [1])), (rst.mapTrust fun t => { t with patches := t.patches.modify 1 fun x => { x with state := .loaded } }), by decide +kernel, by decide +kernel⟩,
    ⟨(testBarge 0 0x0C02 (pad 8 [1, 1])), rst, by decide +kernel⟩,
    ⟨(testBarge 0 0x0C03 (pad 48 [])), regionState, by decide +kernel⟩,
    ⟨(testBarge 0 0x0C04 (pad 16 [0, 0, 0, 0, 0, 0, 0, 0, 0, 32])), (regionState.mapMode fun m => { m with base := .depot }), by decide +kernel⟩,
    ⟨(testBarge 0 0x0C06 (pad 8 [1])), (rst.mapTrust fun t => { t with patches := t.patches.modify 1 fun x => { x with state := .active } }), by decide +kernel⟩⟩

theorem witness_FaultBarges :
    (∃ (b : Barge) (s : State), (bistRunCheck b s = none)) ∧
    (∃ (b : Barge) (s : State), (selftestPolicyCheck b s = none) ∧ (bit (b.pay 12 1) 0 = false)) ∧
    (∃ (b : Barge) (s : State), (dumpReadCheck b s = none)) ∧
    (∃ (b : Barge) (s : State), (dumpClearCheck b s = none) ∧ (bit (b.pay 0 1) 0 = true) ∧ (bit (b.pay 0 1) 1 = false)) ∧
    (∃ (b : Barge) (s : State), (faultInjectCheck b s = none)) :=
  ⟨⟨(testBarge 0 0x0D01 (pad 8 [2, 16])), rst, by decide +kernel⟩,
    ⟨(testBarge 0 0x0D02 (pad 16 [5, 0, 16, 14])), rst, by decide +kernel, by decide +kernel⟩,
    ⟨(testBarge 0 0x0D03 (pad 24 [4, 0, 0, 0, 1])), regionState, by decide +kernel⟩,
    ⟨(testBarge 0 0x0D04 (pad 8 [1])), rst, by decide +kernel, by decide +kernel, by decide +kernel⟩,
    ⟨(testBarge 0 0x0D05 (pad 24 [9, 11])), depotState, by decide +kernel⟩⟩

theorem witness_Doorbells :
    (∃ (n v : Nat) (s : State), ((s.ring n).state ≠ .absent) ∧ (v % 2 ^ 16 < 2 ^ (s.ring n).sqLog2)) ∧
    (∃ (n v : Nat) (s : State), ((s.ring n).state ≠ .absent) ∧ (2 ^ (s.ring n).sqLog2 ≤ v % 2 ^ 16)) ∧
    (∃ (n v : Nat) (s : State), ((s.ring n).state ≠ .absent) ∧ (v % 2 ^ 16 < 2 ^ (s.ring n).cqLog2) ∧ ((v % 2 ^ 16 + 2 ^ (s.ring n).cqLog2 - (s.ring n).cqHead) % 2 ^ (s.ring n).cqLog2 ≤ ((s.ring n).cqTail + 2 ^ (s.ring n).cqLog2 - (s.ring n).cqHead) % 2 ^ (s.ring n).cqLog2)) ∧
    (∃ (n : Nat) (s : State), (s.host.dstate = .d0) ∧ (s.mode.contain = false) ∧ (nextRing s = some n) ∧ (badFrame (if n = 0 then s else countRound n s) n = false)) ∧
    (∃ (n : Nat) (s : State), (s.host.dstate = .d0) ∧ (s.mode.contain = false) ∧ (nextRing s = some n)) :=
  ⟨⟨15, 63, ringState15, by decide +kernel, by decide +kernel⟩,
    ⟨15, 64, ringState15, by decide +kernel, by decide +kernel⟩,
    ⟨15, 0, ringState15, by decide +kernel, by decide +kernel, by decide +kernel⟩,
    ⟨15, publishedState, by decide +kernel, by decide +kernel, by decide +kernel, by decide +kernel⟩,
    ⟨15, publishedState, by decide +kernel, by decide +kernel, by decide +kernel⟩⟩

theorem witness_HostRegisters :
    (∃ (v : Word32) (s : State), (railsOn s = true)) ∧
    (∃ (v : Word32) (s : State), (v.toNat % 2 = 1)) ∧
    (∃ (v : Word32) (s : State), (v.toNat % 2 = 0)) ∧
    (∃ (v : Word32) (s : State), (v.toNat % 2 = 1) ∧ ((s.ring 0).state = .absent) ∧ (ring0Bad (s.ring 0) = false)) ∧
    (∃ (v : Word32) (s : State), (bit v.toNat 1 = true) ∧ (((s.ring 0).inflight.any (·.started)) = false)) ∧
    (∃ (v : Word32) (s : State), (v.toNat % 4096 ≤ 3584)) ∧
    (∃ (v : Word32) (s : State), (3584 < v.toNat % 4096)) ∧
    (∃ (off : Nat) (v : Word64) (s : State), (goodAccess off 4 = true)) ∧
    (∃ (off : Nat) (v : Word64) (s : State), (goodAccess off 8 = true)) ∧
    (∃ (off w : Nat) (v : Word64) (s : State), (goodAccess off w = false)) :=
  ⟨⟨1, serviceState, by decide +kernel⟩,
    ⟨1, rst, by decide +kernel⟩,
    ⟨0, rst, by decide +kernel⟩,
    ⟨1, (rst.mapRing 0 fun r => { r with sqLog2 := 6, cqLog2 := 4 }), by decide +kernel, by decide +kernel, by decide +kernel⟩,
    ⟨2, rst, by decide +kernel, by decide +kernel⟩,
    ⟨3584, rst, by decide +kernel⟩,
    ⟨3585, rst, by decide +kernel⟩,
    ⟨0x2FC, 1, rst, by decide +kernel⟩,
    ⟨0x2F8, 1, rst, by decide +kernel⟩,
    ⟨2, 4, 1, rst, by decide +kernel⟩⟩

theorem witness_ResetsAndPowerStates :
    (∃ (s : State), (s.host.dstate = .d3hot)) ∧
    (∃ (s : State), (s.host.dstate = .d3hot) ∧ (s.host.pmeStatus = true)) ∧
    (∃ (s : State), (s.events.wakeOut = true)) :=
  ⟨⟨(rst.mapHost fun h => { h with dstate := .d3hot }), by decide +kernel⟩,
    ⟨(rst.mapHost fun h => { h with dstate := .d3hot, pmeStatus := true }), by decide +kernel, by decide +kernel⟩,
    ⟨(rst.mapEvents fun e => { e with wakeOut := true }), by decide +kernel⟩⟩

theorem witness_Concentrator :
    (∃ (n code : Nat) (l : List Byte) (s : State), (levelKind n = false) ∧ (n ≤ 175)) ∧
    (∃ (n code : Nat) (l : List Byte) (s : State), (internalLevelKind n = false) ∧ (n ≤ 63)) ∧
    (∃ (n : Nat) (on : Bool) (s : State), (levelKind n = true)) ∧
    (∃ (n : Nat) (on : Bool) (s : State), (internalLevelKind n = true) ∧ (n < 64)) ∧
    (∃ (v : Word32) (s : State), ((s.source true (v.toNat % 256)).active = true)) ∧
    (∃ (v : Word32) (s : State), ((s.source true (v.toNat % 256)).active = false)) ∧
    (∃ (v : Word32) (s : State), (v.toNat % 2 = 1)) ∧
    (∃ (k : Nat) (v : Word32) (s : State), ((s.evRing k).state = 1) ∧ (v.toNat % 2 ^ 16 < 2 ^ (s.evRing k).sizeLog2) ∧ ((v.toNat % 2 ^ 16 + 2 ^ (s.evRing k).sizeLog2 - (s.evRing k).head) % 2 ^ (s.evRing k).sizeLog2 ≤ (s.evRing k).waiting)) ∧
    (∃ (k : Nat) (s : State), (entryReady s k = true) ∧ (s.host.dstate = .d0)) ∧
    (∃ (v t : Nat) (s : State), ((s.vector v).timer = some t) ∧ (((s.atTime t).vector v).pending = true) ∧ ((s.atTime t).host.dstate = .d0)) ∧
    (∃ (p : Nat) (s : State), (s.faults.pairBad.getD p true = false) ∧ (bestSource ((s.events.internal.zipIdx.map fun x => (x.2, x.1)).filter fun x => claimable s (at_ s.events.pairs p) x.1 x.2) = none)) ∧
    (∃ (p n : Nat) (x : Source) (s : State), (s.faults.pairBad.getD p true = false) ∧ (bestSource ((s.events.internal.zipIdx.map fun x => (x.2, x.1)).filter fun x => claimable s (at_ s.events.pairs p) x.1 x.2) = some (n, x))) ∧
    (∃ (p : Nat) (v : Word32) (s : State), (((at_ s.events.pairs p).claims.any fun c => c.1 = v.toNat % 256) = true)) :=
  ⟨⟨175, 1, [], rst, by decide +kernel, by decide +kernel⟩,
    ⟨63, 1, [], rst, by decide +kernel, by decide +kernel⟩,
    ⟨166, true, rst, by decide +kernel⟩,
    ⟨52, true, rst, by decide +kernel, by decide +kernel⟩,
    ⟨175, (rst.mapSource true 175 fun x => { x with active := true }), by decide +kernel⟩,
    ⟨255, rst, by decide +kernel⟩,
    ⟨1, rst, by decide +kernel⟩,
    ⟨31, 0, (rst.mapEvRing 31 fun r => { r with state := 1, sizeLog2 := 4 }), by decide +kernel, by decide +kernel, by decide +kernel⟩,
    ⟨14, entryState, by decide +kernel, by decide +kernel⟩,
    ⟨63, 5, (rst.mapVector 63 fun x => { x with timer := some 5, pending := true }), by decide +kernel, by decide +kernel, by decide +kernel⟩,
    ⟨1, rst, by decide +kernel, by decide +kernel⟩,
    ⟨0, 55, claimSource, claimState, by decide +kernel, by decide +kernel⟩,
    ⟨1, 63, (rst.mapEvents fun e => { e with pairs := e.pairs.modify 1 fun y => { y with claims := [(63, 0)] } }), by decide +kernel⟩⟩

theorem witness_LineInstants :
    (∃ (p : Nat) (s : State), ((s.pipe p).state = .running) ∧ (((takeLead p s).pipe p).retime = none)) ∧
    (∃ (p h y : Nat) (s : State), ((s.pipe p).composing = true) ∧ (h < (s.pipe p).cfg.halfCount) ∧ (y < (s.pipe p).cfg.vActive) ∧ (lineRec s p h y = none) ∧ (y ≠ 0)) ∧
    (∃ (p h y : Nat) (s : State), ((s.half p h).nextLine = y) ∧ ((s.half p h).begun = true) ∧ (laneAlive s p h = true) ∧ ((lineRec s p h y).isSome = true) ∧ (racedShort (examineRow p h y false s) p h y = [])) ∧
    (∃ (p h y : Nat) (s : State), ((s.half p h).nextLine = y) ∧ ((s.half p h).begun = true) ∧ (laneAlive s p h = true) ∧ ((lineRec s p h y).isSome = true)) ∧
    (∃ (p h y : Nat) (r : LineRec) (s : State), (((s.half p h).lines.find? fun x => x.y == y && x.issued && !x.closed) = some r) ∧ (r.opened = true)) ∧
    (∃ (p h y : Nat) (r : LineRec) (s : State), (((s.half p h).lines.find? fun x => x.y == y && !x.opened) = some r) ∧ (r.waiting = false)) ∧
    (∃ (p h y : Nat) (l : List BasinUpset) (s : State), (generating ((addBasinUpsets l s).pipe p) = true) ∧ (h < ((addBasinUpsets l s).pipe p).cfg.halfCount) ∧ (y < ((addBasinUpsets l s).pipe p).cfg.vActive)) ∧
    (∃ (p h y : Nat) (r : LineRec) (s : State), (lineRec s p h y = some r) ∧ (r.landed = false) ∧ (r.waiting = false) ∧ (r.skipped = false) ∧ ((s.half p h).begun = false)) :=
  ⟨⟨0, runningState, by decide +kernel, by decide +kernel⟩,
    ⟨0, 0, 479, composingState, by decide +kernel, by decide +kernel, by decide +kernel, by decide +kernel, by decide +kernel⟩,
    ⟨0, 0, 0, begunState, by decide +kernel, by decide +kernel, by decide +kernel, by decide +kernel, by decide +kernel⟩,
    ⟨0, 0, 0, begunState, by decide +kernel, by decide +kernel, by decide +kernel, by decide +kernel⟩,
    ⟨0, 0, 0, issuedLine, issuedState, by decide +kernel, by decide +kernel⟩,
    ⟨0, 0, 0, { y := 0 }, (rst.mapHalf 0 0 fun x => { x with lines := [{ y := 0 }] }), by decide +kernel, by decide +kernel⟩,
    ⟨0, 0, 479, [], runningState, by decide +kernel, by decide +kernel, by decide +kernel⟩,
    ⟨0, 0, 0, (begunLine), (begunState.mapHalf 0 0 fun x => { x with begun := false }), by decide +kernel, by decide +kernel, by decide +kernel, by decide +kernel, by decide +kernel⟩⟩

theorem witness_FrameAndLaneInstants :
    (∃ (p : Nat) (s : State), (generating (s.pipe p) = false)) ∧
    (∃ (p : Nat) (s : State), (generating (s.pipe p) = true)) ∧
    (∃ (p h y x : Nat) (s : State), (generating (s.pipe p) = true) ∧ (drivesBlack (s.pipe p) = false) ∧ (h < (s.pipe p).cfg.links) ∧ (y < (s.pipe p).cfg.vActive) ∧ (x < (s.pipe p).cfg.wl)) ∧
    (∃ (p n : Nat) (s : State), ((s.pipe p).black = some (n, .disable)) ∧ (n ≤ 1)) ∧
    (∃ (f h : Nat) (s : State), (s.basin.failed = some f) ∧ (s.basin.shadow = some h)) ∧
    (∃ (l c : Nat) (s : State), ((s.lanes.detected.find? fun d => d.1 == l) = some (l, c))) ∧
    (∃ (s : State), (s.lanes.handover = none)) ∧
    (∃ (x : Handover) (p h : Nat) (s : State), (s.lanes.handover = some x) ∧ (x.takeover = false) ∧ (x.loaded = false) ∧ (placeOfLane s x.lane = some (p, h)) ∧ ((s.pipe p).composing = true)) :=
  ⟨⟨7, rst, by decide +kernel⟩,
    ⟨0, runningState, by decide +kernel⟩,
    ⟨0, 0, 479, 639, runningState, by decide +kernel, by decide +kernel, by decide +kernel, by decide +kernel, by decide +kernel⟩,
    ⟨0, 1, (runningState.mapPipe 0 fun x => { x with black := some (1, .disable) }), by decide +kernel, by decide +kernel⟩,
    ⟨15, 16, (rst.mapBasin fun x => { x with failed := some 15, shadow := some 16 }), by decide +kernel, by decide +kernel⟩,
    ⟨8, 4, (rst.mapLanes fun l => { l with detected := [(8, 4)] }), by decide +kernel⟩,
    ⟨rst, by decide +kernel⟩,
    ⟨{ lane := 0, out := 0, inc := 8 }, 0, 0, (composingState.mapLanes fun l => { l with handover := some { lane := 0, out := 0, inc := 8 } }), by decide +kernel, by decide +kernel, by decide +kernel, by decide +kernel, by decide +kernel⟩⟩

theorem witness_LinkEvents :
    (∃ (l : Nat) (s : State), ((s.link l).storm = false) ∧ (((countEdges l (b2n (s.link l).hpd) s).link l).storm = false)) ∧
    (∃ (l : Nat) (s : State), ((s.link l).storm = false) ∧ (((countEdges l (b2n !(s.link l).hpd) s).link l).storm = false)) ∧
    (∃ (l : Nat) (s : State), ((s.link l).storm = false) ∧ ((cfgOfLink s l).linkKind ≠ 3) ∧ (((countEdges l 2 s).link l).storm = false) ∧ (((countEdges l 2 s).link l).state = .up)) ∧
    (∃ (l : Nat) (on : Bool) (s : State), ((s.link l).storm = true)) ∧
    (∃ (l : Nat) (j : AuxJob) (r : List AuxJob) (s : State), ((s.link l).aux = j :: r) ∧ (j.defers ≠ 7)) ∧
    (∃ (l : Nat) (j : AuxJob) (r : List AuxJob) (s : State), ((s.link l).aux = j :: r)) ∧
    (∃ (l : Nat) (j : AuxJob) (r : List AuxJob) (s : State), ((s.link l).aux = j :: r) ∧ (j.timeouts ≠ 3)) ∧
    (∃ (l rate n : Nat) (s : State), ((s.link l).state = .training)) ∧
    (∃ (l p : Nat) (s : State), (pipeOfLink s l = some p) ∧ ((s.pipe p).state = .running) ∧ ((s.pipe p).black = none) ∧ ((s.link l).state = .down) ∧ (hasHpd (s.pipe p).cfg (s.link l) = true) ∧ ((s.link l).waitHpd = false) ∧ ((s.link l).storm = false)) ∧
    (∃ (l : Nat) (s : State), ((s.link l).state = .up) ∧ ((cfgOfLink s l).isDp = true)) ∧
    (∃ (l : Nat) (s : State), ((s.link l).state = .black)) ∧
    (∃ (l : Nat) (s : State), (4 ≤ l) ∧ ((s.link l).state = .up) ∧ ((s.link l).resends < 4)) :=
  ⟨⟨11, rst, by decide +kernel, by decide +kernel⟩,
    ⟨11, rst, by decide +kernel, by decide +kernel⟩,
    ⟨0, (rst.mapLink 0 fun k => { k with state := .up }), by decide +kernel, by decide +kernel, by decide +kernel, by decide +kernel⟩,
    ⟨11, true, (rst.mapLink 11 fun k => { k with storm := true }), by decide +kernel⟩,
    ⟨0, {}, [], (rst.mapLink 0 fun k => { k with aux := [{}] }), by decide +kernel, by decide +kernel⟩,
    ⟨0, {}, [], (rst.mapLink 0 fun k => { k with aux := [{}] }), by decide +kernel⟩,
    ⟨0, {}, [], (rst.mapLink 0 fun k => { k with aux := [{}] }), by decide +kernel, by decide +kernel⟩,
    ⟨11, 1, 4, (rst.mapLink 11 fun k => { k with state := .training }), by decide +kernel⟩,
    ⟨0, 0, (runningState.mapLink 0 fun k => { k with state := .down, hpd := true }), by decide +kernel, by decide +kernel, by decide +kernel, by decide +kernel, by decide +kernel, by decide +kernel, by decide +kernel⟩,
    ⟨0, (runningState.mapLink 0 fun k => { k with state := .up }), by decide +kernel, by decide +kernel⟩,
    ⟨11, (rst.mapLink 11 fun k => { k with state := .black }), by decide +kernel⟩,
    ⟨4, (rst.mapLink 4 fun k => { k with state := .up, resends := 3 }), by decide +kernel, by decide +kernel, by decide +kernel⟩⟩

theorem witness_CameraEvents :
    (∃ (i vc n : Nat) (s : State), ((s.cam i).receiving = true) ∧ (vc = (s.cam i).decl.vc)) ∧
    (∃ (i : Nat) (x : CamPacket) (s : State), ((s.cam i).receiving = true)) ∧
    (∃ (i vc n : Nat) (s : State), ((s.cam i).receiving = true) ∧ (vc = (s.cam i).decl.vc) ∧ ((s.cam i).open_.isSome = true) ∧ ((s.cam i).packets < (s.cam i).decl.height)) ∧
    (∃ (i vc : Nat) (l : List Byte) (s : State), ((s.cam i).receiving = true) ∧ (vc = (s.cam i).decl.vc)) ∧
    (∃ (i : Nat) (s : State), ((s.cam i).receiving = true)) ∧
    (∃ (i : Nat) (s : State), ((s.cam i).receiving = true)) ∧
    (∃ (i : Nat) (s : State), ((s.cam i).receiving = true) ∧ ((s.cam i).open_.isSome = true)) ∧
    (∃ (i t : Nat) (l : List Nat) (s : State), ((s.cam i).receiving = true) ∧ ((s.cam i).fsTimes = t :: l) ∧ ((s.cam i).open_ = none)) ∧
    (∃ (i : Nat) (b : Barge) (l : List Barge) (s : State), ((s.cam i).starts = b :: l)) ∧
    (∃ (i : Nat) (s : State), ((s.cam i).stops ≠ [])) :=
  ⟨⟨9, 0, 1, (rst.mapCam 9 fun m => { m with state := .running }), by decide +kernel, by decide +kernel⟩,
    ⟨9, {}, (rst.mapCam 9 fun m => { m with state := .running }), by decide +kernel⟩,
    ⟨9, 0, 1, (rst.mapCam 9 fun m => { m with state := .running, open_ := some 0, decl := { m.decl with height := 1 } }), by decide +kernel, by decide +kernel, by decide +kernel, by decide +kernel⟩,
    ⟨9, 0, [], (rst.mapCam 9 fun m => { m with state := .running }), by decide +kernel, by decide +kernel⟩,
    ⟨9, (rst.mapCam 9 fun m => { m with state := .running }), by decide +kernel⟩,
    ⟨9, (rst.mapCam 9 fun m => { m with state := .running }), by decide +kernel⟩,
    ⟨9, (rst.mapCam 9 fun m => { m with state := .running, open_ := some 0 }), by decide +kernel, by decide +kernel⟩,
    ⟨9, 5, [], (rst.mapCam 9 fun m => { m with state := .running, fsTimes := [5] }), by decide +kernel, by decide +kernel, by decide +kernel⟩,
    ⟨9, {}, [], (rst.mapCam 9 fun m => { m with starts := [{}] }), by decide +kernel⟩,
    ⟨9, (rst.mapCam 9 fun m => { m with stops := [{}] }), by decide +kernel⟩⟩

theorem witness_CameraLinkAndEngines :
    (∃ (e : Nat) (j : TwoDJob) (l : List TwoDJob) (s : State), (holding s = false) ∧ (engineOut s e = false) ∧ ((s.engine e).cur = none) ∧ ((s.engine e).queue = j :: l) ∧ (s.mode.contain = false)) ∧
    (∃ (e c : Nat) (j : TwoDJob) (s : State), (holding (accrueEngine e s) = false) ∧ (((accrueEngine e s).engine e).cur = some j) ∧ ((j.parts.flatMap (·.bursts)).head? = some c) ∧ (((accrueEngine e s).engine e).rate = 0)) ∧
    (∃ (e : Nat) (j : TwoDJob) (p : TwoDPart) (r : List TwoDPart) (o : TwoDOp) (s : State), ((s.engine e).cur = some j) ∧ (j.parts = p :: r) ∧ (j.ops[j.cur]? = some o) ∧ (p.bursts = [])) ∧
    (∃ (e : Nat) (j : TwoDJob) (s : State), ((s.engine e).cur = some j) ∧ (j.parts = []) ∧ (j.ops.length ≤ j.cur + 1)) ∧
    (∃ (c : Nat) (s : State), ((s.chan c).chain = none)) ∧
    (∃ (c : Nat) (d : Descriptor) (ch : CvChain) (t : State) (s : State), (holding s = false) ∧ (s.mode.contain = false) ∧ ((s.chan c).chain = some ch) ∧ (((feedChannel c cvItems s).queue (cvQueue c)).current.isSome = true) ∧ (takeDescriptor c (feedChannel c cvItems s) = (some d, t))) ∧
    (∃ (l c : Nat) (r : FrameRecord) (rest : List FrameRecord) (s : State), ((s.signBlock l).inbox = r :: rest) ∧ (signerOf (s.mapSign l fun x => { x with inbox := rest }) l = some c)) :=
  ⟨⟨1, {}, [], (rst.mapEngine 1 fun x => { x with queue := [{}] }), by decide +kernel, by decide +kernel, by decide +kernel, by decide +kernel, by decide +kernel⟩,
    ⟨1, 64, { parts := [{ bursts := [64] }] }, (rst.mapEngine 1 fun x => { x with cur := some { parts := [{ bursts := [64] }] } }), by decide +kernel, by decide +kernel, by decide +kernel, by decide +kernel⟩,
    ⟨1, { ops := [{}], parts := [{}] }, {}, [], {}, (rst.mapEngine 1 fun x => { x with cur := some { ops := [{}], parts := [{}] } }), by decide +kernel, by decide +kernel, by decide +kernel, by decide +kernel⟩,
    ⟨1, { ops := [{}] }, (rst.mapEngine 1 fun x => { x with cur := some { ops := [{}] } }), by decide +kernel, by decide +kernel, by decide +kernel⟩,
    ⟨15, rst, by decide +kernel⟩,
    ⟨0, takenDescriptor, { put := 1 }, afterTaken, chainState, by decide +kernel, by decide +kernel, by decide +kernel, by decide +kernel, by decide +kernel⟩,
    ⟨11, 15, {}, [], (rst.mapSign 11 fun x => { x with inbox := [{}] }), by decide +kernel, by decide +kernel⟩⟩

theorem witness_PoundOperations :
    (∃ (q c : Nat) (l : List Byte) (s : State), (c ≠ 0) ∧ ((s.queue q).state ≠ .absent) ∧ ((s.queue q).producer = c)) ∧
    (∃ (q c : Nat) (s : State), (c ≠ 0) ∧ ((s.queue q).state ≠ .absent) ∧ ((s.queue q).producer = c)) ∧
    (∃ (q c : Nat) (s : State), (c ≠ 0) ∧ ((s.queue q).state ≠ .absent) ∧ ((s.queue q).producer = c)) ∧
    (∃ (q c n : Nat) (s : State), (c ≠ 0) ∧ ((s.queue q).state ≠ .absent) ∧ ((s.queue q).consumer = c)) ∧
    (∃ (q c : Nat) (s : State), (c ≠ 0) ∧ ((s.queue q).state ≠ .absent) ∧ ((s.queue q).consumer = c)) ∧
    (∃ (q c : Nat) (s : State), (c ≠ 0) ∧ ((s.queue q).state ≠ .absent) ∧ ((s.queue q).consumer = c)) ∧
    (∃ (q c : Nat) (s : State), (c ≠ 0) ∧ ((s.queue q).state ≠ .absent) ∧ ((s.queue q).consumer = c)) ∧
    (∃ (q c : Nat) (s : State), (c ≠ 0) ∧ ((s.queue q).state ≠ .absent) ∧ ((s.queue q).consumer = c)) ∧
    (∃ (q c : Nat) (s : State), (c ≠ 0) ∧ ((s.queue q).state ≠ .absent) ∧ ((s.queue q).consumer = c)) ∧
    (∃ (k : Nat) (s : State), (s.pound.draining.getD k false = true)) :=
  ⟨⟨192, 1, [1], (rst.mapQueue 192 fun x => { x with state := .bound, producer := 1, consumer := 2, maxItem := 4, quota := 16 }), by decide +kernel, by decide +kernel, by decide +kernel⟩,
    ⟨192, 1, (rst.mapQueue 192 fun x => { x with state := .bound, producer := 1, consumer := 2, maxItem := 4, quota := 16 }), by decide +kernel, by decide +kernel, by decide +kernel⟩,
    ⟨192, 1, (rst.mapQueue 192 fun x => { x with state := .bound, producer := 1, consumer := 2, maxItem := 4, quota := 16 }), by decide +kernel, by decide +kernel, by decide +kernel⟩,
    ⟨192, 2, 1, (rst.mapQueue 192 fun x => { x with state := .bound, producer := 1, consumer := 2, maxItem := 4, quota := 16 }), by decide +kernel, by decide +kernel, by decide +kernel⟩,
    ⟨192, 2, (rst.mapQueue 192 fun x => { x with state := .bound, producer := 1, consumer := 2, maxItem := 4, quota := 16 }), by decide +kernel, by decide +kernel, by decide +kernel⟩,
    ⟨192, 2, (rst.mapQueue 192 fun x => { x with state := .bound, producer := 1, consumer := 2, maxItem := 4, quota := 16 }), by decide +kernel, by decide +kernel, by decide +kernel⟩,
    ⟨192, 2, (rst.mapQueue 192 fun x => { x with state := .bound, producer := 1, consumer := 2, maxItem := 4, quota := 16 }), by decide +kernel, by decide +kernel, by decide +kernel⟩,
    ⟨192, 2, (rst.mapQueue 192 fun x => { x with state := .bound, producer := 1, consumer := 2, maxItem := 4, quota := 16 }), by decide +kernel, by decide +kernel, by decide +kernel⟩,
    ⟨192, 2, (rst.mapQueue 192 fun x => { x with state := .bound, producer := 1, consumer := 2, maxItem := 4, quota := 16 }), by decide +kernel, by decide +kernel, by decide +kernel⟩,
    ⟨3, (rst.mapPound fun p => { p with draining := p.draining.set 3 true }), by decide +kernel⟩⟩

theorem witness_RecordingEvents :
    (∃ (x : Segment) (s : State), (openSegment s = some x)) ∧
    (∃ (s : State), (writable s = true) ∧ (s.recording.bootSlotDone = true)) ∧
    (∃ (s : State), (s.mode.contain = false) ∧ (s.recording.unlisted ≠ [])) ∧
    (∃ (s : State), (writable s = true)) ∧
    (∃ (s : State), (writable s = true)) ∧
    (∃ (s : State), (s.recording.drive = .own)) ∧
    (∃ (n k : Nat) (s : State), (driveOpen s = true)) :=
  ⟨⟨{}, (rst.mapRec fun r => { r with segments := [{}] }), by decide +kernel⟩,
    ⟨(driveState.mapRec fun r => { r with bootSlotDone := true }), by decide +kernel, by decide +kernel⟩,
    ⟨(rst.mapRec fun r => { r with unlisted := [({}, false)] }), by decide +kernel, by decide +kernel⟩,
    ⟨driveState, by decide +kernel⟩,
    ⟨driveState, by decide +kernel⟩,
    ⟨driveState, by decide +kernel⟩,
    ⟨1, 255, driveState, by decide +kernel⟩⟩

theorem witness_DriveEvents :
    (∃ (d : DriveFacts) (s : State), (s.recording.present = false)) ∧
    (∃ (k : Nat) (s : State), (s.recording.testing = true) ∧ (s.mode.contain = false)) ∧
    (∃ (s : State), (s.recording.present = true) ∧ (s.recording.drive ≠ .none)) ∧
    (∃ (i n : Nat) (c : NvmeCmd) (s : State), (commandOf s i = some c) ∧ (s.mode.contain = false)) ∧
    (∃ (i : Nat) (c : NvmeCmd) (l : List Byte) (s : State), (commandOf s i = some c) ∧ (s.mode.contain = false) ∧ (sectorBad c 0 = false) ∧ (c.opcode ≠ 2)) :=
  ⟨⟨{}, rst, by decide +kernel⟩,
    ⟨1, (rst.mapRec fun r => { r with testing := true }), by decide +kernel, by decide +kernel⟩,
    ⟨driveState, by decide +kernel, by decide +kernel⟩,
    ⟨0, 1, {}, (driveState.mapRec fun r => { r with cmds := [{}] }), by decide +kernel, by decide +kernel⟩,
    ⟨0, {}, [], (driveState.mapRec fun r => { r with cmds := [{}] }), by decide +kernel, by decide +kernel, by decide +kernel, by decide +kernel⟩⟩

theorem witness_VehicleEvents :
    (∃ (s : State), (s.can.valid = true)) ∧
    (∃ (i : Nat) (l : List Byte) (s : State), (canOn s = false)) ∧
    (∃ (i : Nat) (l d : List Byte) (t u : State) (s : State), (canOn s = true) ∧ (canTakes s i = true) ∧ (l.length ≤ 8) ∧ (putItem 80 (leBytes 4 i ++ l) s = some t) ∧ (t.mode.contain = false) ∧ (takeItem 80 { t with can := { t.can with rxFrames := inc32 t.can.rxFrames } } = some (d, u))) ∧
    (∃ (g : Programme) (s : State), (s.recording.programme = some g) ∧ (s.recording.stopValid = true)) ∧
    (∃ (d : List Byte) (t : State) (s : State), (canOn s = true) ∧ (bit (imageNum s 0x21 1) 1 = true) ∧ (3 ≤ modeNow s) ∧ (s.mode.contain = false) ∧ (((putItem 81 (leBytes 1 s.mode.shown ++ leBytes 1 (bootFlags s) ++ leBytes 1 (faultSummary s) ++ leBytes 1 s.can.alive ++ leBytes 4 0)
        { s with can := { s.can with alive := (s.can.alive + 1) % 256 } }).bind fun u => takeItem 81 u) = some (d, t))) ∧
    (∃ (a r : Nat) (s : State), (canOn s = true)) ∧
    (∃ (s : State), (s.can.busOff = true)) :=
  ⟨⟨{ rst with can := { rst.can with valid := true } }, by decide +kernel⟩,
    ⟨1, [], rst, by decide +kernel⟩,
    ⟨0x123, [], canBytes, canPut, canTaken, canState, by decide +kernel, by decide +kernel, by decide +kernel, canPut_eq, by decide +kernel, canTake_eq⟩,
    ⟨{}, (rst.mapRec fun r => { r with programme := some {}, stopValid := true }), by decide +kernel, by decide +kernel⟩,
    ⟨canStatus, canSent, canState, by decide +kernel, by decide +kernel, by decide +kernel, by decide +kernel, canStatus_eq⟩,
    ⟨256, 0, canState, by decide +kernel⟩,
    ⟨{ rst with can := { rst.can with busOff := true } }, by decide +kernel⟩⟩

theorem witness_SupplyAndHeat :
    (∃ (mv : Nat) (s : State), (railsOn s = true) ∧ (mv < 4500) ∧ (s.power.holdLow = false)) ∧
    (∃ (mv : Nat) (s : State), (railsOn s = true) ∧ (36000 < mv) ∧ (s.power.holdHigh = false)) ∧
    (∃ (mv d k : Nat) (s : State), (s.power.holdLow = true)) ∧
    (∃ (mv : Nat) (s : State), (s.power.holdHigh = true) ∧ (mv ≤ 36000)) ∧
    (∃ (k : Nat) (s : State), (railsOn s = true)) ∧
    (∃ (d : Nat) (s : State), (railsOn s = true) ∧ (d = 70) ∧ (s.trust.signing = [])) ∧
    (∃ (x y : Int) (l : List Int) (s : State), (railsOn s = false)) ∧
    (∃ (x y : Int) (l : List Int) (s : State), (railsOn s = true) ∧ (outOfRange x = false) ∧ (badJunctions l = [])) ∧
    (∃ (t : Nat) (s : State), (s.power.coolSince = some t) ∧ (s.power.holdThermal = true)) ∧
    (∃ (s : State), (s.power.sprinting = false) ∧ (sprintPermitted s = true) ∧ (sprintWanted s = true)) ∧
    (∃ (k c : Nat) (s : State), (s.power.sprinting = true) ∧ (sprintCause s k = some c)) ∧
    (∃ (s : State), (railsOn s = true) ∧ (s.power.scrubStart = none)) :=
  ⟨⟨4499, serviceState, by decide +kernel, by decide +kernel, by decide +kernel⟩,
    ⟨36001, serviceState, by decide +kernel, by decide +kernel, by decide +kernel⟩,
    ⟨6000, 1, 1, (serviceState.mapPower fun p => { p with holdLow := true }), by decide +kernel⟩,
    ⟨36000, (serviceState.mapPower fun p => { p with holdHigh := true }), by decide +kernel, by decide +kernel⟩,
    ⟨1, serviceState, by decide +kernel⟩,
    ⟨70, serviceState, by decide +kernel, by decide +kernel, by decide +kernel⟩,
    ⟨0, 0, [], rst, by decide +kernel⟩,
    ⟨400, 400, List.replicate 18 500, serviceState, by decide +kernel, by decide +kernel, by decide +kernel⟩,
    ⟨0, (serviceState.mapPower fun p => { p with coolSince := some 0, holdThermal := true }), by decide +kernel, by decide +kernel⟩,
    ⟨sprintState, by decide +kernel, by decide +kernel, by decide +kernel⟩,
    ⟨1, 1, (serviceState.mapPower fun p => { p with sprinting := true }), by decide +kernel, by decide +kernel⟩,
    ⟨serviceState, by decide +kernel, by decide +kernel⟩⟩

theorem witness_ModeEvents :
    (∃ (mv : Nat) (s : State), (s.mode.base = .off) ∧ (4500 ≤ mv)) ∧
    (∃ (s : State), (s.mode.base ≠ .off)) ∧
    (∃ (w : SchedWork) (s : State), (railsOn s = true)) ∧
    (∃ (s : State), (s.mode.hbRuns = true) ∧ (s.mode.hbTimeout ≠ 0) ∧ (s.mode.base = .service)) ∧
    (∃ (t : Nat) (s : State), (s.can.sleepFrom = some t) ∧ (imageNum s 0x26 2 ≠ 0) ∧ (s.mode.sleeping = none) ∧ (modeNow s = 4)) ∧
    (∃ (c : Nat) (s : State), (s.mode.base = .keepalive) ∧ (wakeEnabled s c = true)) ∧
    (∃ (s : State), (s.mode.base = .boot)) ∧
    (∃ (s : State), (s.mode.base = .boot) ∧ (s.mode.lightDone = false) ∧ (s.trust.config = none)) ∧
    (∃ (s : State), (s.mode.base = .boot) ∧ (s.mode.lightDone = true) ∧ (s.mode.imageLeft = []) ∧ (s.mode.imageBarge = none) ∧ (s.mem.lost.any id = false) ∧ (holding s = false)) ∧
    (∃ (c : List Byte × Nat) (s : State), (s.mode.challenge = some c)) :=
  ⟨⟨4500, rst, by decide +kernel, by decide +kernel⟩,
    ⟨serviceState, by decide +kernel⟩,
    ⟨{}, serviceState, by decide +kernel⟩,
    ⟨(serviceState.mapMode fun m => { m with hbRuns := true, hbTimeout := 100 }), by decide +kernel, by decide +kernel, by decide +kernel⟩,
    ⟨0, sleepyState, by decide +kernel, by decide +kernel, by decide +kernel, by decide +kernel⟩,
    ⟨3, keepaliveState, by decide +kernel, by decide +kernel⟩,
    ⟨bootState, by decide +kernel⟩,
    ⟨bootState, by decide +kernel, by decide +kernel, by decide +kernel⟩,
    ⟨(bootState.mapMode fun m => { m with lightDone := true }), by decide +kernel, by decide +kernel, by decide +kernel, by decide +kernel, by decide +kernel, by decide +kernel⟩,
    ⟨([], 1), (rst.mapMode fun m => { m with challenge := some ([], 1) }), by decide +kernel⟩⟩

theorem witness_HardwareFaults :
    (∃ (d : Nat) (s : State), (s.mem.lost.getD d true = false) ∧ (s.mem.crcFails.getD d 0 < 2)) ∧
    (∃ (s : State), (s.mem.remirror ≠ []) ∧ (oneCopyShort s = false)) ∧
    (∃ (r p : Nat) (s : State), (railsOn s = true)) ∧
    (∃ (q : Nat) (l : List Nat) (s : State), (railsOn s = true) ∧ (q < 4)) ∧
    (∃ (k : Nat) (s : State), (s.mode.base.isBase = true) ∧ (s.mode.contain = false) ∧ (holding s = false) ∧ (bit s.power.running 0 = true) ∧ (s.faults.periods.getD k 0 ≠ 0) ∧ (s.faults.lastStep.getD k 0 + s.faults.periods.getD k 0 * 1000000000 ≤ s.time) ∧ ((s.faults.tests.any fun t => t.barge.isNone && stepOf t.kind == k) = false)) ∧
    (∃ (k : Nat) (t : TestRun) (s : State), ((s.faults.tests.find? fun t => t.barge.isNone && !t.offline && !t.preparing && stepOf t.kind == k) = some t)) ∧
    (∃ (s : State), (bit s.faults.conditions 3 = true)) :=
  ⟨⟨3, rst, by decide +kernel, by decide +kernel⟩,
    ⟨(rst.mapMem fun m => { m with remirror := [5] }), by decide +kernel, by decide +kernel⟩,
    ⟨1, 0, serviceState, by decide +kernel⟩,
    ⟨3, [], serviceState, by decide +kernel, by decide +kernel⟩,
    ⟨4, { (serviceState.mapPower fun p => { p with running := 15 }) with time := 60000000000 }, by decide +kernel, by decide +kernel, by decide +kernel, by decide +kernel, by decide +kernel, by decide +kernel, by decide +kernel⟩,
    ⟨stepOf 2, { kind := 2 }, (rst.mapFaults fun f => { f with tests := [{ kind := 2 }] }), by decide +kernel⟩,
    ⟨(rst.mapFaults fun f => { f with conditions := 8 }), by decide +kernel⟩⟩

theorem witness_ContainEvents :
    (∃ (r : EvRec) (l : List EvRec) (s : State), ((s.source false 55).fifo = r :: l)) ∧
    (∃ (k : Nat) (d : Dump) (s : State), (s.faults.copying = some k) ∧ (s.faults.dumps.getD k none = some d)) ∧
    (∃ (s : State), (s.mode.contain = true)) :=
  ⟨⟨{}, [], (rst.mapSource false 55 fun x => { x with fifo := [{}] }), by decide +kernel⟩,
    ⟨1, {}, (rst.mapFaults fun f => { f with copying := some 1, dumps := [none, some {}] }), by decide +kernel, by decide +kernel⟩,
    ⟨(rst.mapMode fun m => { m with contain := true }), by decide +kernel⟩⟩

theorem witness_JobEnds :
    (∃ (r q : Nat) (d : DmaJob) (s : State), ((s.dmas.find? fun d => d.barge.ring == r && d.barge.seq == q) = some d)) ∧
    (∃ (r q : Nat) (j : SealJob) (s : State), ((s.seals.find? fun j => j.barge.ring == r && j.barge.seq == q) = some j) ∧ (s.surfaceAt j.index = none)) ∧
    (∃ (r q : Nat) (j : SealJob) (x : Surface) (w : List Word32) (t : State) (s : State), ((s.seals.find? fun j => j.barge.ring == r && j.barge.seq == q) = some j) ∧ (s.surfaceAt j.index = some x) ∧ (x.live = true) ∧ (x.handle = j.barge.pay 0 8) ∧ (x.state ≠ .lost) ∧ (computeSeals x 0 x.tiles { s with seals := s.seals.filter fun k => !decide (k = j) } = (.inl w, t))) ∧
    (∃ (j : FlashJob) (s : State), (s.trust.flashJob = some j) ∧ (j.config = false)) ∧
    (∃ (l : List Signing) (s : State), (s.trust.signing = .manifest :: l)) ∧
    (∃ (k i : Nat) (t : TestRun) (b : Barge) (s : State), ((s.faults.tests.find? fun t => t.kind == k && t.index == i && !t.preparing && (t.barge.isSome || t.offline)) = some t) ∧ (t.barge = some b) ∧ (t.restore = false)) :=
  ⟨⟨0, 0, {}, { rst with dmas := [{}] }, by decide +kernel⟩,
    ⟨0, 0, {}, { rst with seals := [{}] }, by decide +kernel, by decide +kernel⟩,
    ⟨0, 0, sealJob, sealSurface, sealWordsOf.1, sealWordsOf.2, sealState, by decide +kernel, by decide +kernel, by decide +kernel, by decide +kernel, by decide +kernel, leftOf_eq (by decide +kernel)⟩,
    ⟨{}, (rst.mapTrust fun t => { t with flashJob := some {} }), by decide +kernel, by decide +kernel⟩,
    ⟨[], (rst.mapTrust fun t => { t with signing := [.manifest] }), by decide +kernel⟩,
    ⟨2, 0, { kind := 2, barge := some {} }, {}, (rst.mapFaults fun f => { f with tests := [{ kind := 2, barge := some {} }] }), by decide +kernel, by decide +kernel, by decide +kernel⟩⟩

theorem witness_Towpath :
    (∃ (g : Byte) (l : List Byte) (n : Nat) (s : State), (l.length = 7) ∧ (1 ≤ leNat (slice l 5 2)) ∧ (leNat (slice l 5 2) ≤ 4095) ∧ (sourceLength s (leNat (slice l 0 1)) = some n) ∧ (leNat (slice l 1 4) + leNat (slice l 5 2) ≤ n)) :=
  ⟨0, [4, 0, 0, 0, 0, 1, 0], 4096, rst, by decide +kernel, by decide +kernel, by decide +kernel, by decide +kernel, by decide +kernel⟩

theorem witness_StepIdle :
    (∃ s : State, s.pending = [] ∧ s.mode.base = .off) ∧
    (∃ s : State, s.pending = [] ∧ s.mode.base ≠ .off) :=
  ⟨⟨rst, by decide +kernel, by decide +kernel⟩,
    ⟨serviceState, by decide +kernel, by decide +kernel⟩⟩

theorem witness_BadAccesses :
    (∃ off w : Nat, ¬(w = 4 ∧ off % 4 = 0) ∧ ¬(w = 8 ∧ off % 8 = 0)) ∧
    (∃ off w : Nat, ¬(w = 4 ∧ off % 4 = 0) ∧ ¬(w = 8 ∧ off % 8 = 0)) :=
  ⟨⟨2, 4, by decide +kernel⟩,
    ⟨8188, 8, by decide +kernel⟩⟩

theorem witness_FenceSignals :
    (∃ (f : Nat) (v w : Word64) (s : State), s.fence f = some w ∧ w < v) ∧
    (∃ (f : Nat) (v w : Word64) (s : State), s.fence f = some w ∧ ¬ w < v) ∧
    (∃ (f : Nat) (s : State), s.fence f = none) :=
  ⟨⟨255, 8, 7, (rst.mapHost fun h => { h with fences := h.fences.set 255 (some 7) }), by decide +kernel, by decide +kernel⟩,
    ⟨255, 7, 7, (rst.mapHost fun h => { h with fences := h.fences.set 255 (some 7) }), by decide +kernel, by decide +kernel⟩,
    ⟨255, rst, by decide +kernel⟩⟩

theorem witness_QueueOnlyPopped :
    (∃ s : State, s.banksWhole = true) :=
  ⟨rst, by decide +kernel⟩

theorem witness_StepKeepsBanks :
    (∃ s : State, s.banksWhole = true) :=
  ⟨rst, by decide +kernel⟩

theorem witness_MemoryLaws :
    (∃ m : List Host.Cell, Memory.wf m = true) ∧
    (∃ m n : List Host.Cell, Memory.wf m = true ∧ Memory.wf n = true ∧ ∀ a, Memory.read m a = Memory.read n a) :=
  ⟨⟨[(5, 1), (9, 255)], by decide +kernel⟩,
    ⟨[(5, 1)], [(5, 1)], by decide +kernel, by decide +kernel, fun _ => rfl⟩⟩

theorem witness_RunsOfBytes :
    (∃ s : State, Memory.wf s.hostMem = true) :=
  ⟨rst, by decide +kernel⟩

theorem witness_CompletionRecordLands :
    (∃ (x : HeldRecord) (s : State), Memory.wf s.hostMem = true ∧ x.reply.report = none ∧ x.barge.ring < s.host.rings.length) :=
  ⟨{ barge := { ring := 15 } }, rst, by decide +kernel, by decide +kernel, by decide +kernel⟩

theorem witness_SignalFenceOfABarge :
    (∃ (r : Reply) (s : State), r.executed = true ∧ s.mode.contain = false) :=
  ⟨{}, rst, by decide +kernel, by decide +kernel⟩

theorem witness_FlushFreesAll :
    (∃ (q : Nat) (s : State), q < s.pound.queues.length) :=
  ⟨254, queueState, by decide +kernel⟩

theorem witness_FlushedOnce :
    (∃ (q c : Nat) (s : State), c ≠ 0 ∧ (s.queue q).state ≠ .absent ∧ (s.queue q).consumer = c ∧ (s.queue q).flushPending = true) ∧
    (∃ (q c : Nat) (i : Item) (s : State), c ≠ 0 ∧ (s.queue q).state ≠ .absent ∧ (s.queue q).consumer = c ∧ (s.queue q).flushPending = false ∧ (s.queue q).current = some i ∧ (s.queue q).readOff < i.bytes.length ∧ s.pound.badCells = []) :=
  ⟨⟨192, 2, ((rst.mapQueue 192 fun x => { x with state := .bound, producer := 1, consumer := 2, maxItem := 4, quota := 16 }).mapQueue 192 fun x => { x with flushPending := true }), by decide +kernel, by decide +kernel, by decide +kernel, by decide +kernel⟩,
    ⟨192, 2, { bytes := [1], complete := true, ended := true }, ((rst.mapQueue 192 fun x => { x with state := .bound, producer := 1, consumer := 2, maxItem := 4, quota := 16 }).mapQueue 192 fun x => { x with items := [{ bytes := [1], complete := true, ended := true }] }), by decide +kernel, by decide +kernel, by decide +kernel, by decide +kernel, by decide +kernel, by decide +kernel, by decide +kernel⟩⟩

theorem witness_PutKeepsQuota :
    (∃ (q : Nat) (s : State), (s.queue q).level ≤ (s.queue q).quota) ∧
    (∃ (q : Nat) (l : List Byte) (s : State), (s.queue q).voiding = false ∧ ((s.queue q).openItem.getD {}).bytes.length + l.length ≤ 256 * (s.queue q).maxItem ∧
    ((s.queue q).quota < (s.queue q).level + (ceilDiv (((s.queue q).openItem.getD {}).bytes.length + l.length) 256 - ((s.queue q).openItem.getD {}).cells.length) ∨
      ((s.queue q).reserved = false ∧ (if q = 0 ∨ q = 16 then 4096 else 3840) < commonHeld s.pound + (ceilDiv (((s.queue q).openItem.getD {}).bytes.length + l.length) 256 - ((s.queue q).openItem.getD {}).cells.length)))) :=
  ⟨⟨192, (rst.mapQueue 192 fun x => { x with state := .bound, producer := 1, consumer := 2, maxItem := 4, quota := 16 }), by decide +kernel⟩,
    ⟨192, [1], (rst.mapQueue 192 fun x => { x with maxItem := 1 }), by decide +kernel, by decide +kernel, by decide +kernel⟩⟩

theorem witness_BestSource :
    (∃ (l : List (Nat × Source)), l ≠ [] ∧ (l.map (·.1)).Pairwise (· < ·)) :=
  ⟨[(1, {}), (2, {})], by decide +kernel, by decide +kernel⟩

theorem witness_RecordsLost :
    (∃ (n : Nat) (s : State), levelKind n = false ∧ n ≤ 175 ∧ n < s.events.host.length ∧ (s.source true n).enabled = false) ∧
    (∃ (n : Nat) (s : State), levelKind n = false ∧ n ≤ 175 ∧ n < s.events.host.length ∧ (s.source true n).enabled = true ∧ (s.source true n).fifo.length + (s.source true n).passed.length < 4) ∧
    (∃ (n : Nat) (s : State), levelKind n = false ∧ n ≤ 175 ∧ n < s.events.host.length ∧ (s.source true n).enabled = true ∧ 4 ≤ (s.source true n).fifo.length + (s.source true n).passed.length) :=
  ⟨⟨175, rst, by decide +kernel, by decide +kernel, by decide +kernel, by decide +kernel⟩,
    ⟨175, (rst.mapSource true 175 fun x => { x with enabled := true }), by decide +kernel, by decide +kernel, by decide +kernel, by decide +kernel, by decide +kernel⟩,
    ⟨175, (rst.mapSource true 175 fun x => { x with enabled := true, fifo := [{}, {}, {}, {}] }), by decide +kernel, by decide +kernel, by decide +kernel, by decide +kernel, by decide +kernel⟩⟩

theorem witness_PagesHoldDistinctBytes :
    (∃ a c : Nat, pageOf a = pageOf c ∧ a % 61440 % 1920 = c % 61440 % 1920) ∧
    (∃ a : Nat, a < 131072 * 61440) :=
  ⟨⟨61439, 61439, by decide +kernel, by decide +kernel⟩,
    ⟨8053063679, by decide +kernel⟩⟩

theorem witness_FunctionResetFrame :
    (∃ s : State, s.banksWhole = true) :=
  ⟨rst, by decide +kernel⟩

theorem witness_PodDelete :
    (∃ (b : Barge) (s : State), b.payloadLen = 8 ∧ reservedBytes b 1 7 = none ∧ b.pay 0 1 ≤ 63 ∧ (s.pod (b.pay 0 1)).live = false) ∧
    (∃ (b : Barge) (s : State), b.payloadLen = 8 ∧ reservedBytes b 1 7 = none ∧ b.pay 0 1 ≤ 63 ∧ (s.pod (b.pay 0 1)).live = true ∧ (s.pipes.any fun q => q.carried.any fun g => g.pod == b.pay 0 1) = true) ∧
    (∃ (b : Barge) (s : State), b.payloadLen = 8 ∧ reservedBytes b 1 7 = none ∧ b.pay 0 1 ≤ 63 ∧ (s.pod (b.pay 0 1)).live = true ∧ (s.pipes.any fun q => q.carried.any fun g => g.pod == b.pay 0 1) = false) :=
  ⟨⟨testBarge 15 0x0305 (pad 8 [63]), rst, by decide +kernel, by decide +kernel, by decide +kernel, by decide +kernel⟩,
    ⟨testBarge 15 0x0305 (pad 8 [63]), ((rst.mapPod 63 fun p => { p with live := true }).mapPipe 7 fun q => { q with carried := [{ pod := 63 }] }), by decide +kernel, by decide +kernel, by decide +kernel, by decide +kernel, by decide +kernel⟩,
    ⟨testBarge 15 0x0305 (pad 8 [63]), (rst.mapPod 63 fun p => { p with live := true }), by decide +kernel, by decide +kernel, by decide +kernel, by decide +kernel, by decide +kernel⟩⟩

theorem witness_FenceCreate :
    (∃ (b : Barge) (s : State), b.payloadLen = 16 ∧ reservedBytes b 2 6 = none ∧ b.pay 0 2 ≤ 255 ∧ s.fence (b.pay 0 2) = none) ∧
    (∃ (b : Barge) (s : State), b.payloadLen = 16 ∧ reservedBytes b 2 6 = none ∧ b.pay 0 2 ≤ 255 ∧ (s.fence (b.pay 0 2)).isSome = true) ∧
    (∃ (f : Nat) (s : State), f < s.host.fences.length) :=
  ⟨⟨testBarge 15 0x0106 (pad 16 [255]), rst, by decide +kernel, by decide +kernel, by decide +kernel, by decide +kernel⟩,
    ⟨testBarge 15 0x0106 (pad 16 [255]), (rst.mapHost fun h => { h with fences := h.fences.set 255 (some 7) }), by decide +kernel, by decide +kernel, by decide +kernel, by decide +kernel⟩,
    ⟨255, rst, by decide +kernel⟩⟩

/-! ### Terms that WellFormed refuses (WellFormed.lean), one for each of its checks -/

/-- A NOP of one slot. -/
def goodBarge : Barge := testBarge 15 0x0100 []
/-- Ring 16 does not exist. -/
def ringSixteen : Barge := { goodBarge with ring := 16 }
/-- A barge of no slot. -/
def noSlot : Barge := { ring := 0, bytes := (pad 64 [0, 1, 0]).map (BitVec.ofNat 8) }
/-- A barge of 65 slots. -/
def slots65 : Barge := { ring := 0, bytes := (pad (64 * 65) [0, 1, 65]).map (BitVec.ofNat 8) }
/-- A barge one byte short. -/
def shortBarge : Barge := { goodBarge with bytes := goodBarge.bytes.take 63 }
theorem test_wf_good_barge : Barge.wf goodBarge = true := by decide +kernel
theorem test_wf_ring_of_a_barge : Barge.wf ringSixteen = false := by decide +kernel
theorem test_wf_no_slot : Barge.wf noSlot = false := by decide +kernel
theorem test_wf_slots_above_64 : Barge.wf slots65 = false := by decide +kernel
theorem test_wf_length_of_a_barge : Barge.wf shortBarge = false := by decide +kernel
/-- The commands that carry a barge, each with an ill-formed one. -/
def badBarges (b : Barge) : List Instr :=
  [.nop b, .identify b, .ringCreate b, .ringDelete b, .heartbeatSet b, .sleep b, .depotChallenge b, .depotEnter b, .depotExit b] ++
  [.fenceCreate b, .fenceDestroy b, .statusReport b, .memAlloc b, .memFree b, .surfaceRegister b, .surfaceFree b, .dmaUpload b, .dmaDownload b] ++
  [.surfaceSeal b, .surfaceUnseal b, .surfaceQuery b, .layerAssign b, .layerRelease b, .layerSet b, .podDefine b, .podDelete b, .commit b] ++
  [.damageDeclare b, .layerQuery b, .pipeConfig b, .pipeRemove b, .pipeEnable b, .pipeDisable b, .timingChange b, .towSet b, .linkStatus b] ++
  [.edidRead b, .writebackSet b, .cameraDeclare b, .cameraRemove b, .cameraStart b, .cameraStop b, .cameraRingSet b, .cameraStatus b, .latencyContractSet b] ++
  [.bltCopy b, .bltFill b, .bltRop3 b, .bltMonoExpand b, .bltAlpha b, .bltConvert b, .twoDReserve b, .twoDReserveRemove b, .bltBatch b] ++
  [.cvConfig b, .cvDma b, .cvContextSave b, .cvContextLoad b, .frameSignSet b, .cvReserve b, .cvReserveRemove b, .recStreamAdd b, .recStreamRemove b] ++
  [.recBurst b, .recBurstStop b, .recQuery b, .storeWrite b, .storeRead b, .programmeLoad b, .programmeRemove b, .prepareRemove b, .formatDrive b] ++
  [.unprotect b, .qCreate b, .qDelete b, .qQuotaSet b, .qWeirSet b, .qFlush b, .qQuery b, .eventRingCreate b, .eventRingDelete b] ++
  [.eventRoute b, .moderationSet b, .eventEnable b, .eventDisable b, .eventMaskSources b, .eventUnmask b, .powerQuery b, .baseplateDeclare b, .sprintPolicy b] ++
  [.schedWeights b, .patchLoad b, .patchActivate b, .patchDeactivate b, .attest b, .keyRevoke b, .configImageStore b, .rollbackAdvance b, .bistRun b] ++
  [.selftestPolicy b, .dumpRead b, .dumpClear b, .faultInject b]
theorem test_wf_ring_of_every_barge : (badBarges ringSixteen).all (fun i => !i.wf) = true := by decide +kernel
theorem test_wf_length_of_every_barge : (badBarges shortBarge).all (fun i => !i.wf) = true := by decide +kernel

theorem test_wf_pipe : ([.shadowBankComplete 8, .lock 8, .lineRelease 8 0 0, .fetchReturn 8 0 0 [] [],
    .deadline 8 0 0, .lineWrite 8 0 0, .windowOpen 8 0 0, .windowClose 8 0 0 [],
    .lastPixelRepeat 8 0 0 0, .frameStart 8, .verticalBlanking 8, .towDecision 8,
    .blackFramesEnd 8, .landingCheck 8 0 0] : List Instr).all (fun i => !i.wf) = true := by decide
theorem test_wf_ring : ([.sqTailDb 16 0, .cqHeadDb 16 0, .bargeStart 16, .headDb 32 0,
    .eventEntryWrite 32, .dmaTransferComplete 16 0, .sealComputeComplete 16 0] : List Instr).all (fun i => !i.wf) = true := by decide
theorem test_wf_fence : ([.fenceSignal 256 false 0] : List Instr).all (fun i => !i.wf) = true := by decide
theorem test_wf_pair : ([.claim 2, .pairComplete 2 0, .containEntry 0 0 2, .lockstepMismatch 2] : List Instr).all (fun i => !i.wf) = true := by decide
theorem test_wf_half : ([.lineRelease 0 2 0, .fetchReturn 0 2 0 [] [], .deadline 0 2 0, .lineWrite 0 2 0,
    .windowOpen 0 2 0, .windowClose 0 2 0 [], .lastPixelRepeat 0 2 0 0, .landingCheck 0 2 0] : List Instr).all (fun i => !i.wf) = true := by decide
theorem test_wf_y : ([.lineRelease 0 0 65536, .fetchReturn 0 0 65536 [] [], .deadline 0 0 65536, .lineWrite 0 0 65536,
    .windowOpen 0 0 65536, .windowClose 0 0 65536 [], .lastPixelRepeat 0 0 65536 0, .landingCheck 0 0 65536] : List Instr).all (fun i => !i.wf) = true := by decide
theorem test_wf_lane : ([.laneFaultDetected 9 0, .laneFaultDeclared 9] : List Instr).all (fun i => !i.wf) = true := by decide
theorem test_wf_link : ([.hpdLow 12, .hpdHigh 12, .irqHpd 12, .hpdStormEnd 12 false,
    .auxReply 12 .nack, .auxTimeout 12, .trainingAttemptEnd 12 (.failed 0), .trainingRetry 12,
    .linkLost 12, .signatureRecord 12, .aphyRetransmitRequest 12] : List Instr).all (fun i => !i.wf) = true := by decide
theorem test_wf_input : ([.cameraFs 10 0 0, .cameraLinePacket 10 {}, .cameraLineLanded 10, .cameraFe 10 0 0,
    .cameraEmbeddedData 10 0 [] false, .cameraPacketDiscard 10 0, .cameraLinkError 10, .frameTimeout 10,
    .fsMissing 10, .cameraStartTimeout 10, .cameraStopTimeout 10, .cameraPhyLinkUp 10,
    .cameraPhyLinkLost 10] : List Instr).all (fun i => !i.wf) = true := by decide
theorem test_wf_engine : ([.twoDJobBegin 2, .twoDBurst 2 false, .twoDLineLanded 2, .twoDJobComplete 2] : List Instr).all (fun i => !i.wf) = true := by decide
theorem test_wf_channel : ([.cvDescriptor 16] : List Instr).all (fun i => !i.wf) = true := by decide
theorem test_wf_queue : ([.put 256 0 [], .endItem 256 0, .cancel 256 0, .itemComplete 256,
    .get 256 0 0, .nextItem 256 0, .dropRemainder 256 0, .markRead 256 0,
    .rewind 256 0, .release 256 0] : List Instr).all (fun i => !i.wf) = true := by decide
theorem test_wf_quarter : ([.quarterDrainTimeout 4, .quarterSubstitution 4 []] : List Instr).all (fun i => !i.wf) = true := by decide
theorem test_wf_source : ([.edgeAssertion false 256 0 [], .levelChange false 256 false] : List Instr).all (fun i => !i.wf) = true := by decide
theorem test_wf_vector : ([.holdoffTimerExpiry 64] : List Instr).all (fun i => !i.wf) = true := by decide
theorem test_wf_stream : ([.encodeFrame 16] : List Instr).all (fun i => !i.wf) = true := by decide
theorem test_wf_device : ([.gddr6CrcFail 4 false, .gddr6SupplyFault 4] : List Instr).all (fun i => !i.wf) = true := by decide
theorem test_wf_kind : ([.selftestStep 5, .selftestStepEnd 5 false] : List Instr).all (fun i => !i.wf) = true := by decide
theorem test_wf_domain : ([.domainIdleTimeout 80] : List Instr).all (fun i => !i.wf) = true := by decide
theorem test_wf_bar : Instr.wf (.lowWordRead 2 0) = false := by decide
theorem test_wf_bar_of_a_write : Instr.wf (.registerWrite 2 0 4 0) = false := by decide
theorem test_wf_width_of_a_write : Instr.wf (.registerWrite 0 0 3 0) = false := by decide

/-! ### The manual's worked examples -/

-- 03, after R96: device address 100,000,000 is granule 1,627 on device 3, channel 7, page 6,505.
theorem test_address_of_a_page : pageOf 100000000 = (7, 6505) := by decide
theorem test_granule_of_an_address : granuleOf 100000000 = 1627 ∧ deviceOf 1627 = 3 := by decide
-- 08, after R244: P0's pixel clock of 99 MHz, and one that divides the VCO's limit exactly.
theorem test_pll_of_99_mhz : pllDivider 99000000 = 48 ∧ pllFactor 99000000 = 190 * 2 ^ 24 + 1342177 := by decide
theorem test_pll_of_100_mhz : pllDivider 100000000 = 47 ∧ pllFactor 100000000 = 188 * 2 ^ 24 := by decide
-- 05, Table 5-5: line slots of the video's two envelopes, and LARGEST_RV of the refusal.
theorem test_line_slots_of_the_video : ({ maxSrcW := 3840, tapsV := 6, maxRv := 0x0300 } : Envelope).lineSlots = 20 := by decide
theorem test_line_slots_at_half_height : ({ maxSrcW := 3840, tapsV := 6, maxRv := 0x0180 } : Envelope).lineSlots = 11 := by decide
theorem test_largest_rv_of_16_slots : ({ maxSrcW := 3840, tapsV := 6, maxRv := 0x0300 } : Envelope).largestRv 16 = 0x0255 := by decide
-- 05, Table 5-6 and the text before it: the video's horizontal scaling at the seam.
theorem test_cubic_row_of_six_taps : coefficients 0 6 0 = [-50, 225, 674, 225, -50, 0] := by decide
theorem test_step_of_the_video : scaleStep 3840 1280 = 3145728 ∧ scaleStep 1080 720 = 1572864 := by decide
theorem test_window_at_the_seam : scaleWindow 0 6 3840 1280 640 = [1919, 1920, 1921, 1922, 1923, 1924] := by decide
theorem test_window_at_the_edge : scaleWindow 0 6 3840 1280 0 = [0, 0, 1, 2, 3, 4] := by decide
-- 10, Table 10-10: fetch terms of the reference coach.
theorem test_fetch_of_the_mirror : ({ kinds := 2, maxBpp := 32, maxSrcW := 1920, maxSrcH := 1080 } : Envelope).fetch false = 8432640 := by decide
theorem test_fetch_of_the_overlay : ({ kinds := 1, maxBpp := 32, maxSrcW := 1920, maxSrcH := 720 } : Envelope).fetch false = 5840896 := by decide
theorem test_fetch_of_the_background :
    ({ kinds := 1, maxBpp := 32, maxSrcW := 7680, maxSrcH := 1080, compressed := true } : Envelope).fetch true = 34547472 := by decide
theorem test_fetch_of_the_video :
    ({ kinds := 1, maxBpp := 12, maxSrcW := 3840, maxSrcH := 2160, decimate := 2 } : Envelope).fetch true = 12951552 := by decide
-- 06, Table 6-6: a grey mirror pixel of P0 from the camera to the basin and the tap.
/-- The output stage of P0, without its identity table. -/
def mirrorStage : OutStage := { wSdr := 400, peak := 400, panelTf := 2 }
theorem test_seed_nodes : (seedTable mirrorStage 0x1480 0).getD 84 0 = 15754 ∧ (seedTable mirrorStage 0x1480 0).getD 85 0 = 13107 := by
  decide +kernel
theorem test_tone_of_the_mirror_pixel :
    toneMap 1 (seedTable mirrorStage 0x1480 0) mirrorStage.pOut [2359296, 2359296, 2359296] = [1039032, 1039032, 1039032] := by decide +kernel
theorem test_gamut_keeps_grey : gamut 3 0 [2359296, 2359296, 2359296] = [2359296, 2359296, 2359296] := by decide +kernel
theorem test_alpha_of_the_overlay : effectiveAlpha 2 0x80 4096 = 2056 := by decide
theorem test_blend_of_the_overlay : blendOver [1039032] [0] 2056 = [517487] := by decide
theorem test_panel_code_of_the_pixel : panelEncode mirrorStage 0 517487 = 2969 := by decide +kernel
theorem test_word_of_the_pixel : withTag (outputWord mirrorStage [517487, 517487, 517487]) 1 = 0x6E6B9AE6#32 := by decide +kernel
theorem test_tap_of_the_pixel : tapYcc [742, 742, 742] = [699, 512, 512] := by decide
-- 11, R346's example: a copied line of 30,208 bytes is charged 37,760 bytes in bursts of 64.
theorem test_charge_of_a_copied_line : (lineBursts 256 (512, 30208)).sum = 37760 := by decide
-- 07, before Table 7-7: T_c of P0.
theorem test_line_write_time_of_p0 : ({ links := 1, hActive := 1920 } : PipeCfg).tc = 3008 := by decide

/-! ### Single steps -/

-- R71, Table 2-11: a NOP writes one completion record at the tail of its ring's completion ring.
/-- A NOP of ring 15 has started. -/
def nopStarted : State := ringState15.mapRing 15 fun r => { r with inflight := [{ barge := goodBarge, started := true }] }
theorem test_nop_moves_the_completion_tail :
    (match exec (.nop goodBarge) nopStarted with | .next t => (t.ring 15).cqTail | _ => 0) = 1 := by decide +kernel
-- A signal never lowers a fence (R83): it counts as stale.
/-- Fence 7 stands at 9. -/
def fenceAtNine : State := rst.mapHost fun h => { h with fences := h.fences.set 7 (some 9) }
theorem test_a_fence_never_falls :
    (match exec (.fenceSignal 7 true 3) fenceAtNine with | .next t => (t.fence 7, t.host.ctr.fenceStale) | _ => (none, 0)) = (some 9, 1) := by
  decide +kernel
-- The queue of commands is first in, first out.
theorem test_step_takes_the_front : (match step { rst with pending := [.scrubPassStart, .watchdog] } with
    | .next t => t.pending | _ => []) = [.watchdog] := by decide +kernel


end Sys2Proof.Tests
end

section
/-! What commands leave as it is. The still part of a state is its waiting commands, its direction straps, the lengths of its
register banks, and the basin; the frame is the still part without the basin. Each function of the model that answers a state
has one lemma below: it leaves the still part, or, where it may reach the basin, the frame. So every command keeps the frame
(`frame_exec`), and a command whose functions do not reach the basin keeps the basin too. The functions that make banks anew
(a loss of power, a reset of the function) keep the lengths of a state whose banks are whole, and only of such a state. -/
namespace Sys2Proof.Machine

/-- How many entries each register bank has, in the order of `State.banksWhole`. -/
def State.bankLengths (s : State) : List Nat :=
  [s.layers.length, s.pods.length, s.pipes.length, s.links.length, s.cams.length, s.engines.length, s.cv.length, s.sign.length,
    s.host.rings.length, s.events.host.length, s.events.internal.length, s.events.vectors.length, s.events.rings.length,
    s.pound.queues.length, s.lanes.map.length, s.recording.streams.length]

/-- What no command changes. -/
structure Frame where
  /-- The waiting commands. -/
  pending : List Instr
  /-- The direction straps of the links. -/
  aphyDir : Nat
  /-- The lengths of the register banks. -/
  banks : List Nat

/-- The frame of a state. -/
def State.frame (s : State) : Frame := ⟨s.pending, s.aphyDir, s.bankLengths⟩

/-- What a command that does not reach the basin leaves as it is. -/
structure Still where
  /-- What no command changes. -/
  frame : Frame
  /-- The basin. -/
  basin : Basin

/-- The still part of a state. -/
def State.still (s : State) : Still := ⟨s.frame, s.basin⟩

/-- The lengths of the banks of a whole state (R60, R127, R379, R416). -/
def wholeBanks : List Nat := [64, 64, 8, 12, 10, 2, 16, 12, 16, 256, 256, 64, 32, 256, 8, 16]

end Sys2Proof.Machine
end

section
namespace Sys2Proof.Frames
open Sys2Proof Sys2Proof.Machine Sys2Proof.Laws

/-! ### The still part -/

theorem still_def (s : State) : s.still =
    ⟨⟨s.pending, s.aphyDir, [s.layers.length, s.pods.length, s.pipes.length, s.links.length, s.cams.length, s.engines.length,
      s.cv.length, s.sign.length, s.host.rings.length, s.events.host.length, s.events.internal.length, s.events.vectors.length,
      s.events.rings.length, s.pound.queues.length, s.lanes.map.length, s.recording.streams.length]⟩, s.basin⟩ := rfl

theorem still_eq {s t : State} (hp : t.pending = s.pending) (ha : t.aphyDir = s.aphyDir) (hb : t.bankLengths = s.bankLengths)
    (hbasin : t.basin = s.basin) : t.still = s.still := by
  simp [State.still, State.frame, hp, ha, hb, hbasin]

@[simp] theorem still_ite (c : Prop) [Decidable c] (s t : State) :
    (if c then s else t).still = if c then s.still else t.still := apply_ite State.still c s t

@[simp] theorem frame_ite (c : Prop) [Decidable c] (x y : Still) :
    (if c then x else y).frame = if c then x.frame else y.frame := apply_ite Still.frame c x y

@[simp] theorem still_foldl {α : Type} {f : State → α → State} (hf : ∀ s x, (f s x).still = s.still)
    (l : List α) (s : State) : (l.foldl f s).still = s.still := by
  induction l generalizing s with
  | nil => rfl
  | cons x l ih => exact (ih (f s x)).trans (hf s x)

@[simp] theorem frame_foldl {α : Type} {f : State → α → State} (hf : ∀ s x, (f s x).still.frame = s.still.frame)
    (l : List α) (s : State) : (l.foldl f s).still.frame = s.still.frame := by
  induction l generalizing s with
  | nil => rfl
  | cons x l ih => exact (ih (f s x)).trans (hf s x)

/-! ### The updates of the state -/

@[simp] theorem still_mapHost (s : State) (f) (h : ∀ x, (f x).rings.length = x.rings.length) :
    (s.mapHost f).still = s.still := by
  simp [still_def, h]

@[simp] theorem still_mapRing (s : State) (n f) : (s.mapRing n f).still = s.still := by simp [State.mapRing]

@[simp] theorem still_mapCtr (s : State) (f) : (s.mapCtr f).still = s.still := still_eq rfl rfl rfl rfl

@[simp] theorem still_mapPipeCtr (s : State) (p f) : (s.mapPipeCtr p f).still = s.still := still_eq rfl rfl rfl rfl

@[simp] theorem still_mapCamCtr (s : State) (p f) : (s.mapCamCtr p f).still = s.still := still_eq rfl rfl rfl rfl

@[simp] theorem still_mapMem (s : State) (f) : (s.mapMem f).still = s.still := still_eq rfl rfl rfl rfl

@[simp] theorem still_mapLayer (s : State) (n f) : (s.mapLayer n f).still = s.still := by simp [still_def]

@[simp] theorem still_mapPod (s : State) (n f) : (s.mapPod n f).still = s.still := by simp [still_def]

@[simp] theorem still_mapPipe (s : State) (n f) : (s.mapPipe n f).still = s.still := by simp [still_def]

@[simp] theorem still_mapHalf (s : State) (p h f) : (s.mapHalf p h f).still = s.still := still_mapPipe s p _

@[simp] theorem still_mapLink (s : State) (n f) : (s.mapLink n f).still = s.still := by simp [still_def]

@[simp] theorem still_mapCam (s : State) (n f) : (s.mapCam n f).still = s.still := by simp [still_def]

@[simp] theorem still_mapEngine (s : State) (n f) : (s.mapEngine n f).still = s.still := by simp [still_def]

@[simp] theorem still_mapChan (s : State) (n f) : (s.mapChan n f).still = s.still := by simp [still_def]

@[simp] theorem still_mapSign (s : State) (n f) : (s.mapSign n f).still = s.still := by simp [still_def]

@[simp] theorem still_mapEvents (s : State) (f) (hh : ∀ x, (f x).host.length = x.host.length)
    (hi : ∀ x, (f x).internal.length = x.internal.length) (hv : ∀ x, (f x).vectors.length = x.vectors.length)
    (hr : ∀ x, (f x).rings.length = x.rings.length) : (s.mapEvents f).still = s.still := by
  simp [still_def, hh, hi, hv, hr]

@[simp] theorem still_mapVector (s : State) (n f) : (s.mapVector n f).still = s.still := by simp [State.mapVector]

@[simp] theorem still_mapEvRing (s : State) (n f) : (s.mapEvRing n f).still = s.still := by simp [State.mapEvRing]

@[simp] theorem still_mapSource (s : State) (h n f) : (s.mapSource h n f).still = s.still := by
  cases h <;> simp [State.mapSource]

@[simp] theorem still_mapPound (s : State) (f) (h : ∀ x, (f x).queues.length = x.queues.length) :
    (s.mapPound f).still = s.still := by
  simp [still_def, h]

@[simp] theorem still_mapQueue (s : State) (n f) : (s.mapQueue n f).still = s.still := by simp [State.mapQueue]

@[simp] theorem still_mapRec (s : State) (f) (h : ∀ x, (f x).streams.length = x.streams.length) :
    (s.mapRec f).still = s.still := by
  simp [still_def, h]

@[simp] theorem still_mapStream (s : State) (n f) : (s.mapStream n f).still = s.still := by simp [State.mapStream]

@[simp] theorem still_mapPower (s : State) (f) : (s.mapPower f).still = s.still := still_eq rfl rfl rfl rfl

@[simp] theorem still_mapMode (s : State) (f) : (s.mapMode f).still = s.still := still_eq rfl rfl rfl rfl

@[simp] theorem still_mapTrust (s : State) (f) : (s.mapTrust f).still = s.still := still_eq rfl rfl rfl rfl

@[simp] theorem still_mapFaults (s : State) (f) : (s.mapFaults f).still = s.still := still_eq rfl rfl rfl rfl

@[simp] theorem still_mapLanes (s : State) (f) (h : ∀ x, (f x).map.length = x.map.length) : (s.mapLanes f).still = s.still := by
  simp [still_def, h]

@[simp] theorem frame_mapBasin (s : State) (f) : (s.mapBasin f).still.frame = s.still.frame := by simp [still_def]

@[simp] theorem still_mapLedger (s : State) (f) : (s.mapLedger f).still = s.still := still_eq rfl rfl rfl rfl

@[simp] theorem still_send (s : State) (f) : (s.send f).still = s.still := still_eq rfl rfl rfl rfl

@[simp] theorem still_takeFree (s : State) : s.takeFree.still = s.still := still_eq rfl rfl rfl rfl

@[simp] theorem still_atTime (s : State) (t) : (s.atTime t).still = s.still := still_eq rfl rfl rfl rfl

@[simp] theorem still_hostWrite (s : State) (a l) : (s.hostWrite a l).still = s.still := still_eq rfl rfl rfl rfl

@[simp] theorem still_mapSurface (s : State) (a l) : (s.mapSurface a l).still = s.still := still_eq rfl rfl rfl rfl

@[simp] theorem still_setSurfaces (s : State) (x) : ({ s with surfaces := x } : State).still = s.still :=
  still_eq rfl rfl rfl rfl

@[simp] theorem still_setSeals (s : State) (x) : ({ s with seals := x } : State).still = s.still :=
  still_eq rfl rfl rfl rfl

@[simp] theorem still_setDmas (s : State) (x) : ({ s with dmas := x } : State).still = s.still :=
  still_eq rfl rfl rfl rfl

@[simp] theorem still_setCan (s : State) (x) : ({ s with can := x } : State).still = s.still :=
  still_eq rfl rfl rfl rfl

@[simp] theorem still_setContracts (s : State) (x) : ({ s with contracts := x } : State).still = s.still :=
  still_eq rfl rfl rfl rfl

/-! ### Answers -/

theorem still_of_eq_pair {α : Type} {r : α × State} {a : α} {s t : State} (h : r = (a, t)) (hr : r.2.still = s.still) :
    t.still = s.still := by
  subst h
  exact hr

@[simp] theorem stateAfter_ite (s : State) (c : Prop) [Decidable c] (x y : Out) :
    stateAfter s (if c then x else y) = if c then stateAfter s x else stateAfter s y := apply_ite (stateAfter s) c x y

@[simp] theorem still_stateAfter_next (s t : State) : (stateAfter s (.next t)).still = t.still := by simp [stateAfter]

/-! ### The operations of Sys2Proof/Machine/Ops.lean -/

@[simp] theorem still_sendMsi (v : Nat) (s : State) : (sendMsi v s).still = s.still := by simp [sendMsi]

@[simp] theorem still_startTimer (v : Nat) (s : State) : (startTimer v s).still = s.still := by simp [startTimer]

@[simp] theorem still_wake (s : State) : (wake s).still = s.still := by
  unfold wake
  split <;> simp

@[simp] theorem still_notify (v : Nat) (s : State) : (notify v s).still = s.still := by simp [notify]

@[simp] theorem still_holdNote (v : Nat) (s : State) : (holdNote v s).still = s.still := by simp [holdNote]

@[simp] theorem still_raiseAt (t src code : Nat) (data : List Byte) (s : State) :
    (raiseAt t src code data s).still = s.still := by
  simp [raiseAt]

@[simp] theorem still_raise (src code : Nat) (data : List Byte) (s : State) : (raise src code data s).still = s.still := by
  simp [raise]

@[simp] theorem still_setLevel (src : Nat) (high : Bool) (s : State) : (setLevel src high s).still = s.still := by simp [setLevel]

@[simp] theorem still_raiseInternal (src code : Nat) (data : List Byte) (s : State) :
    (raiseInternal src code data s).still = s.still := by
  simp [raiseInternal]

@[simp] theorem still_signalFence (f : Nat) (v : Word64) (s : State) : (signalFence f v s).still = s.still := by
  unfold signalFence
  split <;> simp

@[simp] theorem still_writeRecord (h : HeldRecord) (quiet : Bool) (s : State) : (writeRecord h quiet s).still = s.still := by
  unfold writeRecord
  split <;> simp

@[simp] theorem still_noteReport (b : Barge) (body : List Byte) (s : State) : (noteReport b body s).still = s.still := by
  simp [noteReport]

@[simp] theorem still_imageFail (phase index status detail : Nat) (s : State) :
    (imageFail phase index status detail s).still = s.still := by
  simp [imageFail]

@[simp] theorem still_noteImage (b : Barge) (r : Reply) (s : State) : (noteImage b r s).still = s.still := by
  unfold noteImage
  split <;> simp

@[simp] theorem still_complete (b : Barge) (r : Reply) (s : State) : (complete b r s).still = s.still := by
  unfold complete
  dsimp only
  (repeat' split) <;> simp

theorem still_runBarge {check : Barge → State → Option Reply} {apply : Barge → State → State} {b : Barge} {s : State}
    (h : (apply b s).still = s.still) : (runBarge check apply b s).still = s.still := by
  unfold runBarge
  split
  · exact still_complete ..
  · exact h

theorem frame_runBarge {check : Barge → State → Option Reply} {apply : Barge → State → State} {b : Barge} {s : State}
    (h : (apply b s).still.frame = s.still.frame) : (runBarge check apply b s).still.frame = s.still.frame := by
  unfold runBarge
  split
  · rw [still_complete]
  · exact h

@[simp] theorem still_barge {check : Barge → State → Option Reply} {apply : Barge → State → State} (b : Barge) (s : State)
    (h : (apply b s).still = s.still) : (stateAfter s (barge check apply b s)).still = s.still := still_runBarge h

/-! ### The operations of Sys2Proof/Machine/MemOps.lean -/

@[simp] theorem still_faultRecord (kind object response lflags : Nat) (detail : List Byte) (s : State) :
    (faultRecord kind object response lflags detail s).still = s.still := by
  simp [faultRecord]

@[simp] theorem still_noteRecent (d : Nat) (s : State) : (noteRecent d s).still = s.still := by simp [noteRecent]

@[simp] theorem still_noteBad (w client response : Nat) (s : State) : (noteBad w client response s).still = s.still := by
  simp [noteBad]

@[simp] theorem still_noteCorrected (s : State) : (noteCorrected s).still = s.still := by simp [noteCorrected]

@[simp] theorem still_cleanWord (w : Nat) (s : State) : (cleanWord w s).still = s.still := by simp [cleanWord]

@[simp] theorem still_readWord_cleanPrimary (client w : Nat) (s : State) :
    (readWord.cleanPrimary client w s).still = s.still := by
  simp [readWord.cleanPrimary]

@[simp] theorem still_readWord (client response w : Nat) (s : State) : (readWord client response w s).2.still = s.still := by
  unfold readWord
  (repeat' split) <;> simp

@[simp] theorem still_poisonPut (w : Nat) (f : DevMem → DevMem) (s : State) :
    (writeWord.poisonPut w s fun t => t.mapMem f).still = s.still := by
  simp [writeWord.poisonPut]

@[simp] theorem still_writeWord (w lo : Nat) (bytes : List Byte) (s : State) : (writeWord w lo bytes s).still = s.still := by
  unfold writeWord
  dsimp only
  (repeat' split) <;> simp

@[simp] theorem still_devWriteFuel (n a : Nat) (bytes : List Byte) (s : State) : (devWriteFuel n a bytes s).still = s.still := by
  induction n generalizing a bytes s with
  | zero => rfl
  | succ n ih => simp [devWriteFuel, ih]

@[simp] theorem still_devWrite (a : Nat) (bytes : List Byte) (s : State) : (devWrite a bytes s).still = s.still := by
  simp [devWrite]

@[simp] theorem still_devReadFuel (client response n a k : Nat) (s : State) :
    (devReadFuel client response n a k s).2.2.still = s.still := by
  induction n generalizing a k s with
  | zero => rfl
  | succ n ih =>
    unfold devReadFuel
    dsimp only
    (repeat' split) <;> simp [ih]

@[simp] theorem still_devRead (client response a n : Nat) (s : State) : (devRead client response a n s).2.2.still = s.still := by
  simp [devRead]

theorem still_of_placeRegion {n : Nat} {twin : Bool} {kind : RegionKind} {s t : State} {r : Region}
    (h : placeRegion n twin kind s = some (r, t)) : t.still = s.still := by
  unfold placeRegion at h
  split at h
  · cases h
  · obtain ⟨m, -, hm⟩ := Option.map_eq_some_iff.mp h
    cases hm
    simp

@[simp] theorem still_setMirror (g m : Nat) (s : State) : (setMirror g m s).still = s.still := by simp [setMirror]

@[simp] theorem still_promote (g m : Nat) (s : State) : (promote g m s).still = s.still := by simp [promote]

@[simp] theorem still_remirrorOne (g : Nat) (s : State) : (remirrorOne g s).still = s.still := by
  unfold remirrorOne
  dsimp only
  (repeat' split) <;> simp

@[simp] theorem still_remirrorAll (s : State) : (remirrorAll s).still = s.still := by simp [remirrorAll]

@[simp] theorem still_freeRegion (base : Nat) (s : State) : (freeRegion base s).still = s.still := by
  unfold freeRegion
  split <;> simp

/-! ### The operations of Sys2Proof/Machine/SurfOps.lean -/

@[simp] theorem still_settleSurface (s : State) (x : Surface) : (settleSurface s x).still = s.still := by simp [settleSurface]

@[simp] theorem still_refreshSurfaces (s : State) : (refreshSurfaces s).still = s.still := by simp [refreshSurfaces]

@[simp] theorem still_raiseRetired (s : State) : (raiseRetired s).still = s.still := by simp [raiseRetired]

@[simp] theorem still_areaWritten (p tile frame : Nat) (s : State) : (areaWritten p tile frame s).still = s.still := by
  simp [areaWritten]

@[simp] theorem still_areasOfPipeDone (p : Nat) (s : State) : (areasOfPipeDone p s).still = s.still := by simp [areasOfPipeDone]

@[simp] theorem still_contentWritten (ranges : List (Nat × Nat)) (s : State) : (contentWritten ranges s).still = s.still := by
  simp [contentWritten]

@[simp] theorem still_readRuns (client response : Nat) (l : List (Nat × Nat)) (s : State) :
    (readRuns client response l s).2.2.still = s.still := by
  induction l generalizing s with
  | nil => rfl
  | cons x l ih => simp [readRuns, ih]

@[simp] theorem still_readTile (client response : Nat) (x : Surface) (t : Nat) (s : State) :
    (readTile client response x t s).2.still = s.still := by
  unfold readTile
  dsimp only
  (repeat' split) <;> simp

/-! ### The operations of Sys2Proof/Machine/Surfaces.lean -/

@[simp] theorem still_memAllocApply (b : Barge) (s : State) : (memAllocApply b s).still = s.still := by
  unfold memAllocApply
  split
  next hp => simp [still_of_placeRegion hp]
  next => simp

@[simp] theorem still_execMemAlloc (b : Barge) (s : State) : (stateAfter s (execMemAlloc b s)).still = s.still := by
  simp [execMemAlloc]

@[simp] theorem still_memFreeApply (b : Barge) (s : State) : (memFreeApply b s).still = s.still := by simp [memFreeApply]

@[simp] theorem still_surfaceRegisterApply (b : Barge) (s : State) : (surfaceRegisterApply b s).still = s.still := by
  simp [surfaceRegisterApply]

@[simp] theorem still_execSurfaceRegister (b : Barge) (s : State) : (stateAfter s (execSurfaceRegister b s)).still = s.still := by
  simp [execSurfaceRegister]

@[simp] theorem still_surfaceFreeApply (b : Barge) (s : State) : (surfaceFreeApply b s).still = s.still := by
  simp [surfaceFreeApply]

@[simp] theorem still_execSurfaceFree (b : Barge) (s : State) : (stateAfter s (execSurfaceFree b s)).still = s.still := by
  simp [execSurfaceFree]

@[simp] theorem still_dmaStart (upload : Bool) (b : Barge) (s : State) : (dmaStart upload b s).still = s.still := by
  simp [dmaStart]

@[simp] theorem still_execDmaUpload (b : Barge) (s : State) : (stateAfter s (execDmaUpload b s)).still = s.still := by
  simp [execDmaUpload]

@[simp] theorem still_execDmaDownload (b : Barge) (s : State) : (stateAfter s (execDmaDownload b s)).still = s.still := by
  simp [execDmaDownload]

@[simp] theorem still_dmaMove (d : DmaJob) (s : State) : (dmaMove d s).2.still = s.still := by
  unfold dmaMove
  split <;> simp

@[simp] theorem still_execDmaTransferComplete (ring seq : Nat) (s : State) :
    (stateAfter s (execDmaTransferComplete ring seq s)).still = s.still := by
  unfold execDmaTransferComplete
  split <;> simp

@[simp] theorem still_surfaceSealApply (b : Barge) (s : State) : (surfaceSealApply b s).still = s.still := by
  simp [surfaceSealApply]

@[simp] theorem still_execSurfaceSeal (b : Barge) (s : State) : (stateAfter s (execSurfaceSeal b s)).still = s.still := by
  simp [execSurfaceSeal]

@[simp] theorem still_surfaceUnsealApply (b : Barge) (s : State) : (surfaceUnsealApply b s).still = s.still := by
  simp [surfaceUnsealApply]

@[simp] theorem still_execSurfaceUnseal (b : Barge) (s : State) : (stateAfter s (execSurfaceUnseal b s)).still = s.still := by
  simp [execSurfaceUnseal]

@[simp] theorem still_computeSeals (x : Surface) (t n : Nat) (s : State) : (computeSeals x t n s).2.still = s.still := by
  induction n generalizing t s with
  | zero => rfl
  | succ n ih =>
    have hr := still_readTile 0x02 4 x t s
    unfold computeSeals
    split
    next u ht => simpa [ht] using hr
    next bytes u ht =>
      have hu := ih (t + 1) u
      split
      next v hv => simp_all
      next => simp_all
    next bad u ht =>
      have hu := ih (t + 1) u.takeFree
      dsimp only
      split
      next v hv => simp_all
      next => simp_all

@[simp] theorem still_execSealComputeComplete (ring seq : Nat) (s : State) :
    (stateAfter s (execSealComputeComplete ring seq s)).still = s.still := by
  unfold execSealComputeComplete
  rw [still_stateAfter_next]
  split
  · rfl
  · extract_lets s1
    have h1 : s1.still = s.still := still_eq rfl rfl rfl rfl
    split
    · simp [h1]
    · split
      · simp [h1]
      · split
        · simp [h1]
        · split
          next ht => simp [still_of_eq_pair ht (still_computeSeals ..), h1]
          next ht => simp [still_of_eq_pair ht (still_computeSeals ..), h1]

@[simp] theorem still_surfaceQueryApply (b : Barge) (s : State) : (surfaceQueryApply b s).still = s.still := by
  simp [surfaceQueryApply]

@[simp] theorem still_execSurfaceQuery (b : Barge) (s : State) : (stateAfter s (execSurfaceQuery b s)).still = s.still := by
  simp [execSurfaceQuery]

/-! ### The operations of Sys2Proof/Machine/Admission.lean -/

theorem still_of_placePrivate {n : Nat} {twin : Bool} {kind : RegionKind} {s t : State} {r : Region}
    (h : placePrivate n twin kind s = .inl (r, t)) : t.still = s.still := by
  unfold placePrivate at h
  split at h
  · cases h
  · split at h
    next hp => cases h; exact still_of_placeRegion hp
    next => split at h <;> cases h

@[simp] theorem still_readmit (s : State) : (readmit s).still = s.still := by simp [readmit]

@[simp] theorem still_readmitIf (s : State) : (readmitIf s).still = s.still := by simp [readmitIf]

@[simp] theorem still_memoryShort (obj demand limit : Nat) (short : Bool) (s : State) :
    (memoryShort obj demand limit short s).still = s.still := by
  simp [memoryShort]

/-! ### The operations of Sys2Proof/Machine/Registers.lean -/

@[simp] theorem still_countBad (s : State) : (countBad s).still = s.still := by simp [countBad]

@[simp] theorem still_readAccess0 (off width : Nat) (s : State) : (readAccess0 off width s).still = s.still := by
  unfold readAccess0
  (repeat' split) <;> simp

@[simp] theorem still_execLowWordRead (bar off : Nat) (s : State) :
    (stateAfter s (execLowWordRead bar off s)).still = s.still := by
  simp [execLowWordRead]

@[simp] theorem still_writeBar0 (off v : Nat) (s : State) : (writeBar0 off v s).still = s.still := by
  unfold writeBar0
  split <;> simp

@[simp] theorem still_writeBar4 (off v : Nat) (s : State) : (writeBar4 off v s).still = s.still := by
  unfold writeBar4
  (repeat' split) <;> simp

@[simp] theorem still_writeConfig (off v : Nat) (s : State) : (writeConfig off v s).still = s.still := by
  unfold writeConfig
  split <;> simp

@[simp] theorem still_execRegisterWrite (bar off width : Nat) (value : Word64) (s : State) :
    (stateAfter s (execRegisterWrite bar off width value s)).still = s.still := by
  simp [execRegisterWrite]

/-! ### The operations of Sys2Proof/Machine/FaultOps.lean -/

@[simp] theorem still_quarantine (kind index : Nat) (s : State) : (quarantine kind index s).still = s.still := by
  simp [quarantine]

@[simp] theorem still_unquarantine (kind index : Nat) (s : State) : (unquarantine kind index s).still = s.still := by
  simp [unquarantine]

@[simp] theorem still_internalRecord (b : Barge) (s : State) : (internalRecord b s).still = s.still := by simp [internalRecord]

@[simp] theorem still_setCondition (i : Nat) (s : State) : (setCondition i s).still = s.still := by simp [setCondition]

@[simp] theorem still_clearCondition (i : Nat) (s : State) : (clearCondition i s).still = s.still := by simp [clearCondition]

@[simp] theorem still_syncFaultOut (s : State) : (syncFaultOut s).still = s.still := by simp [syncFaultOut]

@[simp] theorem still_syncSource (s : State) (n : Nat) : (syncSource s n).still = s.still := by simp [syncSource]

@[simp] theorem still_syncMirrors (s : State) : (syncMirrors s).still = s.still := by simp [syncMirrors]

@[simp] theorem still_syncLevels (s : State) : (syncLevels s).still = s.still := by simp [syncLevels]

@[simp] theorem still_done (s t : State) : (stateAfter s (done t)).still = t.still := by simp [done]

@[simp] theorem still_bargeSync {check : Barge → State → Option Reply} {apply : Barge → State → State} (b : Barge) (s : State)
    (h : (apply b s).still = s.still) : (stateAfter s (bargeSync check apply b s)).still = s.still := by
  simp [bargeSync, still_runBarge h]

@[simp] theorem frame_bargeSync {check : Barge → State → Option Reply} {apply : Barge → State → State} (b : Barge) (s : State)
    (h : (apply b s).still.frame = s.still.frame) : (stateAfter s (bargeSync check apply b s)).still.frame = s.still.frame := by
  simp [bargeSync, frame_runBarge h]

@[simp] theorem still_execMemFree (b : Barge) (s : State) : (stateAfter s (execMemFree b s)).still = s.still := by
  simp [execMemFree]

/-! ### The operations of Sys2Proof/Machine/Layers.lean -/

@[simp] theorem still_layerAssignApply (b : Barge) (s : State) : (layerAssignApply b s).still = s.still := by
  unfold layerAssignApply
  dsimp only
  split <;> simp [assignRequest]

@[simp] theorem still_execLayerAssign (b : Barge) (s : State) : (stateAfter s (execLayerAssign b s)).still = s.still := by
  simp [execLayerAssign]

@[simp] theorem still_layerReleaseApply (b : Barge) (s : State) : (layerReleaseApply b s).still = s.still := by
  simp [layerReleaseApply]

@[simp] theorem still_execLayerRelease (b : Barge) (s : State) : (stateAfter s (execLayerRelease b s)).still = s.still := by
  simp [execLayerRelease]

@[simp] theorem still_layerSetApply (b : Barge) (s : State) : (layerSetApply b s).still = s.still := by simp [layerSetApply]

@[simp] theorem still_execLayerSet (b : Barge) (s : State) : (stateAfter s (execLayerSet b s)).still = s.still := by
  simp [execLayerSet]

@[simp] theorem still_podDefineApply (b : Barge) (s : State) : (podDefineApply b s).still = s.still := by simp [podDefineApply]

@[simp] theorem still_execPodDefine (b : Barge) (s : State) : (stateAfter s (execPodDefine b s)).still = s.still := by
  simp [execPodDefine]

@[simp] theorem still_podDeleteApply (b : Barge) (s : State) : (podDeleteApply b s).still = s.still := by simp [podDeleteApply]

@[simp] theorem still_execPodDelete (b : Barge) (s : State) : (stateAfter s (execPodDelete b s)).still = s.still := by
  simp [execPodDelete]

@[simp] theorem still_markDamage (p : Nat) (tiles : List Nat) (s : State) : (markDamage p tiles s).still = s.still := by
  simp [markDamage]

@[simp] theorem still_markAll (p : Nat) (s : State) : (markAll p s).still = s.still := by simp [markAll]

@[simp] theorem still_damageDeclareApply (b : Barge) (s : State) : (damageDeclareApply b s).still = s.still := by
  simp [damageDeclareApply]

@[simp] theorem still_execDamageDeclare (b : Barge) (s : State) : (stateAfter s (execDamageDeclare b s)).still = s.still := by
  simp [execDamageDeclare]

@[simp] theorem still_layerQueryApply (b : Barge) (s : State) : (layerQueryApply b s).still = s.still := by simp [layerQueryApply]

@[simp] theorem still_execLayerQuery (b : Barge) (s : State) : (stateAfter s (execLayerQuery b s)).still = s.still := by
  simp [execLayerQuery]

/-! ### The operations of Sys2Proof/Machine/Basin.lean -/

@[simp] theorem still_bankOut (p : Nat) (s : State) : (bankOut p s).still = s.still := by simp [bankOut]

@[simp] theorem frame_shadowFails (s : State) : (shadowFails s).still.frame = s.still.frame := by
  unfold shadowFails
  split <;> simp

@[simp] theorem frame_bankFails (b : Nat) (s : State) : (bankFails b s).still.frame = s.still.frame := by simp [bankFails]

@[simp] theorem still_noteInjected (w : Nat) (s : State) : (noteInjected w s).still = s.still := by simp [noteInjected]

@[simp] theorem frame_readStored (shadow : Bool) (w : Nat) (s : State) :
    (readStored shadow w s).2.still.frame = s.still.frame := by
  unfold readStored
  dsimp only
  (repeat' split) <;> simp

@[simp] theorem frame_readRows (r : Nat) (l : List Nat) (s : State) : (readRows r l s).2.still.frame = s.still.frame := by
  induction l generalizing s with
  | nil => rfl
  | cons b l ih => unfold readRows; split <;> simp [ih]

@[simp] theorem frame_reconstruct (w : Nat) (s : State) : (reconstruct w s).2.still.frame = s.still.frame := by simp [reconstruct]

@[simp] theorem frame_readRow (w : Nat) (s : State) : (readRow w s).2.still.frame = s.still.frame := by
  unfold readRow
  dsimp only
  (repeat' split) <;> simp

@[simp] theorem frame_readBasin (l : List Nat) (cur : Option (Nat × Option Nat)) (s : State) :
    (readBasin l cur s).2.still.frame = s.still.frame := by
  induction l generalizing cur s with
  | nil => rfl
  | cons a l ih =>
    unfold readBasin
    dsimp only
    (repeat' split) <;> simp [ih]

@[simp] theorem frame_writeRow (w : Nat) (l : List (Nat × Word32)) (s : State) : (writeRow w l s).still.frame = s.still.frame := by
  have hr := frame_readRow w s
  unfold writeRow
  generalize readRow w s = r at hr ⊢
  obtain ⟨m, t⟩ := r
  dsimp -zeta only at hr ⊢
  extract_lets b mask put others t0 t1
  have hput (u : State) : (put u).still.frame = u.still.frame := frame_mapBasin ..
  have h1 : t1.still.frame = s.still.frame := by
    unfold t1
    split <;> simp [hput, hr, t0]
  have hn := frame_readStored true (w / 16) t1
  generalize readStored true (w / 16) t1 = r at hn ⊢
  obtain ⟨n, t2⟩ := r
  dsimp -zeta only at hn ⊢
  split
  · exact h1
  · split <;> simp [hn, h1]

@[simp] theorem frame_writeBasinFuel (n : Nat) (l : List (Nat × Word32)) (s : State) :
    (writeBasinFuel n l s).still.frame = s.still.frame := by
  induction n generalizing l s with
  | zero => rfl
  | succ n ih => cases l <;> simp [writeBasinFuel, ih]

@[simp] theorem frame_writeBasin (l : List (Nat × Word32)) (s : State) : (writeBasin l s).still.frame = s.still.frame := by
  simp [writeBasin]

@[simp] theorem frame_addBasinUpsets (l : List BasinUpset) (s : State) : (addBasinUpsets l s).still.frame = s.still.frame := by
  simp [addBasinUpsets]

@[simp] theorem frame_execBankRebuildComplete (s : State) :
    (stateAfter s (execBankRebuildComplete s)).still.frame = s.still.frame := by
  unfold execBankRebuildComplete
  split <;> simp

@[simp] theorem frame_noteBadWord (p w : Nat) (s : State) : (noteBadWord p w s).still.frame = s.still.frame := by
  simp [noteBadWord]

@[simp] theorem frame_readPixels (p : Nat) (addrs : List Nat) (s : State) :
    (readPixels p addrs s).2.still.frame = s.still.frame := by
  simp [readPixels]

/-! ### The operations of Sys2Proof/Machine/Compose.lean -/

@[simp] theorem still_breakSeal (u : Surface) (t computed cause : Nat) (s : State) :
    (breakSeal u t computed cause s).still = s.still := by
  simp [breakSeal]

@[simp] theorem still_examineWord (client w : Nat) (e : Examined) : (examineWord client w e).2.s.still = e.s.still := by
  unfold examineWord
  repeat' split
  · rfl
  · rfl
  · rfl
  next hw => simp [still_of_eq_pair hw (still_readWord ..)]
  next hw => simp [still_of_eq_pair hw (still_readWord ..)]

@[simp] theorem still_examineWords (client : Nat) (l : List Nat) (e : Examined) :
    (examineWords client l e).2.s.still = e.s.still := by
  induction l generalizing e with
  | nil => rfl
  | cons w l ih => simp [examineWords, ih]

@[simp] theorem still_examineTile (client : Nat) (u : Surface) (t : Nat) (e : Examined) :
    (examineTile client u t e).2.s.still = e.s.still := by
  have hw := still_examineWords client (tileWords e.s u t) e
  unfold examineTile
  generalize examineWords client (tileWords e.s u t) e = r at hw ⊢
  obtain ⟨ok, e'⟩ := r
  dsimp only at hw ⊢
  (repeat' split) <;> simp [hw]

@[simp] theorem still_examineTiles (client : Nat) (u : Surface) (l : List Nat) (e : Examined) :
    (examineTiles client u l e).2.s.still = e.s.still := by
  induction l generalizing e with
  | nil => rfl
  | cons t l ih => simp [examineTiles, ih]

@[simp] theorem still_examineLayer (client width : Nat) (cols lines : List Nat) (l : List Drawn) (d : Drawn) (e : Examined) :
    (examineLayer client width cols lines l d e).2.s.still = e.s.still := by
  unfold examineLayer
  dsimp only
  split <;> simp

@[simp] theorem still_examineSegment (client width : Nat) (cols lines : List Nat) (all l : List Drawn) (e : Examined) :
    (examineSegment client width cols lines all l e).2.s.still = e.s.still := by
  induction l generalizing e with
  | nil => rfl
  | cons d l ih => simp [examineSegment, ih]

@[simp] theorem still_examineRow (p h y : Nat) (all : Bool) (s : State) : (examineRow p h y all s).still = s.still := by
  unfold examineRow
  extract_lets c drawn client lines which step
  have hstep (acc : List (Nat × Nat) × Examined) (t : Nat) : (step acc t).2.s.still = acc.2.s.still := by simp [step]
  have hfold (l : List Nat) (acc : List (Nat × Nat) × Examined) : (l.foldl step acc).2.s.still = acc.2.s.still := by
    induction l generalizing acc with
    | nil => rfl
    | cons t l ih => exact (ih (step acc t)).trans (hstep acc t)
  exact (still_mapHalf ..).trans (hfold _ _)

@[simp] theorem still_addSample (s : State) (x : Nat × Nat) : (addSample s x).still = s.still := by simp [addSample]

@[simp] theorem still_composeLine (p h y : Nat) (s : State) : (composeLine p h y s).2.still = s.still := by
  unfold composeLine
  dsimp only
  (repeat' split) <;> simp

/-! ### The operations of Sys2Proof/Machine/RecOps.lean -/

@[simp] theorem still_swapEncoder (s : State) (k : Nat) : (swapEncoder s k).still = s.still := by simp [swapEncoder]

@[simp] theorem still_closeOpen (s : State) : (closeOpen s).still = s.still := by simp [closeOpen]

theorem still_of_appendEntry {e : SegEntry} {s t : State} (h : appendEntry e s = some t) : t.still = s.still := by
  simp only [appendEntry] at h
  split at h <;> simp only [Option.ite_none_left_eq_some, Option.some.injEq] at h <;> obtain ⟨-, rfl⟩ := h <;> simp

@[simp] theorem still_flushGap (k : Nat) (s : State) : (flushGap k s).still = s.still := by
  unfold flushGap
  split
  · rfl
  · split
    · rfl
    next ht => simp [still_of_appendEntry ht]

@[simp] theorem still_flushGaps (s : State) : (flushGaps s).still = s.still := by simp [flushGaps]

@[simp] theorem still_noteGap (k cause frame : Nat) (s : State) : (noteGap k cause frame s).still = s.still := by
  unfold noteGap
  split <;> simp

@[simp] theorem still_closeSegment (s : State) : (closeSegment s).still = s.still := by simp [closeSegment]

@[simp] theorem still_holdSlot (input slot : Nat) (held : Bool) (s : State) : (holdSlot input slot held s).still = s.still := by
  simp [holdSlot]

@[simp] theorem still_dropOldest (k : Nat) (s : State) : (dropOldest k s).still = s.still := by
  unfold dropOldest
  dsimp only
  (repeat' split) <;> simp

@[simp] theorem still_sourceFrame (kind source frame slot limit : Nat) (s : State) :
    (sourceFrame kind source frame slot limit s).still = s.still := by
  unfold sourceFrame
  (repeat' split) <;> simp

@[simp] theorem still_overwriteSlot (pipe slot : Nat) (s : State) : (overwriteSlot pipe slot s).still = s.still := by
  unfold overwriteSlot
  split <;> simp

@[simp] theorem still_sourceLost (kind source frame cause : Nat) (s : State) :
    (sourceLost kind source frame cause s).still = s.still := by
  unfold sourceLost
  split <;> simp

/-! ### The operations of Sys2Proof/Machine/Tap.lean -/

@[simp] theorem frame_tapHalf (p h y : Nat) (segs : List Seg) (s : State) :
    (tapHalf p h y segs s).2.still.frame = s.still.frame := by
  unfold tapHalf
  dsimp only
  (repeat' split) <;> simp

@[simp] theorem frame_tapHalves (p y h : Nat) (l : List (List Seg)) (s : State) :
    (tapHalves p y h l s).2.still.frame = s.still.frame := by
  induction l generalizing h s with
  | nil => rfl
  | cons g l ih => simp [tapHalves, ih]

@[simp] theorem still_tapWrite (p y : Nat) (line : List Word32) (s : State) : (tapWrite p y line s).still = s.still := by
  unfold tapWrite
  split <;> simp

@[simp] theorem still_tapDone (p : Nat) (s : State) : (tapDone p s).still = s.still := by simp [tapDone]

@[simp] theorem frame_tapLine (p y : Nat) (segs : List (List Seg)) (s : State) :
    (tapLine p y segs s).still.frame = s.still.frame := by
  simp [tapLine]

/-! ### The operations of Sys2Proof/Machine/Lanes.lean -/

@[simp] theorem still_mapLine (p h y frame : Nat) (f : LineRec → LineRec) (s : State) :
    (mapLine p h y frame f s).still = s.still := by
  simp [mapLine]

@[simp] theorem still_finishHandover (x : Handover) (s : State) : (finishHandover x s).still = s.still := by
  have hmap : ∀ l, (swapLanes l x.lane x.out x.inc).length = l.length := fun l => by simp [swapLanes]
  simp [finishHandover, hmap]

@[simp] theorem still_tilesWritten (p y : Nat) (r : LineRec) (s : State) : (tilesWritten p y r s).still = s.still := by
  simp [tilesWritten]

@[simp] theorem still_finishLandings (p : Nat) (s : State) : (finishLandings p s).still = s.still := by simp [finishLandings]

@[simp] theorem frame_landLine (p h y : Nat) (r : LineRec) (s : State) : (landLine p h y r s).still.frame = s.still.frame := by
  unfold landLine
  dsimp only
  (repeat' split) <;> simp

@[simp] theorem still_reachHandover (p h y : Nat) (s : State) : (reachHandover p h y s).still = s.still := by
  unfold reachHandover
  split <;> simp

@[simp] theorem still_beginLine (p h y : Nat) (s : State) : (beginLine p h y s).still = s.still := by
  unfold beginLine
  split <;> simp

@[simp] theorem still_endRow (p h y : Nat) (s : State) : (endRow p h y s).still = s.still := by simp [endRow]

@[simp] theorem frame_tapReady (p y : Nat) (s : State) : (tapReady p y s).still.frame = s.still.frame := by simp [tapReady]

@[simp] theorem frame_nextLine (p h y : Nat) (s : State) : (nextLine p h y s).still.frame = s.still.frame := by simp [nextLine]

@[simp] theorem frame_composeNow (p h y : Nat) (s : State) : (composeNow p h y s).still.frame = s.still.frame := by
  unfold composeNow
  dsimp only
  (repeat' split) <;> simp

@[simp] theorem frame_runLines (p h n : Nat) (s : State) : (runLines p h n s).still.frame = s.still.frame := by
  induction n generalizing s with
  | zero => rfl
  | succ n ih =>
    unfold runLines
    dsimp only
    split <;> simp [ih]

@[simp] theorem frame_runHalf (p h : Nat) (s : State) : (runHalf p h s).still.frame = s.still.frame := by simp [runHalf]

@[simp] theorem still_towSlip (p n : Nat) (l : Layer) (s : State) : (towSlip p n l s).still = s.still := by
  unfold towSlip
  dsimp only
  (repeat' split) <;> simp

@[simp] theorem still_notePend (p n seq tSof : Nat) (s : State) : (notePend p n seq tSof s).still = s.still := by simp [notePend]

@[simp] theorem still_bindLayer (p n : Nat) (s : State) : (bindLayer p n s).still = s.still := by
  unfold bindLayer
  dsimp only
  (repeat' split) <;> simp

@[simp] theorem still_bindLayers (p : Nat) (s : State) : (bindLayers p s).still = s.still := by simp [bindLayers]

@[simp] theorem still_detectLane (lane cause : Nat) (s : State) : (detectLane lane cause s).still = s.still := by
  simp [detectLane]

@[simp] theorem still_execLaneFaultDetected (lane cause : Nat) (s : State) :
    (stateAfter s (execLaneFaultDetected lane cause s)).still = s.still := by
  simp [execLaneFaultDetected]

@[simp] theorem still_execLandingCheck (p h y : Nat) (s : State) : (stateAfter s (execLandingCheck p h y s)).still = s.still := by
  unfold execLandingCheck
  split <;> simp

@[simp] theorem still_fenceLane (p h : Nat) (s : State) : (fenceLane p h s).still = s.still := by simp [fenceLane]

@[simp] theorem still_stopLaneTests (lane : Nat) (s : State) : (stopLaneTests lane s).still = s.still := by simp [stopLaneTests]

@[simp] theorem still_startTakeover (k out inc : Nat) (s : State) : (startTakeover k out inc s).still = s.still := by
  simp [startTakeover]

@[simp] theorem still_beyondLane (k out : Nat) (s : State) : (beyondLane k out s).still = s.still := by
  unfold beyondLane
  dsimp only
  (repeat' split) <;> simp

@[simp] theorem still_replaceLane (lane : Nat) (s : State) : (replaceLane lane s).still = s.still := by
  unfold replaceLane
  (repeat' split) <;> simp

@[simp] theorem still_loseSpare (s : State) : (loseSpare s).still = s.still := by simp [loseSpare]

@[simp] theorem still_routeLaneFault (lane : Nat) (s : State) : (routeLaneFault lane s).still = s.still := by
  unfold routeLaneFault
  (repeat' split) <;> simp

@[simp] theorem still_declareLane (lane cause : Nat) (s : State) : (declareLane lane cause s).still = s.still := by
  simp [declareLane]

@[simp] theorem still_execLaneFaultDeclared (lane : Nat) (s : State) :
    (stateAfter s (execLaneFaultDeclared lane s)).still = s.still := by
  unfold execLaneFaultDeclared
  split <;> simp

@[simp] theorem frame_resumeHalf (p h : Nat) (s : State) : (resumeHalf p h s).still.frame = s.still.frame := by simp [resumeHalf]

@[simp] theorem still_nextTakeover (s : State) : (nextTakeover s).still = s.still := by
  unfold nextTakeover
  split <;> simp

@[simp] theorem frame_execTakeoverSpareStart (s : State) :
    (stateAfter s (execTakeoverSpareStart s)).still.frame = s.still.frame := by
  unfold execTakeoverSpareStart
  dsimp only
  (repeat' split) <;> simp

@[simp] theorem still_execHandoverLoaded (s : State) : (stateAfter s (execHandoverLoaded s)).still = s.still := by
  unfold execHandoverLoaded
  (repeat' split) <;> simp

@[simp] theorem still_noteWhole (p : Nat) (s : State) : (noteWhole p s).still = s.still := by simp [noteWhole]

@[simp] theorem still_endLine (p : Nat) (s t : State) : (stateAfter s (endLine p t)).still = t.still := by simp [endLine]

@[simp] theorem frame_execLineRelease (p h y : Nat) (s : State) :
    (stateAfter s (execLineRelease p h y s)).still.frame = s.still.frame := by
  simp [execLineRelease]

@[simp] theorem still_addUpsets (l : List Upset) (s : State) : (addUpsets l s).still = s.still := by simp [addUpsets]

@[simp] theorem still_addSealUpsets (l : List (Nat × Nat)) (s : State) : (addSealUpsets l s).still = s.still := by
  simp [addSealUpsets]

@[simp] theorem frame_execFetchReturn (p h y : Nat) (upsets : List Upset) (sealUpsets : List (Nat × Nat)) (s : State) :
    (stateAfter s (execFetchReturn p h y upsets sealUpsets s)).still.frame = s.still.frame := by
  unfold execFetchReturn
  dsimp only
  (repeat' split) <;> simp

@[simp] theorem still_makeLate (p h y : Nat) (l : Nat × Nat × Nat) (s : State) : (makeLate p h y l s).still = s.still := by
  simp [makeLate]

@[simp] theorem frame_execDeadline (p h y : Nat) (s : State) :
    (stateAfter s (execDeadline p h y s)).still.frame = s.still.frame := by
  simp [execDeadline]

@[simp] theorem frame_execLineWrite (p h y : Nat) (s : State) :
    (stateAfter s (execLineWrite p h y s)).still.frame = s.still.frame := by
  unfold execLineWrite
  split <;> simp

@[simp] theorem frame_execWindowOpen (p h y : Nat) (s : State) :
    (stateAfter s (execWindowOpen p h y s)).still.frame = s.still.frame := by
  unfold execWindowOpen
  split <;> simp

/-! ### The operations of Sys2Proof/Machine/Commit.lean -/

@[simp] theorem still_takeCommit (b : Barge) (s : State) : (takeCommit b s).2.still = s.still := by simp [takeCommit, still_def]

@[simp] theorem still_detachArea (p : Nat) (o n : LayerCfg) (s : State) : (detachArea p o n s).still = s.still := by
  simp [detachArea]

@[simp] theorem still_bindRaced (h : Nat) (s : State) : (bindRaced h s).still = s.still := by
  unfold bindRaced
  split <;> simp

@[simp] theorem still_applyChange (p : Nat) (c : Change) (s : State) : (applyChange p c s).2.still = s.still := by
  simp [applyChange]

@[simp] theorem still_applyRelease (p n : Nat) (s : State) : (applyRelease p n s).2.still = s.still := by
  have hpods (t : State) (f : Pod → Pod) : ({ t with pods := t.pods.map f } : State).still = t.still := by
    simp [still_def]
  simp [applyRelease, hpods]

@[simp] theorem still_applyChanges (p : Nat) (l : List Change) (t : LockTally) (s : State) :
    (applyChanges p l t s).2.still = s.still := by
  induction l generalizing t s with
  | nil => rfl
  | cons c l ih => simp [applyChanges, ih]

@[simp] theorem still_lockGroup (p : Nat) (carried : Bool) (g : Machine.Group) (t : LockTally) (s : State) :
    (lockGroup p carried g t s).2.still = s.still := by
  unfold lockGroup
  dsimp only
  (repeat' split) <;> simp

@[simp] theorem still_lockGroups (p : Nat) (l : List (Bool × Group)) (t : LockTally) (s : State) :
    (lockGroups p l t s).2.still = s.still := by
  induction l generalizing t s with
  | nil => rfl
  | cons x l ih => simp [lockGroups, ih]

@[simp] theorem still_lockReleases (p : Nat) (l : List Nat) (t : LockTally) (s : State) :
    (lockReleases p l t s).2.still = s.still := by
  induction l generalizing t s with
  | nil => rfl
  | cons n l ih => simp [lockReleases, ih]

@[simp] theorem still_lockCommit (p : Nat) (c : Option Commit) (s : State) : (lockCommit p c s).2.still = s.still := by
  simp [lockCommit]

@[simp] theorem still_finishCommit (p : Nat) (c : Commit) (t : LockTally) (s : State) :
    (finishCommit p c t s).still = s.still := by
  simp [finishCommit]

@[simp] theorem still_lockBank (p : Nat) (s : State) : (lockBank p s).still = s.still := by
  unfold lockBank
  split <;> simp

@[simp] theorem still_commitApply (b : Barge) (s : State) : (commitApply b s).still = s.still := by simp [commitApply]

@[simp] theorem still_execCommit (b : Barge) (s : State) : (stateAfter s (execCommit b s)).still = s.still := by simp [execCommit]

@[simp] theorem still_markCommitted (b : Barge) (s : State) : (markCommitted b s).still = s.still := by simp [markCommitted]

@[simp] theorem still_execShadowBankComplete (p : Nat) (s : State) :
    (stateAfter s (execShadowBankComplete p s)).still = s.still := by
  unfold execShadowBankComplete
  split <;> simp

@[simp] theorem still_returnCommit (c : Commit) (s : State) : (returnCommit c s).still = s.still := by simp [returnCommit]

@[simp] theorem still_lockTone (p n : Nat) (s : State) : (lockTone p n s).still = s.still := by simp [lockTone]

@[simp] theorem still_lockTones (p : Nat) (s : State) : (lockTones p s).still = s.still := by simp [lockTones]

@[simp] theorem still_lockVisible (p n : Nat) (s : State) : (lockVisible p n s).still = s.still := by simp [lockVisible]

@[simp] theorem still_lockVisibility (p : Nat) (s : State) : (lockVisibility p s).still = s.still := by simp [lockVisibility]

@[simp] theorem still_reseedPipe (p : Nat) (s : State) : (reseedPipe p s).still = s.still := by simp [reseedPipe]

/-! ### The operations of Sys2Proof/Machine/Pipes.lean -/

@[simp] theorem still_readOstage (b : Barge) (a : Nat) (s : State) : (readOstage b a s).2.still = s.still := by
  unfold readOstage
  dsimp only
  (repeat' split) <;> simp

@[simp] theorem still_setConfig (p : Nat) (c : PipeCfg) (o : OutStage) (s : State) : (setConfig p c o s).still = s.still := by
  simp [setConfig]

@[simp] theorem still_freeWbRing (p : Nat) (s : State) : (freeWbRing p s).still = s.still := by
  unfold freeWbRing
  split <;> simp

theorem still_of_placeWbRing {p : Nat} {c : PipeCfg} {rateDiv : Nat} {s t : State} (h : placeWbRing p c rateDiv s = .inl t) :
    t.still = s.still := by
  unfold placeWbRing at h
  dsimp only at h
  split at h
  · split at h
    · cases h; rfl
    · split at h <;> cases h
      next hp => exact (still_of_placePrivate hp).trans (still_freeRegion ..)
  · split at h <;> cases h
    next hp => exact still_of_placePrivate hp

theorem still_of_fitWbRing {p : Nat} {c : PipeCfg} {s t : State} (h : fitWbRing p c s = .inl t) : t.still = s.still := by
  unfold fitWbRing at h
  split at h
  · split at h
    · split at h <;> cases h
      next hp => simp [still_of_placeWbRing hp]
    · cases h; rfl
  · cases h; rfl

@[simp] theorem still_pipeConfigApply (b : Barge) (s : State) : (pipeConfigApply b s).still = s.still := by
  unfold pipeConfigApply
  extract_lets p c
  have hr := still_readOstage b c.ostage s
  generalize readOstage b c.ostage s = r at hr ⊢
  obtain ⟨o | e, t⟩ := r <;> dsimp only at hr ⊢
  · split
    · simp [hr]
    · split
      next hf => simp [still_of_fitWbRing hf, hr]
      next => simp [hr]
  · simp [hr]

@[simp] theorem still_execPipeConfig (b : Barge) (s : State) : (stateAfter s (execPipeConfig b s)).still = s.still := by
  simp [execPipeConfig]

@[simp] theorem still_pipeRemoveApply (b : Barge) (s : State) : (pipeRemoveApply b s).still = s.still := by simp [pipeRemoveApply]

@[simp] theorem still_execPipeRemove (b : Barge) (s : State) : (stateAfter s (execPipeRemove b s)).still = s.still := by
  simp [execPipeRemove]

@[simp] theorem still_freeTow (p : Nat) (s : State) : (freeTow p s).still = s.still := by simp [freeTow]

@[simp] theorem still_trainLink (c : PipeCfg) (l : Nat) (s : State) : (trainLink c l s).still = s.still := by simp [trainLink]

@[simp] theorem still_trainLinks (c : PipeCfg) (fresh : Bool) (s : State) : (trainLinks c fresh s).still = s.still := by
  simp [trainLinks]

@[simp] theorem still_settleEnables (p : Nat) (s : State) : (settleEnables p s).still = s.still := by
  unfold settleEnables
  split <;> simp

@[simp] theorem still_startPipe (b : Barge) (p : Nat) (s : State) : (startPipe b p s).still = s.still := by simp [startPipe]

@[simp] theorem still_pipeEnableApply (b : Barge) (s : State) : (pipeEnableApply b s).still = s.still := by simp [pipeEnableApply]

@[simp] theorem still_execPipeEnable (b : Barge) (s : State) : (stateAfter s (execPipeEnable b s)).still = s.still := by
  simp [execPipeEnable]

@[simp] theorem still_pipeDisableApply (b : Barge) (s : State) : (pipeDisableApply b s).still = s.still := by
  simp [pipeDisableApply]

@[simp] theorem still_execPipeDisable (b : Barge) (s : State) : (stateAfter s (execPipeDisable b s)).still = s.still := by
  simp [execPipeDisable]

@[simp] theorem still_startTiming (b : Barge) (p : Nat) (n : PipeCfg) (o : OutStage) (s : State) :
    (startTiming b p n o s).still = s.still := by
  unfold startTiming
  dsimp only
  split
  · simp
  · split
    next ht => simp [still_of_fitWbRing ht]
    next => simp

@[simp] theorem still_timingChangeApply (b : Barge) (s : State) : (timingChangeApply b s).still = s.still := by
  unfold timingChangeApply
  extract_lets p x n
  have hr := still_readOstage b n.ostage s
  generalize readOstage b n.ostage s = r at hr ⊢
  obtain ⟨o | e, t⟩ := r <;> dsimp only at hr ⊢ <;> simp [hr]

@[simp] theorem still_execTimingChange (b : Barge) (s : State) : (stateAfter s (execTimingChange b s)).still = s.still := by
  simp [execTimingChange]

@[simp] theorem still_setPhase (p : Nat) (s : State) : (setPhase p s).still = s.still := by simp [setPhase]

@[simp] theorem still_applyTow (p : Nat) (t : TowPending) (s : State) : (applyTow p t s).still = s.still := by simp [applyTow]

@[simp] theorem still_towSetApply (b : Barge) (s : State) : (towSetApply b s).still = s.still := by
  unfold towSetApply
  dsimp only
  (repeat' split) <;> simp

@[simp] theorem still_execTowSet (b : Barge) (s : State) : (stateAfter s (execTowSet b s)).still = s.still := by simp [execTowSet]

@[simp] theorem still_linkStatusApply (b : Barge) (s : State) : (linkStatusApply b s).still = s.still := by simp [linkStatusApply]

@[simp] theorem still_execLinkStatus (b : Barge) (s : State) : (stateAfter s (execLinkStatus b s)).still = s.still := by
  simp [execLinkStatus]

@[simp] theorem still_sendAux (l : Nat) (s : State) : (sendAux l s).still = s.still := by
  unfold sendAux
  split <;> simp

@[simp] theorem still_queueAux (l : Nat) (j : AuxJob) (s : State) : (queueAux l j s).still = s.still := by simp [queueAux]

@[simp] theorem still_edidReadApply (b : Barge) (s : State) : (edidReadApply b s).still = s.still := by simp [edidReadApply]

@[simp] theorem still_execEdidRead (b : Barge) (s : State) : (stateAfter s (execEdidRead b s)).still = s.still := by
  simp [execEdidRead]

@[simp] theorem still_applyWriteback (p : Nat) (w : Writeback) (s : State) : (applyWriteback p w s).still = s.still := by
  simp [applyWriteback]

@[simp] theorem still_writebackSetApply (b : Barge) (s : State) : (writebackSetApply b s).still = s.still := by
  unfold writebackSetApply
  extract_lets p x c w0 w atOnce
  split
  next placed fail hp =>
    have hplaced : placed.still = s.still := by
      split at hp
      · split at hp <;> cases hp
        next ht => exact still_of_placeWbRing ht
        next => rfl
      · cases hp; rfl
    extract_lets new
    have hnew : new.still = s.still := by simp [new, hplaced]
    split
    split <;> simp [hnew]

@[simp] theorem still_execWritebackSet (b : Barge) (s : State) : (stateAfter s (execWritebackSet b s)).still = s.still := by
  simp [execWritebackSet]

/-! ### The operations of Sys2Proof/Machine/PoundOps.lean -/

@[simp] theorem still_levelChanged (q old : Nat) (s : State) : (levelChanged q old s).still = s.still := by simp [levelChanged]

theorem trimQuarter_queues (p : Pound) (k : Nat) : (trimQuarter p k).queues = p.queues := by
  unfold trimQuarter
  split <;> rfl

@[simp] theorem trimQuarters_queues (p : Pound) : (trimQuarters p).queues = p.queues := by simp [trimQuarters, trimQuarter_queues]

@[simp] theorem still_freeCellsList (l : List Nat) (s : State) : (freeCellsList l s).still = s.still := by simp [freeCellsList]

@[simp] theorem still_queueLevelSource (q : Nat) (s : State) : (queueLevelSource q s).still = s.still := by
  unfold queueLevelSource
  split <;> simp

@[simp] theorem still_changeQueue (q : Nat) (freed : List Nat) (f : Queue → Queue) (s : State) :
    (changeQueue q freed f s).still = s.still := by
  simp [changeQueue]

@[simp] theorem still_setCode (c : PoundCode) (s : State) : (setCode c s).still = s.still := by simp [setCode]

@[simp] theorem takeCells_queues (p : Pound) (n : Nat) : (takeCells p n).2.queues = p.queues := by
  induction n generalizing p with
  | zero => rfl
  | succ n ih => unfold takeCells; split <;> simp [ih]

@[simp] theorem still_qPut (q : Nat) (l : List Byte) (s : State) : (qPut q l s).still = s.still := by
  have hpound (n : Nat) : ({ s with pound := (takeCells s.pound n).2 } : State).still = s.still := by
    simp [still_def]
  simp [qPut, hpound]

@[simp] theorem still_qEnd (q : Nat) (s : State) : (qEnd q s).still = s.still := by
  unfold qEnd
  dsimp only
  (repeat' split) <;> simp

@[simp] theorem still_qCancel (q : Nat) (s : State) : (qCancel q s).still = s.still := by
  unfold qCancel
  dsimp only
  (repeat' split) <;> simp

@[simp] theorem still_qComplete (q : Nat) (s : State) : (qComplete q s).still = s.still := by simp [qComplete]

@[simp] theorem still_afterFlush (q : Nat) (s : State) (op : State → State) (h : ∀ t, (op t).still = t.still) :
    (afterFlush q s op).still = s.still := by
  simp [afterFlush, h]

@[simp] theorem still_qGet (q n : Nat) (s : State) : (qGet q n s).still = s.still := by
  unfold qGet
  refine still_afterFlush _ _ _ fun t => ?_
  dsimp only
  (repeat' split) <;> simp

@[simp] theorem still_qNext (q : Nat) (s : State) : (qNext q s).still = s.still := by
  unfold qNext
  refine still_afterFlush _ _ _ fun t => ?_
  dsimp only
  (repeat' split) <;> simp

@[simp] theorem still_qDrop (q : Nat) (s : State) : (qDrop q s).still = s.still := by
  unfold qDrop
  refine still_afterFlush _ _ _ fun t => ?_
  dsimp only
  (repeat' split) <;> simp

@[simp] theorem still_qMark (q : Nat) (s : State) : (qMark q s).still = s.still := by
  unfold qMark
  refine still_afterFlush _ _ _ fun t => ?_
  dsimp only
  (repeat' split) <;> simp

@[simp] theorem still_qRewind (q : Nat) (s : State) : (qRewind q s).still = s.still := by
  unfold qRewind
  refine still_afterFlush _ _ _ fun t => ?_
  split <;> simp

@[simp] theorem still_qRelease (q : Nat) (s : State) : (qRelease q s).still = s.still := by
  unfold qRelease
  refine still_afterFlush _ _ _ fun t => ?_
  dsimp only
  (repeat' split) <;> simp

@[simp] theorem still_qFlush (q : Nat) (s : State) : (qFlush q s).still = s.still := by simp [qFlush]

@[simp] theorem powerQuarters_queues (p : Pound) : (powerQuarters p).queues = p.queues := by
  unfold powerQuarters
  exact List.foldlRecOn (motive := fun (q : Pound) => q.queues = p.queues) _ _ rfl fun q hq k _ => by
    split <;> exact hq

@[simp] theorem still_createQueue (q producer consumer : Nat) (reserved : Bool) (quota maxItem : Nat) (s : State) :
    (createQueue q producer consumer reserved quota maxItem s).still = s.still := by
  simp [createQueue]

@[simp] theorem still_deleteQueue (q : Nat) (s : State) : (deleteQueue q s).still = s.still := by simp [deleteQueue]

theorem still_of_putItem {q : Nat} {l : List Byte} {s t : State} (h : putItem q l s = some t) : t.still = s.still := by
  simp only [putItem, Option.ite_none_right_eq_some, Option.some.injEq] at h
  obtain ⟨-, rfl⟩ := h
  simp

@[simp] theorem still_putItem_getD (q : Nat) (l : List Byte) (s : State) : ((putItem q l s).getD s).still = s.still := by
  cases h : putItem q l s with
  | none => rfl
  | some t => exact still_of_putItem h

theorem still_of_takeItem {q : Nat} {l : List Byte} {s t : State} (h : takeItem q s = some (l, t)) : t.still = s.still := by
  obtain ⟨i, -, hi⟩ := Option.map_eq_some_iff.mp h
  cases hi
  simp

/-! ### The operations of Sys2Proof/Machine/Sign.lean -/

@[simp] theorem still_bindProducer (q client : Nat) (s : State) : (bindProducer q client s).still = s.still := by
  simp [bindProducer]

@[simp] theorem still_unbindProducer (l q : Nat) (s : State) : (unbindProducer l q s).still = s.still := by simp [unbindProducer]

@[simp] theorem still_applySign (l : Nat) (b : Barge) (s : State) : (applySign l b s).still = s.still := by simp [applySign]

@[simp] theorem still_takeSigns (l : Nat) (s : State) : (takeSigns l s).still = s.still := by simp [takeSigns]

/-! ### The operations of Sys2Proof/Machine/Scanout.lean -/

@[simp] theorem frame_fetchLine (p h y : Nat) (s : State) : (fetchLine p h y s).still.frame = s.still.frame := by simp [fetchLine]

@[simp] theorem still_pathFault (l : Nat) (s : State) : (pathFault l s).still = s.still := by simp [pathFault]

@[simp] theorem still_switchPath (l : Nat) (s : State) : (switchPath l s).still = s.still := by simp [switchPath]

@[simp] theorem still_takeDisable (p : Nat) (s : State) : (takeDisable p s).still = s.still := by simp [takeDisable]

@[simp] theorem still_blackLinks (p : Nat) (s : State) : (blackLinks p s).still = s.still := by simp [blackLinks]

@[simp] theorem still_countBlack (p : Nat) (s : State) : (countBlack p s).still = s.still := by
  unfold countBlack
  dsimp only
  (repeat' split) <;> simp

@[simp] theorem frame_firstLight (p : Nat) (s : State) : (firstLight p s).still.frame = s.still.frame := by simp [firstLight]

@[simp] theorem still_frameCompletions (p : Nat) (s : State) : (frameCompletions p s).still = s.still := by
  unfold frameCompletions
  dsimp only
  (repeat' split) <;> simp

@[simp] theorem still_noteFirstLight (s : State) : (noteFirstLight s).still = s.still := by simp [noteFirstLight]

@[simp] theorem frame_frameStart (p : Nat) (s : State) : (frameStart p s).still.frame = s.still.frame := by simp [frameStart]

@[simp] theorem frame_execFrameStart (p : Nat) (s : State) : (stateAfter s (execFrameStart p s)).still.frame = s.still.frame := by
  simp [execFrameStart]

@[simp] theorem still_holdLine (p h y : Nat) (marked : List Nat) (s : State) : (holdLine p h y marked s).still = s.still := by
  simp [holdLine]

@[simp] theorem frame_windowClose (p h y : Nat) (s : State) : (windowClose p h y s).still.frame = s.still.frame := by
  unfold windowClose
  split <;> simp

@[simp] theorem frame_execWindowClose (p h y : Nat) (upsets : List BasinUpset) (s : State) :
    (stateAfter s (execWindowClose p h y upsets s)).still.frame = s.still.frame := by
  simp [execWindowClose]

@[simp] theorem still_lastPixelRepeat (p h y x : Nat) (s : State) : (lastPixelRepeat p h y x s).still = s.still := by
  simp [lastPixelRepeat]

@[simp] theorem still_execLastPixelRepeat (p h y x : Nat) (s : State) :
    (stateAfter s (execLastPixelRepeat p h y x s)).still = s.still := by
  simp [execLastPixelRepeat]

@[simp] theorem still_handRecords (p : Nat) (s : State) : (handRecords p s).still = s.still := by simp [handRecords]

@[simp] theorem still_frameEvents (p : Nat) (s : State) : (frameEvents p s).still = s.still := by
  unfold frameEvents
  dsimp only
  (repeat' split) <;> simp

@[simp] theorem frame_checkProbe (p h : Nat) (s : State) : (checkProbe p h s).still.frame = s.still.frame := by
  unfold checkProbe
  split <;> simp

@[simp] theorem still_exceeded (p slot seq ns bound : Nat) (s : State) : (exceeded p slot seq ns bound s).still = s.still := by
  simp [exceeded]

@[simp] theorem still_measureLatency (p : Nat) (s : State) : (measureLatency p s).still = s.still := by simp [measureLatency]

@[simp] theorem still_startRetrain (l : Nat) (s : State) : (startRetrain l s).still = s.still := by simp [startRetrain]

@[simp] theorem frame_execVerticalBlanking (p : Nat) (s : State) :
    (stateAfter s (execVerticalBlanking p s)).still.frame = s.still.frame := by
  simp [execVerticalBlanking]

@[simp] theorem still_towNext (p : Nat) (e : Rat) (now : Nat) (s : State) : (towNext p e now s).still = s.still := by
  unfold towNext
  dsimp only
  (repeat' split) <;> simp

@[simp] theorem still_towTrim (p : Nat) (s : State) : (towTrim p s).still = s.still := by simp [towTrim]

@[simp] theorem still_towDecision (p : Nat) (s : State) : (towDecision p s).still = s.still := by simp [towDecision]

@[simp] theorem still_execTowDecision (p : Nat) (s : State) : (stateAfter s (execTowDecision p s)).still = s.still := by
  simp [execTowDecision]

/-! ### The operations of Sys2Proof/Machine/Black.lean -/

@[simp] theorem still_applyContract (c : Contract) (s : State) : (applyContract c s).still = s.still := by simp [applyContract]

@[simp] theorem still_applyAtLock (p : Nat) (a : AtLock) (s : State) : (applyAtLock p a s).still = s.still := by
  unfold applyAtLock
  split <;> simp

@[simp] theorem still_applyAtLocks (p : Nat) (s : State) : (applyAtLocks p s).still = s.still := by simp [applyAtLocks]

@[simp] theorem still_setOstage (p : Nat) (o : OutStage) (s : State) : (setOstage p o s).still = s.still := by simp [setOstage]

@[simp] theorem still_applyLockClass (p : Nat) (r : Retime) (s : State) : (applyLockClass p r s).still = s.still := by
  simp [applyLockClass]

@[simp] theorem still_settleTiming (p : Nat) (s : State) : (settleTiming p s).still = s.still := by simp [settleTiming]

@[simp] theorem still_stopRetime (p : Nat) (s : State) : (stopRetime p s).still = s.still := by
  unfold stopRetime
  split <;> simp

@[simp] theorem still_stopCommits (p : Nat) (s : State) : (stopCommits p s).still = s.still := by
  refine (still_foldl (fun t c => ?_) _ _).trans (still_mapPipe ..)
  simp

@[simp] theorem still_stopLandings (p : Nat) (s : State) : (stopLandings p s).still = s.still := by simp [stopLandings]

@[simp] theorem still_stopPipe (p : Nat) (s : State) : (stopPipe p s).still = s.still := by simp [stopPipe]

@[simp] theorem still_resumePipe (p : Nat) (r : Retime) (s : State) : (resumePipe p r s).still = s.still := by
  unfold resumePipe
  dsimp only
  (repeat' split) <;> simp

@[simp] theorem still_settleRetime (p : Nat) (s : State) : (settleRetime p s).still = s.still := by
  unfold settleRetime
  split <;> simp

@[simp] theorem still_beginRetrain (p : Nat) (r : Retime) (s : State) : (beginRetrain p r s).still = s.still := by
  simp [beginRetrain]

@[simp] theorem still_execBlackFramesEnd (p : Nat) (s : State) : (stateAfter s (execBlackFramesEnd p s)).still = s.still := by
  unfold execBlackFramesEnd
  (repeat' split) <;> simp

/-! ### The operations of Sys2Proof/Machine/Links.lean -/

@[simp] theorem still_settleLinks (l : Nat) (s : State) : (settleLinks l s).still = s.still := by
  unfold settleLinks
  split <;> simp

@[simp] theorem still_linkEvent (l code : Nat) (s : State) : (linkEvent l code s).still = s.still := by simp [linkEvent]

@[simp] theorem still_countEvents (l n : Nat) (s : State) : (countEvents l n s).still = s.still := by simp [countEvents]

@[simp] theorem still_countEdges (l n : Nat) (s : State) : (countEdges l n s).still = s.still := by simp [countEdges]

@[simp] theorem still_linkDown (l : Nat) (s : State) : (linkDown l s).still = s.still := by simp [linkDown]

@[simp] theorem still_linkHigh (l : Nat) (s : State) : (linkHigh l s).still = s.still := by
  unfold linkHigh
  dsimp only
  (repeat' split) <;> simp

@[simp] theorem still_execHpdLow (l : Nat) (s : State) : (stateAfter s (execHpdLow l s)).still = s.still := by simp [execHpdLow]

@[simp] theorem still_execHpdHigh (l : Nat) (s : State) : (stateAfter s (execHpdHigh l s)).still = s.still := by
  simp [execHpdHigh]

@[simp] theorem still_execHpdStormEnd (l : Nat) (level : Bool) (s : State) :
    (stateAfter s (execHpdStormEnd l level s)).still = s.still := by
  simp [execHpdStormEnd]

@[simp] theorem still_execIrqHpd (l : Nat) (s : State) : (stateAfter s (execIrqHpd l s)).still = s.still := by simp [execIrqHpd]

@[simp] theorem still_nextAux (l : Nat) (s : State) : (nextAux l s).still = s.still := by simp [nextAux]

@[simp] theorem still_failAux (l : Nat) (j : AuxJob) (s : State) : (failAux l j s).still = s.still := by
  unfold failAux
  split <;> simp

@[simp] theorem still_finishAux (l : Nat) (j : AuxJob) (s : State) : (finishAux l j s).still = s.still := by
  unfold finishAux
  split <;> simp

@[simp] theorem still_mapAux (l : Nat) (f : AuxJob → AuxJob) (s : State) : (mapAux l f s).still = s.still := by simp [mapAux]

@[simp] theorem still_execAuxReply (l : Nat) (reply : AuxAnswer) (s : State) :
    (stateAfter s (execAuxReply l reply s)).still = s.still := by
  unfold execAuxReply
  (repeat' split) <;> simp

@[simp] theorem still_execAuxTimeout (l : Nat) (s : State) : (stateAfter s (execAuxTimeout l s)).still = s.still := by
  unfold execAuxTimeout
  split <;> simp

@[simp] theorem still_linkUp (l rate lanes : Nat) (s : State) : (linkUp l rate lanes s).still = s.still := by
  unfold linkUp
  dsimp only
  (repeat' split) <;> simp

@[simp] theorem still_linkFailed (l code : Nat) (s : State) : (linkFailed l code s).still = s.still := by simp [linkFailed]

@[simp] theorem still_execTrainingAttemptEnd (l : Nat) (result : TrainResult) (s : State) :
    (stateAfter s (execTrainingAttemptEnd l result s)).still = s.still := by
  unfold execTrainingAttemptEnd
  rw [still_done, still_ite]
  split
  · rfl
  · split <;> simp

@[simp] theorem still_execTrainingRetry (l : Nat) (s : State) : (stateAfter s (execTrainingRetry l s)).still = s.still := by
  unfold execTrainingRetry
  split <;> simp

@[simp] theorem still_symbolLost (l : Nat) (s : State) : (symbolLost l s).still = s.still := by simp [symbolLost]

@[simp] theorem still_execLinkLost (l : Nat) (s : State) : (stateAfter s (execLinkLost l s)).still = s.still := by
  simp [execLinkLost]

@[simp] theorem still_execAphyRetransmitRequest (l : Nat) (s : State) :
    (stateAfter s (execAphyRetransmitRequest l s)).still = s.still := by
  simp [execAphyRetransmitRequest]

/-! ### The operations of Sys2Proof/Machine/CamOps.lean -/

@[simp] theorem still_writeLine (m : Camera) (k line : Nat) (stored : List Byte) (s : State) :
    (writeLine m k line stored s).still = s.still := by
  unfold writeLine
  split <;> simp

@[simp] theorem still_writeRecordOf (i k : Nat) (s : State) : (writeRecordOf i k s).still = s.still := by simp [writeRecordOf]

@[simp] theorem still_mapSlot (i k : Nat) (f : CamSlot → CamSlot) (s : State) : (mapSlot i k f s).still = s.still := by
  simp [mapSlot]

@[simp] theorem still_countMalformed (i cls : Nat) (s : State) : (countMalformed i cls s).still = s.still := by
  simp [countMalformed]

@[simp] theorem still_freeTows (i : Nat) (s : State) : (freeTows i s).still = s.still := by simp [freeTows]

@[simp] theorem still_declareLoss (i : Nat) (s : State) : (declareLoss i s).still = s.still := by simp [declareLoss]

@[simp] theorem still_tellDrop (i : Nat) (s : State) : (tellDrop i s).still = s.still := by simp [tellDrop]

@[simp] theorem still_countDrop (i cause : Nat) (s : State) : (countDrop i cause s).still = s.still := by simp [countDrop]

@[simp] theorem still_drainQueue (q n : Nat) (s : State) : (drainQueue q n s).still = s.still := by
  induction n generalizing s with
  | zero => rfl
  | succ n ih =>
    unfold drainQueue
    split
    next ht => exact (ih _).trans (still_of_takeItem ht)
    next => rfl

@[simp] theorem still_dropStaged (i : Nat) (s : State) : (dropStaged i s).still = s.still := by simp [dropStaged]

@[simp] theorem still_lostToRecording (i seq cause : Nat) (s : State) : (lostToRecording i seq cause s).still = s.still := by
  simp [lostToRecording]

@[simp] theorem still_dropOpen (i cause : Nat) (s : State) : (dropOpen i cause s).still = s.still := by
  unfold dropOpen
  split <;> simp

@[simp] theorem still_reseedCamera (i : Nat) (s : State) : (reseedCamera i s).still = s.still := by simp [reseedCamera]

@[simp] theorem still_completeFrame (i k : Nat) (s : State) : (completeFrame i k s).still = s.still := by simp [completeFrame]

@[simp] theorem still_landOne (i line k : Nat) (stored : List Byte) (s : State) :
    (landOne i line k stored s).still = s.still := by
  simp [landOne]

@[simp] theorem still_landLineOf (i : Nat) (s : State) : (landLineOf i s).still = s.still := by
  unfold landLineOf
  dsimp only
  split
  · split
    · simp
    · split
      · rfl
      · split
        · simp
        · split
          next ht => simp [still_of_takeItem ht]
          next => rfl
  · rfl

@[simp] theorem still_landAll (i n : Nat) (s : State) : (landAll i n s).still = s.still := by
  induction n generalizing s with
  | zero => rfl
  | succ n ih => simp [landAll, ih]

@[simp] theorem still_freshSlots (i n : Nat) (s : State) : (freshSlots i n s).still = s.still := by simp [freshSlots, still_def]

theorem still_of_placeRing {i n : Nat} {s t : State} (h : placeRing i n s = .inl t) : t.still = s.still := by
  simp only [placeRing] at h
  (repeat' split at h) <;> cases h
  · rfl
  next hp => simp [still_of_placePrivate hp]
  · rfl
  next hp => simp [still_of_placePrivate hp]

@[simp] theorem still_createStaging (i : Nat) (s : State) : (createStaging i s).still = s.still := by simp [createStaging]

@[simp] theorem still_replaceRing (i : Nat) (s : State) : (replaceRing i s).still = s.still := by
  unfold replaceRing
  extract_lets m n s1
  have h1 : s1.still = s.still := by
    unfold s1
    split <;> simp
  split
  next ht => simp [still_of_placeRegion ht, h1]
  next => simp

/-! ### The operations of Sys2Proof/Machine/TrustOps.lean -/

@[simp] theorem still_showMode (cause : Nat) (s : State) : (showMode cause s).still = s.still := by simp [showMode]

@[simp] theorem still_setBase (m : BaseMode) (cause : Nat) (s : State) : (setBase m cause s).still = s.still := by simp [setBase]

/-! ### The operations of Sys2Proof/Machine/DriveOps.lean -/

@[simp] theorem still_issue (why : NvmeFor) (opcode addr length : Nat) (data : List Byte) (fua : Bool) (s : State) :
    (issue why opcode addr length data fua s).still = s.still := by
  simp [issue]

@[simp] theorem still_issueWrite (why : NvmeFor) (addr : Nat) (data : List Byte) (fua : Bool) (s : State) :
    (issueWrite why addr data fua s).still = s.still := by
  simp [issueWrite]

@[simp] theorem still_countWrite (n : Nat) (s : State) : (countWrite n s).still = s.still := by simp [countWrite]

@[simp] theorem still_writeLanded (c : NvmeCmd) (s : State) : (writeLanded c s).still = s.still := by simp [writeLanded]

@[simp] theorem still_issueSuper (clean : Bool) (s : State) : (issueSuper clean s).still = s.still := by simp [issueSuper]

@[simp] theorem still_limitProtection (n : Nat) (s : State) : (limitProtection n s).still = s.still := by
  induction n generalizing s with
  | zero => rfl
  | succ n ih =>
    unfold limitProtection
    dsimp only
    (repeat' split) <;> simp [ih]

@[simp] theorem still_endBursts (s : State) : (endBursts s).still = s.still := by simp [endBursts]

@[simp] theorem still_writeSegment (s : State) : (writeSegment s).still = s.still := by
  unfold writeSegment
  dsimp only
  (repeat' split) <;> simp

@[simp] theorem still_writeBootSlot (s : State) : (writeBootSlot s).still = s.still := by simp [writeBootSlot]

@[simp] theorem still_bootSlotLanded (s : State) : (bootSlotLanded s).still = s.still := by simp [bootSlotLanded]

@[simp] theorem still_closeManifest (s : State) : (closeManifest s).still = s.still := by simp [closeManifest]

@[simp] theorem still_segmentLanded (c : NvmeCmd) (s : State) : (segmentLanded c s).still = s.still := by
  unfold segmentLanded
  split <;> simp

@[simp] theorem still_signManifest (s : State) : (signManifest s).still = s.still := by
  unfold signManifest
  split <;> simp

@[simp] theorem still_writeManifest (s : State) : (writeManifest s).still = s.still := by
  unfold writeManifest
  dsimp only
  (repeat' split) <;> simp

@[simp] theorem still_flushLanded (s : State) : (flushLanded s).still = s.still := by simp [flushLanded]

@[simp] theorem still_manifestLanded (s : State) : (manifestLanded s).still = s.still := by
  unfold manifestLanded
  split <;> simp

@[simp] theorem still_resignManifests (s : State) : (resignManifests s).still = s.still := by simp [resignManifests]

@[simp] theorem still_stepDown (s : State) : (stepDown s).still = s.still := by simp [stepDown]

@[simp] theorem still_chargeCredit (d : Int) (s : State) : (chargeCredit d s).still = s.still := by simp [chargeCredit]

@[simp] theorem still_attachOwn (s : State) : (attachOwn s).still = s.still := by
  unfold attachOwn
  split <;> simp

@[simp] theorem still_tellInserted (k : DriveState) (rate : Option Nat) (s : State) :
    (tellInserted k rate s).still = s.still := by
  simp [tellInserted]

@[simp] theorem still_startAttach (s : State) : (startAttach s).still = s.still := by simp [startAttach]

@[simp] theorem still_endAttach (kbs : Nat) (s : State) : (endAttach kbs s).still = s.still := by simp [endAttach]

@[simp] theorem still_driveGone (failing : Option (NvmeCmd × Reply)) (s : State) : (driveGone failing s).still = s.still := by
  unfold driveGone
  dsimp only
  (repeat' split) <;> simp

@[simp] theorem still_driveError (c : NvmeCmd) (status : Nat) (s : State) : (driveError c status s).still = s.still := by
  simp [driveError]

@[simp] theorem still_portDown (s : State) : (portDown s).still = s.still := by
  unfold portDown
  dsimp only
  (repeat' split) <;> simp

@[simp] theorem still_advanceClose (s : State) : (advanceClose s).still = s.still := by simp [advanceClose]

/-! ### The operations of Sys2Proof/Machine/Recording.lean -/

@[simp] theorem still_moveRing (i n base : Nat) (s : State) : (moveRing i n base s).still = s.still := by
  unfold moveRing
  extract_lets m kept place contents slots s1 s2 s3 m'
  have h1 : s1.still = s.still := still_mapCam ..
  have h2 : s2.still = s1.still := still_eq rfl rfl (by simp [s2, State.bankLengths]) rfl
  have h3 : s3.still = s2.still := by
    unfold s3
    split <;> simp
  refine (still_foldl (fun t x => ?_) _ _).trans (h3.trans (h2.trans h1))
  simp

@[simp] theorem still_growRing (i : Nat) (s : State) : (growRing i s).1.still = s.still := by
  unfold growRing
  dsimp only
  split
  · rfl
  · split
    next => rfl
    next ht => simp [still_of_placePrivate ht]

@[simp] theorem still_shrinkRing (i : Nat) (s : State) : (shrinkRing i s).still = s.still := by simp [shrinkRing]

@[simp] theorem still_replaceEncoders (s : State) : (replaceEncoders s).still = s.still := by simp [replaceEncoders]

@[simp] theorem still_withStream (b : Barge) (s : State) : (withStream b s).1.still = s.still := by
  unfold withStream
  extract_lets k kind source first s1
  have h1 : s1.still = s.still := still_mapStream ..
  split
  next placed fail hp =>
    have hplaced : placed.still = s.still := by
      split at hp
      · split at hp <;> cases hp
        next ht => exact (still_of_placePrivate ht).trans h1
        next => exact h1
      · cases hp; exact h1
    by_cases hk : kind = 0 <;> simp [hk, hplaced]

@[simp] theorem still_recStreamAddApply (b : Barge) (s : State) : (recStreamAddApply b s).still = s.still := by
  unfold recStreamAddApply
  (repeat' split) <;> simp

@[simp] theorem still_execRecStreamAdd (b : Barge) (s : State) : (stateAfter s (execRecStreamAdd b s)).still = s.still := by
  simp [execRecStreamAdd]

@[simp] theorem still_releaseSlots (i : Nat) (s : State) : (releaseSlots i s).still = s.still := by simp [releaseSlots]

@[simp] theorem still_withoutStream (k : Nat) (s : State) : (withoutStream k s).still = s.still := by
  unfold withoutStream
  dsimp only
  (repeat' split) <;> simp

@[simp] theorem still_recStreamRemoveApply (b : Barge) (s : State) : (recStreamRemoveApply b s).still = s.still := by
  unfold recStreamRemoveApply
  dsimp only
  (repeat' split) <;> simp

@[simp] theorem still_execRecStreamRemove (b : Barge) (s : State) : (stateAfter s (execRecStreamRemove b s)).still = s.still := by
  simp [execRecStreamRemove]

@[simp] theorem still_leaveBursts (b : Barge) (s : State) : (leaveBursts b s).still = s.still := by simp [leaveBursts]

@[simp] theorem still_recBurstApply (b : Barge) (s : State) : (recBurstApply b s).still = s.still := by simp [recBurstApply]

@[simp] theorem still_execRecBurst (b : Barge) (s : State) : (stateAfter s (execRecBurst b s)).still = s.still := by
  simp [execRecBurst]

@[simp] theorem still_recBurstStopApply (b : Barge) (s : State) : (recBurstStopApply b s).still = s.still := by
  simp [recBurstStopApply]

@[simp] theorem still_execRecBurstStop (b : Barge) (s : State) : (stateAfter s (execRecBurstStop b s)).still = s.still := by
  simp [execRecBurstStop]

theorem still_of_passItems {q n : Nat} {l : List Byte} {s t : State} (h : passItems q n l s = some t) : t.still = s.still := by
  induction n generalizing l s with
  | zero => cases h; rfl
  | succ n ih =>
    unfold passItems at h
    split at h
    · cases h
    next hp =>
      split at h
      · cases h
      next ht => exact (ih h).trans ((still_of_takeItem ht).trans (still_of_putItem hp))

@[simp] theorem still_leaveRing (k : Nat) (s : State) : (leaveRing k s).still = s.still := by
  unfold leaveRing
  dsimp only
  (repeat' split) <;> simp

@[simp] theorem still_encodeFrame (k : Nat) (s : State) : (encodeFrame k s).still = s.still := by
  unfold encodeFrame
  dsimp only
  split
  · rfl
  · split
    · rfl
    · split
      · rfl
      · split
        · simp
        · split
          · rfl
          next hp =>
            split
            · rfl
            next ha => simp [still_of_appendEntry ha, still_of_passItems hp]

@[simp] theorem still_execEncodeFrame (k : Nat) (s : State) : (stateAfter s (execEncodeFrame k s)).still = s.still := by
  simp [execEncodeFrame]

@[simp] theorem still_recordSignature (link frame time crc : Nat) (bytes : List Byte) (s : State) :
    (recordSignature link frame time crc bytes s).still = s.still := by
  unfold recordSignature
  cases h : appendEntry (entryOf 2 link 0 frame time crc (crc32c bytes) bytes 0) s with
  | none => rfl
  | some t => exact still_of_appendEntry h

@[simp] theorem still_execSegmentClose (s : State) : (stateAfter s (execSegmentClose s)).still = s.still := by
  unfold execSegmentClose
  split <;> simp

@[simp] theorem still_recQueryApply (b : Barge) (s : State) : (recQueryApply b s).still = s.still := by simp [recQueryApply]

@[simp] theorem still_execRecQuery (b : Barge) (s : State) : (stateAfter s (execRecQuery b s)).still = s.still := by
  simp [execRecQuery]

/-! ### The operations of Sys2Proof/Machine/Store.lean -/

@[simp] theorem still_storeWriteApply (b : Barge) (s : State) : (storeWriteApply b s).still = s.still := by
  unfold storeWriteApply
  dsimp only
  (repeat' split) <;> simp

@[simp] theorem still_execStoreWrite (b : Barge) (s : State) : (stateAfter s (execStoreWrite b s)).still = s.still := by
  simp [execStoreWrite]

@[simp] theorem still_storeDataLanded (b : Barge) (c : NvmeCmd) (s : State) : (storeDataLanded b c s).still = s.still := by
  unfold storeDataLanded
  dsimp only
  (repeat' split) <;> simp

@[simp] theorem still_storeIndexLanded (b : Barge) (c : NvmeCmd) (s : State) : (storeIndexLanded b c s).still = s.still := by
  simp [storeIndexLanded]

@[simp] theorem still_storeReadApply (b : Barge) (s : State) : (storeReadApply b s).still = s.still := by
  unfold storeReadApply
  split <;> simp

@[simp] theorem still_execStoreRead (b : Barge) (s : State) : (stateAfter s (execStoreRead b s)).still = s.still := by
  simp [execStoreRead]

@[simp] theorem still_storeReadLanded (b : Barge) (s : State) : (storeReadLanded b s).still = s.still := by
  unfold storeReadLanded
  split <;> simp

@[simp] theorem still_storeReadBad (b : Barge) (s : State) : (storeReadBad b s).still = s.still := by simp [storeReadBad]

@[simp] theorem still_programmeLoadApply (b : Barge) (s : State) : (programmeLoadApply b s).still = s.still := by
  unfold programmeLoadApply
  split <;> simp

@[simp] theorem still_execProgrammeLoad (b : Barge) (s : State) : (stateAfter s (execProgrammeLoad b s)).still = s.still := by
  simp [execProgrammeLoad]

@[simp] theorem still_freeAssets (s : State) : (freeAssets s).still = s.still := by
  unfold freeAssets
  split <;> simp

@[simp] theorem still_loadAssets (g : Programme) (region : Nat) (l : List Nat) (s : State) :
    (loadAssets g region l s).2.still = s.still := by
  induction l generalizing s with
  | nil => rfl
  | cons i l ih =>
    unfold loadAssets
    extract_lets a n gen src x
    split
    · rfl
    · extract_lets bytes s1
      have h1 : s1.still = s.still := (still_devWrite ..).trans (still_eq rfl rfl rfl rfl)
      repeat' split
      · rfl
      · rfl
      · rfl
      next ht => simp [still_of_eq_pair ht (still_computeSeals ..), h1]
      next ht =>
        have hs := (still_of_eq_pair ht (still_computeSeals ..)).trans h1
        dsimp only
        split
        next hl => simp [still_of_eq_pair hl (ih _), hs]
        next => simp [ih, hs]

@[simp] theorem still_programmeLanded (b : Barge) (s : State) : (programmeLanded b s).still = s.still := by
  unfold programmeLanded
  split
  · extract_lets bytes g
    simp only [still_ite]
    repeat' split
    · simp
    · simp
    · simp
    · simp
    · simp
    · simp
    next hl _ _ => simp [still_of_eq_pair hl (still_loadAssets ..)]
  · simp
  · simp

@[simp] theorem still_programmeRemoveApply (b : Barge) (s : State) : (programmeRemoveApply b s).still = s.still := by
  simp [programmeRemoveApply]

@[simp] theorem still_execProgrammeRemove (b : Barge) (s : State) : (stateAfter s (execProgrammeRemove b s)).still = s.still := by
  simp [execProgrammeRemove]

@[simp] theorem still_prepareRemoveApply (b : Barge) (s : State) : (prepareRemoveApply b s).still = s.still := by
  simp [prepareRemoveApply]

@[simp] theorem still_execPrepareRemove (b : Barge) (s : State) : (stateAfter s (execPrepareRemove b s)).still = s.still := by
  simp [execPrepareRemove]

@[simp] theorem still_formatApply (b : Barge) (s : State) : (formatApply b s).still = s.still := by simp [formatApply]

@[simp] theorem still_execFormatDrive (b : Barge) (s : State) : (stateAfter s (execFormatDrive b s)).still = s.still := by
  simp [execFormatDrive]

@[simp] theorem still_formatLanded (b : Barge) (s : State) : (formatLanded b s).still = s.still := by
  have hfree : ({ s with free := s.free + 3 } : State).still = s.still := rfl
  simp [formatLanded, hfree]

@[simp] theorem still_unprotectApply (b : Barge) (s : State) : (unprotectApply b s).still = s.still := by simp [unprotectApply]

@[simp] theorem still_execUnprotect (b : Barge) (s : State) : (stateAfter s (execUnprotect b s)).still = s.still := by
  simp [execUnprotect]

/-! ### The operations of Sys2Proof/Machine/Drive.lean -/

@[simp] theorem still_execSegmentWrite (s : State) : (stateAfter s (execSegmentWrite s)).still = s.still := by
  simp [execSegmentWrite]

@[simp] theorem still_execManifestClose (s : State) : (stateAfter s (execManifestClose s)).still = s.still := by
  simp [execManifestClose]

@[simp] theorem still_execManifestWrite (s : State) : (stateAfter s (execManifestWrite s)).still = s.still := by
  simp [execManifestWrite]

@[simp] theorem still_execSuperblockUpdateTimer (s : State) : (stateAfter s (execSuperblockUpdateTimer s)).still = s.still := by
  simp [execSuperblockUpdateTimer]

@[simp] theorem still_execCreditTick (s : State) : (stateAfter s (execCreditTick s)).still = s.still := by simp [execCreditTick]

@[simp] theorem still_execLedgerCompare (smartBytes percentUsed : Nat) (s : State) :
    (stateAfter s (execLedgerCompare smartBytes percentUsed s)).still = s.still := by
  simp [execLedgerCompare]

@[simp] theorem still_execDriveInserted (d : DriveFacts) (s : State) :
    (stateAfter s (execDriveInserted d s)).still = s.still := by
  simp [execDriveInserted]

@[simp] theorem still_execDriveRateTestEnd (kbs : Nat) (s : State) :
    (stateAfter s (execDriveRateTestEnd kbs s)).still = s.still := by
  simp [execDriveRateTestEnd]

@[simp] theorem still_execDriveRemoved (s : State) : (stateAfter s (execDriveRemoved s)).still = s.still := by
  simp [execDriveRemoved]

@[simp] theorem still_commandFailed (c : NvmeCmd) (status : Nat) (s : State) : (commandFailed c status s).still = s.still := by
  simp [commandFailed]

@[simp] theorem still_execNvmeCommandTimeout (id status : Nat) (s : State) :
    (stateAfter s (execNvmeCommandTimeout id status s)).still = s.still := by
  unfold execNvmeCommandTimeout
  split <;> simp

@[simp] theorem still_commandLanded (c : NvmeCmd) (s : State) : (commandLanded c s).still = s.still := by
  unfold commandLanded
  split <;> simp

@[simp] theorem still_execNvmeCommandComplete (id status : Nat) (data : List Byte) (s : State) :
    (stateAfter s (execNvmeCommandComplete id status data s)).still = s.still := by
  unfold execNvmeCommandComplete
  (repeat' split) <;> simp

/-! ### The operations of Sys2Proof/Machine/Events.lean -/

@[simp] theorem still_recordMove (s : State) : (recordMove s).still = s.still := by
  unfold recordMove
  dsimp only
  (repeat' split)
  · rfl
  · simp
  · simp
  next hp => simp [still_of_putItem hp]

@[simp] theorem still_execRecordMove (s : State) : (stateAfter s (execRecordMove s)).still = s.still := by simp [execRecordMove]

@[simp] theorem still_execEdgeAssertion (host : Bool) (n code : Nat) (data : List Byte) (s : State) :
    (stateAfter s (execEdgeAssertion host n code data s)).still = s.still := by
  simp [execEdgeAssertion]

@[simp] theorem still_execLevelChange (host : Bool) (n : Nat) (level : Bool) (s : State) :
    (stateAfter s (execLevelChange host n level s)).still = s.still := by
  simp [execLevelChange]

@[simp] theorem still_execComplete (value : Word32) (s : State) : (stateAfter s (execComplete value s)).still = s.still := by
  simp [execComplete]

@[simp] theorem still_execEcSnap (value : Word32) (s : State) : (stateAfter s (execEcSnap value s)).still = s.still := by
  simp [execEcSnap]

@[simp] theorem still_execHeadDb (k : Nat) (value : Word32) (s : State) :
    (stateAfter s (execHeadDb k value s)).still = s.still := by
  simp [execHeadDb]

@[simp] theorem still_writeEntry (k : Nat) (quiet : Bool) (s : State) : (writeEntry k quiet s).still = s.still := by
  unfold writeEntry
  dsimp only
  split
  · rfl
  · split
    · rfl
    next ht => simp [still_of_takeItem ht]

@[simp] theorem still_execEventEntryWrite (k : Nat) (s : State) : (stateAfter s (execEventEntryWrite k s)).still = s.still := by
  unfold execEventEntryWrite
  (repeat' split) <;> simp

@[simp] theorem still_writeEntries (k n : Nat) (s : State) : (writeEntries k n s).still = s.still := by
  induction n generalizing s with
  | zero => rfl
  | succ n ih => simp [writeEntries, ih]

@[simp] theorem still_writeHeldRecords (n : Nat) (s : State) : (writeHeldRecords n s).still = s.still := by
  simp [writeHeldRecords]

@[simp] theorem still_releaseVector (v : Nat) (s : State) : (releaseVector v s).still = s.still := by simp [releaseVector]

@[simp] theorem still_returnToD0 (s : State) : (returnToD0 s).still = s.still := by simp [returnToD0]

@[simp] theorem still_execMsixUnmask (t : MsixTarget) (s : State) : (stateAfter s (execMsixUnmask t s)).still = s.still := by
  unfold execMsixUnmask
  rw [still_stateAfter_next]
  refine (still_foldl (fun t v => ?_) _ _).trans ?_
  · simp
  · cases t <;> simp

@[simp] theorem still_execHoldoffTimerExpiry (v : Nat) (s : State) :
    (stateAfter s (execHoldoffTimerExpiry v s)).still = s.still := by
  unfold execHoldoffTimerExpiry
  dsimp only
  (repeat' split) <;> simp

@[simp] theorem still_execFirmwareTick (s : State) : (stateAfter s (execFirmwareTick s)).still = s.still := by
  simp [execFirmwareTick]

@[simp] theorem still_execClaim (pair : Nat) (s : State) : (stateAfter s (execClaim pair s)).still = s.still := by
  unfold execClaim
  dsimp only
  (repeat' split) <;> simp

@[simp] theorem still_execPairComplete (pair : Nat) (value : Word32) (s : State) :
    (stateAfter s (execPairComplete pair value s)).still = s.still := by
  simp [execPairComplete]

@[simp] theorem still_eventRingCreateApply (b : Barge) (s : State) : (eventRingCreateApply b s).still = s.still := by
  unfold eventRingCreateApply
  dsimp only
  (repeat' split) <;> simp

@[simp] theorem still_execEventRingCreate (b : Barge) (s : State) : (stateAfter s (execEventRingCreate b s)).still = s.still := by
  simp [execEventRingCreate]

@[simp] theorem still_unbindConsumer (q : Nat) (s : State) : (unbindConsumer q s).still = s.still := by simp [unbindConsumer]

@[simp] theorem still_eventRingDeleteApply (b : Barge) (s : State) : (eventRingDeleteApply b s).still = s.still := by
  simp [eventRingDeleteApply]

@[simp] theorem still_execEventRingDelete (b : Barge) (s : State) : (stateAfter s (execEventRingDelete b s)).still = s.still := by
  simp [execEventRingDelete]

@[simp] theorem still_eventRouteApply (b : Barge) (s : State) : (eventRouteApply b s).still = s.still := by simp [eventRouteApply]

@[simp] theorem still_execEventRoute (b : Barge) (s : State) : (stateAfter s (execEventRoute b s)).still = s.still := by
  simp [execEventRoute]

@[simp] theorem still_moderationSetApply (b : Barge) (s : State) : (moderationSetApply b s).still = s.still := by
  simp [moderationSetApply]

@[simp] theorem still_execModerationSet (b : Barge) (s : State) : (stateAfter s (execModerationSet b s)).still = s.still := by
  simp [execModerationSet]

@[simp] theorem still_eventMaskApply (op : Nat) (b : Barge) (s : State) : (eventMaskApply op b s).still = s.still := by
  simp [eventMaskApply]

@[simp] theorem still_execEventEnable (b : Barge) (s : State) : (stateAfter s (execEventEnable b s)).still = s.still := by
  simp [execEventEnable]

@[simp] theorem still_execEventDisable (b : Barge) (s : State) : (stateAfter s (execEventDisable b s)).still = s.still := by
  simp [execEventDisable]

@[simp] theorem still_execEventMaskSources (b : Barge) (s : State) :
    (stateAfter s (execEventMaskSources b s)).still = s.still := by
  simp [execEventMaskSources]

@[simp] theorem still_execEventUnmask (b : Barge) (s : State) : (stateAfter s (execEventUnmask b s)).still = s.still := by
  simp [execEventUnmask]

/-! ### The operations of Sys2Proof/Machine/HostLink.lean -/

@[simp] theorem still_ringError (n code : Nat) (s : State) : (ringError n code s).still = s.still := by simp [ringError]

@[simp] theorem still_execSqTailDb (n value : Nat) (s : State) : (stateAfter s (execSqTailDb n value s)).still = s.still := by
  simp [execSqTailDb]

@[simp] theorem still_execCqHeadDb (n value : Nat) (s : State) : (stateAfter s (execCqHeadDb n value s)).still = s.still := by
  simp [execCqHeadDb]

@[simp] theorem still_countRound (n : Nat) (s : State) : (countRound n s).still = s.still := by simp [countRound]

@[simp] theorem still_fetchBarge (n : Nat) (s : State) : (fetchBarge n s).still = s.still := by simp [fetchBarge]

@[simp] theorem still_execBargeFetch (answer : FetchAnswer) (s : State) :
    (stateAfter s (execBargeFetch answer s)).still = s.still := by
  unfold execBargeFetch
  (repeat' split) <;> simp

@[simp] theorem still_startBarge (b : Barge) (advance : Bool) (s : State) : (startBarge b advance s).still = s.still := by
  simp [startBarge]

@[simp] theorem still_takePayload (b : Barge) (s : State) : (takePayload b s).2.still = s.still := by
  unfold takePayload
  dsimp only
  (repeat' split) <;> simp

@[simp] theorem still_refuseStart (b : Barge) (advance : Bool) (r : Reply) (s : State) :
    (refuseStart b advance r s).still = s.still := by
  simp [refuseStart]

@[simp] theorem still_bargeStart (n : Nat) (s : State) : (bargeStart n s).still = s.still := by
  unfold bargeStart
  dsimp only
  (repeat' split) <;> simp

@[simp] theorem still_execBargeStart (n : Nat) (s : State) : (stateAfter s (execBargeStart n s)).still = s.still := by
  simp [execBargeStart]

@[simp] theorem still_execSnap (value : Word32) (s : State) : (stateAfter s (execSnap value s)).still = s.still := by
  simp [execSnap]

@[simp] theorem still_execFenceSignal (f : Nat) (wide : Bool) (value : Word64) (s : State) :
    (stateAfter s (execFenceSignal f wide value s)).still = s.still := by
  simp [execFenceSignal]

@[simp] theorem still_createPayloadQueue (n : Nat) (s : State) : (createPayloadQueue n s).still = s.still := by
  simp [createPayloadQueue]

@[simp] theorem still_execAdminEnable (value : Word32) (s : State) :
    (stateAfter s (execAdminEnable value s)).still = s.still := by
  simp [execAdminEnable]

@[simp] theorem still_execAdminReset (value : Word32) (s : State) : (stateAfter s (execAdminReset value s)).still = s.still := by
  simp [execAdminReset]

@[simp] theorem still_execBar2Base (value : Word32) (s : State) : (stateAfter s (execBar2Base value s)).still = s.still := by
  unfold execBar2Base
  dsimp only
  (repeat' split) <;> simp

@[simp] theorem still_bar2ReadFuel (n a k : Nat) (s : State) : (bar2ReadFuel n a k s).2.still = s.still := by
  induction n generalizing a k s with
  | zero => rfl
  | succ n ih =>
    unfold bar2ReadFuel
    dsimp only
    (repeat' split) <;> simp [ih]

@[simp] theorem still_bar2Read (off n : Nat) (s : State) : (bar2Read off n s).still = s.still := by
  unfold bar2Read
  extract_lets k
  have hr := still_bar2ReadFuel (k / 128 + 2) (s.host.bar2Base * 2 ^ 21 + off) k s
  generalize bar2ReadFuel (k / 128 + 2) (s.host.bar2Base * 2 ^ 21 + off) k s = r at hr
  simpa using hr

@[simp] theorem still_execBar2Read (off n : Nat) (s : State) : (stateAfter s (execBar2Read off n s)).still = s.still := by
  simp [execBar2Read]

@[simp] theorem still_bar2WriteFuel (n a : Nat) (l : List Byte) (s : State) : (bar2WriteFuel n a l s).still = s.still := by
  induction n generalizing a l s with
  | zero => rfl
  | succ n ih => simp [bar2WriteFuel, ih]

@[simp] theorem still_bar2Runs (n a : Nat) (l : List (Option Byte)) (s : State) : (bar2Runs n a l s).still = s.still := by
  induction n generalizing a l s with
  | zero => rfl
  | succ n ih =>
    match l with
    | [] => rfl
    | none :: l => simp [bar2Runs, ih]
    | some b :: l => simp [bar2Runs, ih]

@[simp] theorem still_execBar2Write (off : Nat) (bytes : List (Option Byte)) (s : State) :
    (stateAfter s (execBar2Write off bytes s)).still = s.still := by
  simp [execBar2Write]

theorem vectors_length {s : State} (hw : s.still.frame.banks = wholeBanks) : s.events.vectors.length = 64 := by
  simp only [still_def, wholeBanks, List.cons.injEq] at hw
  obtain ⟨-, -, -, -, -, -, -, -, -, -, -, hv, -⟩ := hw
  exact hv

theorem evRings_length {s : State} (hw : s.still.frame.banks = wholeBanks) : s.events.rings.length = 32 := by
  simp only [still_def, wholeBanks, List.cons.injEq] at hw
  obtain ⟨-, -, -, -, -, -, -, -, -, -, -, -, hr, -⟩ := hw
  exact hr

/-- The reset of the function makes the vectors and the event rings anew (R50): as many as a whole bank has. -/
theorem still_resetEvents (s : State) (hw : s.still.frame.banks = wholeBanks) : (s.mapEvents fun e => { e with
      rings := List.replicate 32 {}, vectors := List.replicate 64 {}, host := e.host.map fun x => { x with active := false } }).still =
      s.still := by
  simp [still_def, vectors_length hw, evRings_length hw]

@[simp] theorem still_functionReset (s : State) (hw : s.still.frame.banks = wholeBanks) : (functionReset s).still = s.still := by
  unfold functionReset
  extract_lets s1 s2 s3 s4
  have h1 : s1.still = s.still := still_mapHost _ _ fun x => by rw [List.length_map, List.length_zipIdx]
  have h2 : s2.still = s1.still := still_foldl (fun t n => by rw [still_ite, still_deleteQueue, ite_self]) _ _
  have h3 : s3.still = s2.still := still_foldl (fun t k => by rw [still_ite, still_unbindConsumer, ite_self]) _ _
  have hw3 : s3.still.frame.banks = wholeBanks := by rw [h3, h2, h1, hw]
  have h4 : s4.still = s3.still := still_resetEvents s3 hw3
  rw [still_raiseInternal, h4, h3, h2, h1]

@[simp] theorem still_execFunctionLevelReset (s : State) (hw : s.still.frame.banks = wholeBanks) :
    (stateAfter s (execFunctionLevelReset s)).still = s.still := by
  simp [execFunctionLevelReset, hw]

@[simp] theorem still_execFundamentalReset (s : State) (hw : s.still.frame.banks = wholeBanks) :
    (stateAfter s (execFundamentalReset s)).still = s.still := by
  simp [execFundamentalReset, hw]

@[simp] theorem still_execD3hotEntry (s : State) : (stateAfter s (execD3hotEntry s)).still = s.still := by simp [execD3hotEntry]

@[simp] theorem still_execD3coldEntry (s : State) : (stateAfter s (execD3coldEntry s)).still = s.still := by
  simp [execD3coldEntry]

@[simp] theorem still_execD0Return (s : State) : (stateAfter s (execD0Return s)).still = s.still := by
  unfold execD0Return
  split <;> simp

@[simp] theorem still_execPmeResend (s : State) : (stateAfter s (execPmeResend s)).still = s.still := by simp [execPmeResend]

@[simp] theorem still_execWakeOutRelease (s : State) : (stateAfter s (execWakeOutRelease s)).still = s.still := by
  simp [execWakeOutRelease]

@[simp] theorem still_nopApply (b : Barge) (s : State) : (nopApply b s).still = s.still := by simp [nopApply]

@[simp] theorem still_execNop (b : Barge) (s : State) : (stateAfter s (execNop b s)).still = s.still := by simp [execNop]

@[simp] theorem still_ringCreateApply (b : Barge) (s : State) : (ringCreateApply b s).still = s.still := by simp [ringCreateApply]

@[simp] theorem still_execRingCreate (b : Barge) (s : State) : (stateAfter s (execRingCreate b s)).still = s.still := by
  simp [execRingCreate]

@[simp] theorem still_ringDeleteApply (b : Barge) (s : State) : (ringDeleteApply b s).still = s.still := by simp [ringDeleteApply]

@[simp] theorem still_execRingDelete (b : Barge) (s : State) : (stateAfter s (execRingDelete b s)).still = s.still := by
  simp [execRingDelete]

@[simp] theorem still_fenceCreateApply (b : Barge) (s : State) : (fenceCreateApply b s).still = s.still := by
  simp [fenceCreateApply]

@[simp] theorem still_execFenceCreate (b : Barge) (s : State) : (stateAfter s (execFenceCreate b s)).still = s.still := by
  simp [execFenceCreate]

@[simp] theorem still_destroyWait (f n : Nat) (s : State) : (destroyWait f n s).still = s.still := by
  unfold destroyWait
  split <;> simp

@[simp] theorem still_fenceDestroyApply (b : Barge) (s : State) : (fenceDestroyApply b s).still = s.still := by
  simp [fenceDestroyApply]

@[simp] theorem still_execFenceDestroy (b : Barge) (s : State) : (stateAfter s (execFenceDestroy b s)).still = s.still := by
  simp [execFenceDestroy]

/-! ### The operations of Sys2Proof/Machine/TwoDOps.lean -/

@[simp] theorem still_blitRead (e : Nat) (l : List Nat) (s : State) : (blitRead e l s).2.2.still = s.still := by
  induction l generalizing s with
  | nil => rfl
  | cons w l ih =>
    unfold blitRead
    dsimp only
    split <;> simp [ih]

/-! ### The operations of Sys2Proof/Machine/TwoD.lean -/

@[simp] theorem still_queueJob (batch : Bool) (ops : List TwoDOp) (b : Barge) (s : State) :
    (queueJob batch ops b s).still = s.still := by
  simp [queueJob]

@[simp] theorem still_bltCopyApply (b : Barge) (s : State) : (bltCopyApply b s).still = s.still := by simp [bltCopyApply]

@[simp] theorem still_execBltCopy (b : Barge) (s : State) : (stateAfter s (execBltCopy b s)).still = s.still := by
  simp [execBltCopy]

@[simp] theorem still_bltFillApply (b : Barge) (s : State) : (bltFillApply b s).still = s.still := by simp [bltFillApply]

@[simp] theorem still_execBltFill (b : Barge) (s : State) : (stateAfter s (execBltFill b s)).still = s.still := by
  simp [execBltFill]

@[simp] theorem still_bltRop3Apply (b : Barge) (s : State) : (bltRop3Apply b s).still = s.still := by simp [bltRop3Apply]

@[simp] theorem still_execBltRop3 (b : Barge) (s : State) : (stateAfter s (execBltRop3 b s)).still = s.still := by
  simp [execBltRop3]

@[simp] theorem still_bltMonoExpandApply (b : Barge) (s : State) : (bltMonoExpandApply b s).still = s.still := by
  simp [bltMonoExpandApply]

@[simp] theorem still_execBltMonoExpand (b : Barge) (s : State) : (stateAfter s (execBltMonoExpand b s)).still = s.still := by
  simp [execBltMonoExpand]

@[simp] theorem still_bltAlphaApply (b : Barge) (s : State) : (bltAlphaApply b s).still = s.still := by simp [bltAlphaApply]

@[simp] theorem still_execBltAlpha (b : Barge) (s : State) : (stateAfter s (execBltAlpha b s)).still = s.still := by
  simp [execBltAlpha]

@[simp] theorem still_bltConvertApply (b : Barge) (s : State) : (bltConvertApply b s).still = s.still := by simp [bltConvertApply]

@[simp] theorem still_execBltConvert (b : Barge) (s : State) : (stateAfter s (execBltConvert b s)).still = s.still := by
  simp [execBltConvert]

@[simp] theorem still_bltBatchApply (b : Barge) (s : State) : (bltBatchApply b s).still = s.still := by
  unfold bltBatchApply
  dsimp only
  (repeat' split) <;> simp

@[simp] theorem still_execBltBatch (b : Barge) (s : State) : (stateAfter s (execBltBatch b s)).still = s.still := by
  simp [execBltBatch]

@[simp] theorem still_accrueEngine (e : Nat) (s : State) : (accrueEngine e s).still = s.still := by simp [accrueEngine]

@[simp] theorem still_twoDReserveRemoveApply (b : Barge) (s : State) : (twoDReserveRemoveApply b s).still = s.still := by
  simp [twoDReserveRemoveApply]

@[simp] theorem still_twoDReserveApply (b : Barge) (s : State) : (twoDReserveApply b s).still = s.still := by
  unfold twoDReserveApply
  dsimp only
  (repeat' split) <;> simp

@[simp] theorem still_execTwoDReserve (b : Barge) (s : State) : (stateAfter s (execTwoDReserve b s)).still = s.still := by
  simp [execTwoDReserve]

@[simp] theorem still_execTwoDReserveRemove (b : Barge) (s : State) :
    (stateAfter s (execTwoDReserveRemove b s)).still = s.still := by
  simp [execTwoDReserveRemove]

@[simp] theorem still_damageLines (u : Surface) (y0 y1 : Nat) (s : State) : (damageLines u y0 y1 s).still = s.still := by
  simp [damageLines]

@[simp] theorem still_raiseProgress (h p : Nat) (s : State) : (raiseProgress h p s).still = s.still := by
  unfold raiseProgress
  split <;> simp

@[simp] theorem still_raiseWatermark (e : Nat) (up : Bool) (lines h : Nat) (s : State) :
    (raiseWatermark e up lines h s).still = s.still := by
  simp [raiseWatermark]

@[simp] theorem still_passLines (e : Nat) (o : TwoDOp) (up : Bool) (old new : Nat) (s : State) :
    (passLines e o up old new s).still = s.still := by
  simp [passLines]

@[simp] theorem still_endOperation (e : Nat) (j : TwoDJob) (s : State) : (endOperation e j s).still = s.still := by
  unfold endOperation
  dsimp only
  (repeat' split) <;> simp

@[simp] theorem still_beginOperation (e : Nat) (j : TwoDJob) (o : TwoDOp) (s : State) :
    (beginOperation e j o s).2.still = s.still := by
  simp [beginOperation]

@[simp] theorem still_beginJob (e : Nat) (j : TwoDJob) (s : State) : (beginJob e j s).still = s.still := by
  unfold beginJob
  split
  · rfl
  · rw [still_ite, ite_eq_left_iff]
    intro _
    extract_lets first s1
    have h1 : s1.still = s.still := by
      unfold s1
      split <;> simp
    split
    next hb =>
      extract_lets s2 s3
      have h3 : s3.still = s.still := by simp [s3, s2, still_of_eq_pair hb (still_beginOperation ..), h1]
      rw [still_ite]
      split
      · split <;> simp [h3]
      · exact h3

@[simp] theorem still_execTwoDJobBegin (e : Nat) (s : State) : (stateAfter s (execTwoDJobBegin e s)).still = s.still := by
  unfold execTwoDJobBegin
  rw [still_stateAfter_next, still_ite, ite_eq_left_iff]
  intro _
  split <;> simp

@[simp] theorem still_execTwoDBurst (e : Nat) (others : Bool) (s : State) :
    (stateAfter s (execTwoDBurst e others s)).still = s.still := by
  unfold execTwoDBurst
  dsimp only
  (repeat' split) <;> simp

@[simp] theorem still_execTwoDLineLanded (e : Nat) (s : State) : (stateAfter s (execTwoDLineLanded e s)).still = s.still := by
  unfold execTwoDLineLanded
  (repeat' split) <;> simp

@[simp] theorem still_settleRemovals (e : Nat) (s : State) : (settleRemovals e s).still = s.still := by simp [settleRemovals]

@[simp] theorem still_execTwoDJobComplete (e : Nat) (s : State) : (stateAfter s (execTwoDJobComplete e s)).still = s.still := by
  unfold execTwoDJobComplete
  split <;> simp

/-! ### The operations of Sys2Proof/Machine/CheckValue.lean -/

@[simp] theorem still_saveContext (b : Barge) (s : State) : (saveContext b s).still = s.still := by simp [saveContext]

@[simp] theorem still_feedChannel (c n : Nat) (s : State) : (feedChannel c n s).still = s.still := by
  induction n generalizing s with
  | zero => rfl
  | succ n ih =>
    unfold feedChannel
    dsimp only
    split <;> simp [ih]

@[simp] theorem still_emptyCvQueue (c : Nat) (s : State) : (emptyCvQueue c s).still = s.still := by simp [emptyCvQueue]

@[simp] theorem still_leaveOrder (c : Nat) (s : State) : (leaveOrder c s).still = s.still := by simp [leaveOrder]

@[simp] theorem still_endChain (c : Nat) (r : Reply) (s : State) : (endChain c r s).still = s.still := by
  unfold endChain
  split <;> simp

@[simp] theorem still_releaseChannel (c : Nat) (s : State) : (releaseChannel c s).still = s.still := by simp [releaseChannel]

@[simp] theorem still_actHead (c : Nat) (b : Barge) (s : State) : (actHead c b s).still = s.still := by
  unfold actHead
  split <;> simp

@[simp] theorem still_runOrder (c n : Nat) (s : State) : (runOrder c n s).still = s.still := by
  induction n generalizing s with
  | zero => rfl
  | succ n ih =>
    unfold runOrder
    dsimp only
    split <;> simp [ih]

@[simp] theorem still_joinChannel (b : Barge) (s : State) : (joinChannel b s).still = s.still := by simp [joinChannel]

@[simp] theorem still_cvConfigApply (b : Barge) (s : State) : (cvConfigApply b s).still = s.still := by simp [cvConfigApply]

@[simp] theorem still_execCvConfig (b : Barge) (s : State) : (stateAfter s (execCvConfig b s)).still = s.still := by
  simp [execCvConfig]

@[simp] theorem still_cvDmaApply (b : Barge) (s : State) : (cvDmaApply b s).still = s.still := by simp [cvDmaApply]

@[simp] theorem still_execCvDma (b : Barge) (s : State) : (stateAfter s (execCvDma b s)).still = s.still := by simp [execCvDma]

@[simp] theorem still_cvContextSaveApply (b : Barge) (s : State) : (cvContextSaveApply b s).still = s.still := by
  simp [cvContextSaveApply]

@[simp] theorem still_execCvContextSave (b : Barge) (s : State) : (stateAfter s (execCvContextSave b s)).still = s.still := by
  simp [execCvContextSave]

@[simp] theorem still_cvContextLoadApply (b : Barge) (s : State) : (cvContextLoadApply b s).still = s.still := by
  simp [cvContextLoadApply]

@[simp] theorem still_execCvContextLoad (b : Barge) (s : State) : (stateAfter s (execCvContextLoad b s)).still = s.still := by
  simp [execCvContextLoad]

@[simp] theorem still_cvReserveRemoveApply (b : Barge) (s : State) : (cvReserveRemoveApply b s).still = s.still := by
  simp [cvReserveRemoveApply]

@[simp] theorem still_cvReserveApply (b : Barge) (s : State) : (cvReserveApply b s).still = s.still := by
  unfold cvReserveApply
  dsimp only
  (repeat' split) <;> simp

@[simp] theorem still_execCvReserve (b : Barge) (s : State) : (stateAfter s (execCvReserve b s)).still = s.still := by
  simp [execCvReserve]

@[simp] theorem still_execCvReserveRemove (b : Barge) (s : State) : (stateAfter s (execCvReserveRemove b s)).still = s.still := by
  simp [execCvReserveRemove]

@[simp] theorem still_frameSignSetApply (b : Barge) (s : State) : (frameSignSetApply b s).still = s.still := by
  simp [frameSignSetApply]

@[simp] theorem still_execFrameSignSet (b : Barge) (s : State) : (stateAfter s (execFrameSignSet b s)).still = s.still := by
  simp [execFrameSignSet]

@[simp] theorem still_compareBlock (c : Nat) (x : Channel) (d : Descriptor) (v : Nat) (data : List Byte) (unreadable : Bool) (s : State) :
    (compareBlock c x d v data unreadable s).2.still = s.still := by
  unfold compareBlock
  dsimp only
  (repeat' split) <;> simp

@[simp] theorem still_spendCredit (c charge hashed : Nat) (s : State) : (spendCredit c charge hashed s).still = s.still := by
  simp [spendCredit]

@[simp] theorem still_noteMismatch (c : Nat) (ch : CvChain) (d : Descriptor) (v : Nat) (k : Compared) (s : State) :
    (noteMismatch c ch d v k s).still = s.still := by
  simp [noteMismatch]

@[simp] theorem still_finishBlock (c : Nat) (ch : CvChain) (d : Descriptor) (data : List Byte) (unreadable : Bool) (s : State) :
    (finishBlock c ch d data unreadable s).2.still = s.still := by
  simp [finishBlock]

@[simp] theorem still_runDescriptor (c : Nat) (d : Descriptor) (s : State) : (runDescriptor c d s).still = s.still := by
  unfold runDescriptor
  (repeat' split) <;> simp

@[simp] theorem still_takeDescriptor (c : Nat) (s : State) : (takeDescriptor c s).2.still = s.still := by
  unfold takeDescriptor
  dsimp only
  (repeat' split) <;> simp

@[simp] theorem still_execCvDescriptor (c : Nat) (s : State) : (stateAfter s (execCvDescriptor c s)).still = s.still := by
  unfold execCvDescriptor
  rw [still_done, still_ite, ite_eq_left_iff]
  intro _
  split
  · rfl
  · extract_lets t
    have h1 : t.still = s.still := by simp [t]
    rw [still_ite]
    split
    · exact h1
    · split
      next hd => simp [still_of_eq_pair hd (still_takeDescriptor ..), h1]
      next hd => simp [still_of_eq_pair hd (still_takeDescriptor ..), h1]

@[simp] theorem still_clearChannel (c : Nat) (r : Reply) (s : State) : (clearChannel c r s).still = s.still := by
  simp [clearChannel]

@[simp] theorem still_failChannel (c : Nat) (s : State) : (failChannel c s).still = s.still := by simp [failChannel]

@[simp] theorem still_freezeStates (l : Nat) (r : FrameRecord) (s : State) : (freezeStates l r s).still = s.still := by
  simp [freezeStates]

@[simp] theorem still_deliverSignature (l : Nat) (r : FrameRecord) (bytes : List Byte) (s : State) :
    (deliverSignature l r bytes s).still = s.still := by
  unfold deliverSignature
  extract_lets x drop a s0 s1 s2
  have hdrop (t : State) : (drop t).still = t.still := still_mapSign ..
  have h1 : s1.still = s.still := by simp [s1, s0, hdrop]
  have h2 : s2.still = s1.still := by
    unfold s2
    rw [still_ite, ite_eq_left_iff]
    intro _
    rw [still_ite]
    split
    · exact hdrop _
    · split
      next ht => exact still_of_putItem ht
      next => exact hdrop _
  split
  · simp [h2, h1]
  · exact h2.trans h1

@[simp] theorem still_signRecord (c l : Nat) (r : FrameRecord) (s : State) : (signRecord c l r s).still = s.still := by
  simp [signRecord]

@[simp] theorem still_execSignatureRecord (l : Nat) (s : State) : (stateAfter s (execSignatureRecord l s)).still = s.still := by
  unfold execSignatureRecord
  dsimp only
  (repeat' split) <;> simp

/-! ### The operations of Sys2Proof/Machine/Power.lean -/

@[simp] theorem still_enterHold (cause : Nat) (set : Power → Power) (s : State) : (enterHold cause set s).still = s.still := by
  simp [enterHold]

@[simp] theorem still_leaveHold (clear : Power → Power) (s : State) : (leaveHold clear s).still = s.still := by simp [leaveHold]

@[simp] theorem still_supplyEvent (kind extreme durationUs : Nat) (s : State) :
    (supplyEvent kind extreme durationUs s).still = s.still := by
  simp [supplyEvent]

@[simp] theorem still_execVinLow (mv : Nat) (s : State) : (stateAfter s (execVinLow mv s)).still = s.still := by simp [execVinLow]

@[simp] theorem still_execVinHigh (mv : Nat) (s : State) : (stateAfter s (execVinHigh mv s)).still = s.still := by
  simp [execVinHigh]

@[simp] theorem still_execVinRestored (mv durationUs storeMj : Nat) (s : State) :
    (stateAfter s (execVinRestored mv durationUs storeMj s)).still = s.still := by
  simp [execVinRestored]

@[simp] theorem still_execVinHighEnd (mv : Nat) (s : State) : (stateAfter s (execVinHighEnd mv s)).still = s.still := by
  simp [execVinHighEnd]

@[simp] theorem still_execHoldUpStoreCharged (mj : Nat) (s : State) :
    (stateAfter s (execHoldUpStoreCharged mj s)).still = s.still := by
  simp [execHoldUpStoreCharged]

@[simp] theorem still_execDomainIdleTimeout (domain : Nat) (s : State) :
    (stateAfter s (execDomainIdleTimeout domain s)).still = s.still := by
  simp [execDomainIdleTimeout]

@[simp] theorem still_thermalEvent (kind : Nat) (t : Int) (s : State) : (thermalEvent kind t s).still = s.still := by
  simp [thermalEvent]

@[simp] theorem still_sensorFaulty (t : Int) (s : State) : (sensorFaulty t s).still = s.still := by simp [sensorFaulty]

@[simp] theorem still_setBaseplate (filtered : Int) (s : State) : (setBaseplate filtered s).still = s.still := by
  simp [setBaseplate]

@[simp] theorem still_thermalCheck (oldTj : Int) (s : State) : (thermalCheck oldTj s).still = s.still := by simp [thermalCheck]

@[simp] theorem still_execThermalSample (base filtered : Int) (junctions : List Int) (s : State) :
    (stateAfter s (execThermalSample base filtered junctions s)).still = s.still := by
  simp [execThermalSample]

@[simp] theorem still_execThermalHoldEnd (s : State) : (stateAfter s (execThermalHoldEnd s)).still = s.still := by
  unfold execThermalHoldEnd
  split <;> simp

@[simp] theorem still_execSprintBegin (s : State) : (stateAfter s (execSprintBegin s)).still = s.still := by
  simp [execSprintBegin]

@[simp] theorem still_execSprintEnd (cause : Nat) (s : State) : (stateAfter s (execSprintEnd cause s)).still = s.still := by
  unfold execSprintEnd
  (repeat' split) <;> simp

@[simp] theorem still_scrubWord (w : Nat) (s : State) : (scrubWord w s).still = s.still := by
  unfold scrubWord
  dsimp only
  (repeat' split) <;> simp

@[simp] theorem still_scrubRange (upto : Nat) (s : State) : (scrubRange upto s).still = s.still := by simp [scrubRange]

@[simp] theorem still_execScrubPassStart (s : State) : (stateAfter s (execScrubPassStart s)).still = s.still := by
  simp [execScrubPassStart]

@[simp] theorem still_measurePower (w : SchedWork) (s : State) : (measurePower w s).still = s.still := by simp [measurePower]

@[simp] theorem still_powerTick (w : SchedWork) (s : State) : (powerTick w s).still = s.still := by simp [powerTick]

@[simp] theorem still_powerQueryApply (b : Barge) (s : State) : (powerQueryApply b s).still = s.still := by simp [powerQueryApply]

@[simp] theorem still_execPowerQuery (b : Barge) (s : State) : (stateAfter s (execPowerQuery b s)).still = s.still := by
  simp [execPowerQuery]

@[simp] theorem still_baseplateDeclareApply (b : Barge) (s : State) : (baseplateDeclareApply b s).still = s.still := by
  simp [baseplateDeclareApply]

@[simp] theorem still_execBaseplateDeclare (b : Barge) (s : State) :
    (stateAfter s (execBaseplateDeclare b s)).still = s.still := by
  simp [execBaseplateDeclare]

@[simp] theorem still_sprintPolicyApply (b : Barge) (s : State) : (sprintPolicyApply b s).still = s.still := by
  simp [sprintPolicyApply]

@[simp] theorem still_execSprintPolicy (b : Barge) (s : State) : (stateAfter s (execSprintPolicy b s)).still = s.still := by
  simp [execSprintPolicy]

@[simp] theorem still_schedWeightsApply (b : Barge) (s : State) : (schedWeightsApply b s).still = s.still := by
  simp [schedWeightsApply]

@[simp] theorem still_execSchedWeights (b : Barge) (s : State) : (stateAfter s (execSchedWeights b s)).still = s.still := by
  simp [execSchedWeights]

/-! ### The operations of Sys2Proof/Machine/BootOps.lean -/

@[simp] theorem still_abandonFlash (s : State) : (abandonFlash s).still = s.still := still_eq rfl rfl rfl rfl

/-- A loss of power: the banks that start afresh are as long as the ones of a whole state. -/
@[simp] theorem frame_carryOver (s : State) (hw : s.still.frame.banks = wholeBanks) : (carryOver s).still.frame = s.still.frame := by
  simp only [still_def, wholeBanks, List.cons.injEq] at hw
  simp only [still_def, carryOver, State.reset, hw, List.length_map, List.length_range, List.length_replicate]
  simp

@[simp] theorem frame_keepOn (s : State) (hw : s.still.frame.banks = wholeBanks) : (keepOn s).still.frame = s.still.frame := by
  have hc := frame_carryOver s hw
  simp only [still_def, wholeBanks, List.cons.injEq, Frame.mk.injEq] at hw hc
  simp [still_def, keepOn, hw, hc]

@[simp] theorem frame_powerOff (s : State) (hw : s.still.frame.banks = wholeBanks) :
    (powerOff s).still.frame = s.still.frame := by
  simp [powerOff, hw]

@[simp] theorem still_bootLane (k : Nat) (s : State) : (bootLane k s).still = s.still := by
  refine still_mapLanes _ _ fun l => ?_
  dsimp only
  (repeat' split) <;> simp

@[simp] theorem frame_bootBank (k : Nat) (s : State) : (bootBank k s).still.frame = s.still.frame := by
  unfold bootBank
  dsimp only
  (repeat' split) <;> simp

@[simp] theorem still_bootPath (k : Nat) (s : State) : (bootPath k s).still = s.still := by simp [bootPath]

@[simp] theorem frame_bootOut (kind index : Nat) (s : State) : (bootOut kind index s).still.frame = s.still.frame := by
  unfold bootOut
  split <;> simp

@[simp] theorem still_bootQueues (s : State) : (bootQueues s).still = s.still := by simp [bootQueues]

@[simp] theorem still_setBootFlag (n : Nat) (s : State) : (setBootFlag n s).still = s.still := by simp [setBootFlag]

@[simp] theorem still_selectPatch (s : State) : (selectPatch s).still = s.still := by
  unfold selectPatch
  split <;> simp

@[simp] theorem still_selectConfig (s : State) : (selectConfig s).still = s.still := by
  unfold selectConfig
  split <;> simp

@[simp] theorem frame_startBoot (wake retries bootTime : Nat) (s : State) :
    (startBoot wake retries bootTime s).still.frame = s.still.frame := by
  simp [startBoot]

@[simp] theorem frame_restartBoot (s : State) (hw : s.still.frame.banks = wholeBanks) :
    (restartBoot s).still.frame = s.still.frame := by
  simp [restartBoot, hw]

/-! ### The operations of Sys2Proof/Machine/Cameras.lean -/

@[simp] theorem still_stopNow (i : Nat) (s : State) : (stopNow i s).still = s.still := by simp [stopNow]

@[simp] theorem still_stampTows (i t seq : Nat) (s : State) : (stampTows i t seq s).still = s.still := by simp [stampTows]

@[simp] theorem still_takeSlot (i seq stamp number : Nat) (s : State) : (takeSlot i seq stamp number s).still = s.still := by
  unfold takeSlot
  (repeat' split) <;> simp

@[simp] theorem still_openFrame (i number : Nat) (s : State) : (openFrame i number s).still = s.still := by simp [openFrame]

@[simp] theorem still_frameStartPacket (i number : Nat) (s : State) : (frameStartPacket i number s).still = s.still := by
  simp [frameStartPacket]

@[simp] theorem still_execCameraFs (i vc number : Nat) (s : State) :
    (stateAfter s (execCameraFs i vc number s)).still = s.still := by
  simp [execCameraFs]

@[simp] theorem still_stageLine (i : Nat) (x : CamPacket) (s : State) : (stageLine i x s).still = s.still := by
  unfold stageLine
  dsimp only
  repeat' split
  · simp
  · simp
  · simp
  next ht => simp [still_of_putItem ht]
  · simp

@[simp] theorem still_linePacket (i : Nat) (x : CamPacket) (s : State) : (linePacket i x s).still = s.still := by
  simp [linePacket]

@[simp] theorem still_execCameraLinePacket (i : Nat) (x : CamPacket) (s : State) :
    (stateAfter s (execCameraLinePacket i x s)).still = s.still := by
  simp [execCameraLinePacket]

@[simp] theorem still_execCameraLineLanded (i : Nat) (s : State) : (stateAfter s (execCameraLineLanded i s)).still = s.still := by
  simp [execCameraLineLanded]

@[simp] theorem still_execCameraFe (i vc _number : Nat) (s : State) :
    (stateAfter s (execCameraFe i vc _number s)).still = s.still := by
  simp [execCameraFe]

@[simp] theorem still_keepEmbedded (i : Nat) (bytes : List Byte) (s : State) : (keepEmbedded i bytes s).still = s.still := by
  unfold keepEmbedded
  dsimp only
  (repeat' split) <;> simp

@[simp] theorem still_execCameraEmbeddedData (i vc : Nat) (bytes : List Byte) (crcOk : Bool) (s : State) :
    (stateAfter s (execCameraEmbeddedData i vc bytes crcOk s)).still = s.still := by
  simp [execCameraEmbeddedData]

@[simp] theorem still_execCameraPacketDiscard (i cause : Nat) (s : State) :
    (stateAfter s (execCameraPacketDiscard i cause s)).still = s.still := by
  unfold execCameraPacketDiscard
  rw [still_done, still_ite]
  split
  · rfl
  · split <;> simp

@[simp] theorem still_execCameraLinkError (i : Nat) (s : State) : (stateAfter s (execCameraLinkError i s)).still = s.still := by
  simp [execCameraLinkError]

@[simp] theorem still_execFrameTimeout (i : Nat) (s : State) : (stateAfter s (execFrameTimeout i s)).still = s.still := by
  simp [execFrameTimeout]

@[simp] theorem still_execFsMissing (i : Nat) (s : State) : (stateAfter s (execFsMissing i s)).still = s.still := by
  unfold execFsMissing
  dsimp only
  (repeat' split) <;> simp

@[simp] theorem still_execCameraStartTimeout (i : Nat) (s : State) :
    (stateAfter s (execCameraStartTimeout i s)).still = s.still := by
  unfold execCameraStartTimeout
  split <;> simp

@[simp] theorem still_execCameraStopTimeout (i : Nat) (s : State) :
    (stateAfter s (execCameraStopTimeout i s)).still = s.still := by
  simp [execCameraStopTimeout]

@[simp] theorem still_execCameraPhyLinkUp (i : Nat) (s : State) : (stateAfter s (execCameraPhyLinkUp i s)).still = s.still := by
  simp [execCameraPhyLinkUp]

@[simp] theorem still_execCameraPhyLinkLost (i : Nat) (s : State) :
    (stateAfter s (execCameraPhyLinkLost i s)).still = s.still := by
  simp [execCameraPhyLinkLost]

@[simp] theorem still_loseBacklog (i : Nat) (s : State) : (loseBacklog i s).still = s.still := by
  unfold loseBacklog
  split <;> simp

@[simp] theorem still_undeclared (i : Nat) (s : State) : (undeclared i s).still = s.still := by
  unfold undeclared
  split <;> simp

@[simp] theorem still_declared (i : Nat) (d : CamDecl) (s : State) : (declared i d s).1.still = s.still := by
  unfold declared
  dsimp only
  split
  next ht => simp [still_of_placeRing ht]
  next => simp

@[simp] theorem still_cameraDeclareApply (b : Barge) (s : State) : (cameraDeclareApply b s).still = s.still := by
  unfold cameraDeclareApply
  dsimp only
  (repeat' split) <;> simp

@[simp] theorem still_execCameraDeclare (b : Barge) (s : State) : (stateAfter s (execCameraDeclare b s)).still = s.still := by
  simp [execCameraDeclare]

@[simp] theorem still_cameraRemoveApply (b : Barge) (s : State) : (cameraRemoveApply b s).still = s.still := by
  simp [cameraRemoveApply]

@[simp] theorem still_execCameraRemove (b : Barge) (s : State) : (stateAfter s (execCameraRemove b s)).still = s.still := by
  simp [execCameraRemove]

@[simp] theorem still_cameraStartApply (b : Barge) (s : State) : (cameraStartApply b s).still = s.still := by
  simp [cameraStartApply]

@[simp] theorem still_execCameraStart (b : Barge) (s : State) : (stateAfter s (execCameraStart b s)).still = s.still := by
  simp [execCameraStart]

@[simp] theorem still_cameraStopApply (b : Barge) (s : State) : (cameraStopApply b s).still = s.still := by simp [cameraStopApply]

@[simp] theorem still_execCameraStop (b : Barge) (s : State) : (stateAfter s (execCameraStop b s)).still = s.still := by
  simp [execCameraStop]

@[simp] theorem still_ringSet (b : Barge) (s : State) : (ringSet b s).1.still = s.still := by
  unfold ringSet
  dsimp only
  split
  · split <;> simp
  · split
    next ht => simp [still_of_placeRing ht]
    next => simp

@[simp] theorem still_cameraRingSetApply (b : Barge) (s : State) : (cameraRingSetApply b s).still = s.still := by
  unfold cameraRingSetApply
  dsimp only
  (repeat' split) <;> simp

@[simp] theorem still_execCameraRingSet (b : Barge) (s : State) : (stateAfter s (execCameraRingSet b s)).still = s.still := by
  simp [execCameraRingSet]

@[simp] theorem still_cameraStatusApply (b : Barge) (s : State) : (cameraStatusApply b s).still = s.still := by
  simp [cameraStatusApply]

@[simp] theorem still_execCameraStatus (b : Barge) (s : State) : (stateAfter s (execCameraStatus b s)).still = s.still := by
  simp [execCameraStatus]

@[simp] theorem still_setContract (c : Contract) (s : State) : (setContract c s).still = s.still := by simp [setContract]

@[simp] theorem still_latencyContractSetApply (b : Barge) (s : State) : (latencyContractSetApply b s).still = s.still := by
  unfold latencyContractSetApply
  dsimp only
  (repeat' split) <;> simp

@[simp] theorem still_execLatencyContractSet (b : Barge) (s : State) :
    (stateAfter s (execLatencyContractSet b s)).still = s.still := by
  simp [execLatencyContractSet]

/-! ### The operations of Sys2Proof/Machine/Pound.lean -/

@[simp] theorem still_byProducer (q client : Nat) (op : State → State) (s : State) (h : (op s).still = s.still) :
    (byProducer q client op s).still = s.still := by
  simp [byProducer, h]

@[simp] theorem still_byConsumer (q client : Nat) (op : State → State) (s : State) (h : (op s).still = s.still) :
    (byConsumer q client op s).still = s.still := by
  simp [byConsumer, h]

@[simp] theorem still_execPut (q client : Nat) (bytes : List Byte) (s : State) :
    (stateAfter s (execPut q client bytes s)).still = s.still := by
  simp [execPut]

@[simp] theorem still_execEndItem (q client : Nat) (s : State) : (stateAfter s (execEndItem q client s)).still = s.still := by
  simp [execEndItem]

@[simp] theorem still_execCancel (q client : Nat) (s : State) : (stateAfter s (execCancel q client s)).still = s.still := by
  simp [execCancel]

@[simp] theorem still_execItemComplete (q : Nat) (s : State) : (stateAfter s (execItemComplete q s)).still = s.still := by
  simp [execItemComplete]

@[simp] theorem still_execGet (q client n : Nat) (s : State) : (stateAfter s (execGet q client n s)).still = s.still := by
  simp [execGet]

@[simp] theorem still_execNextItem (q client : Nat) (s : State) : (stateAfter s (execNextItem q client s)).still = s.still := by
  simp [execNextItem]

@[simp] theorem still_execDropRemainder (q client : Nat) (s : State) :
    (stateAfter s (execDropRemainder q client s)).still = s.still := by
  simp [execDropRemainder]

@[simp] theorem still_execMarkRead (q client : Nat) (s : State) : (stateAfter s (execMarkRead q client s)).still = s.still := by
  simp [execMarkRead]

@[simp] theorem still_execRewind (q client : Nat) (s : State) : (stateAfter s (execRewind q client s)).still = s.still := by
  simp [execRewind]

@[simp] theorem still_execRelease (q client : Nat) (s : State) : (stateAfter s (execRelease q client s)).still = s.still := by
  simp [execRelease]

@[simp] theorem still_execQuarterDrainTimeout (k : Nat) (s : State) :
    (stateAfter s (execQuarterDrainTimeout k s)).still = s.still := by
  simp [execQuarterDrainTimeout]

@[simp] theorem still_qCreateApply (b : Barge) (s : State) : (qCreateApply b s).still = s.still := by simp [qCreateApply]

@[simp] theorem still_execQCreate (b : Barge) (s : State) : (stateAfter s (execQCreate b s)).still = s.still := by
  simp [execQCreate]

@[simp] theorem still_qDeleteApply (b : Barge) (s : State) : (qDeleteApply b s).still = s.still := by simp [qDeleteApply]

@[simp] theorem still_execQDelete (b : Barge) (s : State) : (stateAfter s (execQDelete b s)).still = s.still := by
  simp [execQDelete]

@[simp] theorem still_qQuotaSetApply (b : Barge) (s : State) : (qQuotaSetApply b s).still = s.still := by simp [qQuotaSetApply]

@[simp] theorem still_execQQuotaSet (b : Barge) (s : State) : (stateAfter s (execQQuotaSet b s)).still = s.still := by
  simp [execQQuotaSet]

@[simp] theorem still_qWeirSetApply (b : Barge) (s : State) : (qWeirSetApply b s).still = s.still := by simp [qWeirSetApply]

@[simp] theorem still_execQWeirSet (b : Barge) (s : State) : (stateAfter s (execQWeirSet b s)).still = s.still := by
  simp [execQWeirSet]

@[simp] theorem still_qFlushApply (b : Barge) (s : State) : (qFlushApply b s).still = s.still := by simp [qFlushApply]

@[simp] theorem still_execQFlush (b : Barge) (s : State) : (stateAfter s (execQFlush b s)).still = s.still := by simp [execQFlush]

@[simp] theorem still_qQueryApply (b : Barge) (s : State) : (qQueryApply b s).still = s.still := by simp [qQueryApply]

@[simp] theorem still_execQQuery (b : Barge) (s : State) : (stateAfter s (execQQuery b s)).still = s.still := by simp [execQQuery]

/-! ### The operations of Sys2Proof/Machine/Faults.lean -/

@[simp] theorem still_loseSurfaces (s : State) : (loseSurfaces s).still = s.still := by simp [loseSurfaces]

@[simp] theorem still_loseFrames (kind source : Nat) (s : State) : (loseFrames kind source s).still = s.still := by
  simp [loseFrames]

@[simp] theorem still_loseCamRing (i : Nat) (s : State) : (loseCamRing i s).still = s.still := by
  unfold loseCamRing
  split <;> simp

@[simp] theorem still_loseWbRing (p : Nat) (s : State) : (loseWbRing p s).still = s.still := by
  unfold loseWbRing
  dsimp only
  split
  · rfl
  · split
    · rfl
    · split
      next ht => simp [still_of_placeRegion ht]
      next => simp

@[simp] theorem still_replaceBacking (d : Nat) (s : State) : (replaceBacking d s).still = s.still := by
  refine still_foldl (fun t g => ?_) _ s
  split <;> simp

@[simp] theorem still_loseBackedCells (d : Nat) (s : State) : (loseBackedCells d s).still = s.still := by simp [loseBackedCells]

@[simp] theorem still_declareDevice (d : Nat) (s : State) : (declareDevice d s).still = s.still := by simp [declareDevice]

@[simp] theorem still_execGddr6CrcFail (d : Nat) (retryOk : Bool) (s : State) :
    (stateAfter s (execGddr6CrcFail d retryOk s)).still = s.still := by
  simp [execGddr6CrcFail]

@[simp] theorem still_execGddr6SupplyFault (d : Nat) (s : State) : (stateAfter s (execGddr6SupplyFault d s)).still = s.still := by
  simp [execGddr6SupplyFault]

@[simp] theorem still_execRemirrorComplete (s : State) : (stateAfter s (execRemirrorComplete s)).still = s.still := by
  simp [execRemirrorComplete]

@[simp] theorem still_dueDevices (s : State) : (dueDevices s).still = s.still := by simp [dueDevices]

@[simp] theorem still_completeClaims (pair : Nat) (s : State) : (completeClaims pair s).still = s.still := by
  simp [completeClaims]

@[simp] theorem still_recoverCommitted (s : State) : (recoverCommitted s).still = s.still := by simp [recoverCommitted]

@[simp] theorem still_pairFault (pair : Nat) (s : State) : (pairFault pair s).still = s.still := by simp [pairFault]

@[simp] theorem still_phaseFault (rail phase : Nat) (s : State) : (phaseFault rail phase s).still = s.still := by
  simp [phaseFault]

@[simp] theorem still_execPhaseFault (rail phase : Nat) (s : State) :
    (stateAfter s (execPhaseFault rail phase s)).still = s.still := by
  simp [execPhaseFault]

@[simp] theorem still_quarterFault (k : Nat) (s : State) : (quarterFault k s).still = s.still := by simp [quarterFault]

@[simp] theorem still_execQuarterSubstitution (quarter : Nat) (badCells : List Nat) (s : State) :
    (stateAfter s (execQuarterSubstitution quarter badCells s)).still = s.still := by
  simp [execQuarterSubstitution]

@[simp] theorem still_engineFault (e : Nat) (s : State) : (engineFault e s).still = s.still := by simp [engineFault]

@[simp] theorem still_encoderFault (e : Nat) (s : State) : (encoderFault e s).still = s.still := by simp [encoderFault]

@[simp] theorem still_channelFault (c : Nat) (s : State) : (channelFault c s).still = s.still := by simp [channelFault]

@[simp] theorem still_testedPathFault (k : Nat) (s : State) : (testedPathFault k s).still = s.still := by simp [testedPathFault]

@[simp] theorem frame_takeOut (kind index : Nat) (s : State) : (takeOut kind index s).still.frame = s.still.frame := by
  unfold takeOut
  (repeat' split) <;> simp

@[simp] theorem frame_selftestFailed (kind index : Nat) (s : State) :
    (selftestFailed kind index s).still.frame = s.still.frame := by
  simp [selftestFailed]

@[simp] theorem still_laneBack (k : Nat) (s : State) : (laneBack k s).still = s.still := by
  refine still_mapLanes _ _ fun l => ?_
  dsimp only
  split <;> rfl

@[simp] theorem still_channelBack (c : Nat) (s : State) : (channelBack c s).still = s.still := by simp [channelBack]

@[simp] theorem frame_restoreObject (kind index : Nat) (s : State) :
    (restoreObject kind index s).still.frame = s.still.frame := by
  unfold restoreObject
  dsimp only
  rw [still_ite, frame_ite]
  split
  · simp
  · rw [still_readmit]
    split <;> simp

@[simp] theorem still_prepareQuarter (k : Nat) (t : TestRun) (s : State) : (prepareQuarter k t s).still = s.still := by
  simp [prepareQuarter]

@[simp] theorem still_relieveLane (phys : Nat) (s : State) : (relieveLane phys s).still = s.still := by
  unfold relieveLane
  split <;> simp

@[simp] theorem still_addTest (t : TestRun) (s : State) : (addTest t s).still = s.still := by simp [addTest]

@[simp] theorem still_laneStep (s : State) : (laneStep s).still = s.still := by
  unfold laneStep
  (repeat' split) <;> simp

@[simp] theorem still_startStep (kind n : Nat) (s : State) : (startStep kind n s).still = s.still := by
  unfold startStep
  split <;> simp

@[simp] theorem still_execSelftestStep (kind : Nat) (s : State) : (stateAfter s (execSelftestStep kind s)).still = s.still := by
  simp [execSelftestStep]

@[simp] theorem still_endTest (t : TestRun) (s : State) : (endTest t s).still = s.still := by
  unfold endTest
  split <;> simp

@[simp] theorem frame_execSelftestStepEnd (kind : Nat) (pass : Bool) (s : State) :
    (stateAfter s (execSelftestStepEnd kind pass s)).still.frame = s.still.frame := by
  unfold execSelftestStepEnd
  split <;> simp

@[simp] theorem frame_bistRunApply (b : Barge) (s : State) : (bistRunApply b s).still.frame = s.still.frame := by
  unfold bistRunApply
  dsimp only
  (repeat' split) <;> simp

@[simp] theorem frame_execBistRun (b : Barge) (s : State) : (stateAfter s (execBistRun b s)).still.frame = s.still.frame := by
  simp [execBistRun]

@[simp] theorem frame_execBistComplete (kind index : Nat) (pass : Bool) (s : State) :
    (stateAfter s (execBistComplete kind index pass s)).still.frame = s.still.frame := by
  unfold execBistComplete
  (repeat' split) <;> simp

@[simp] theorem still_ackConditions (s : State) : (ackConditions s).still = s.still := by simp [ackConditions]

@[simp] theorem still_selftestPolicyApply (b : Barge) (s : State) : (selftestPolicyApply b s).still = s.still := by
  simp [selftestPolicyApply]

@[simp] theorem still_execSelftestPolicy (b : Barge) (s : State) : (stateAfter s (execSelftestPolicy b s)).still = s.still := by
  simp [execSelftestPolicy]

@[simp] theorem still_execFaultOutConditionEnd (s : State) : (stateAfter s (execFaultOutConditionEnd s)).still = s.still := by
  simp [execFaultOutConditionEnd]

@[simp] theorem still_drainedQuarters (s : State) : (drainedQuarters s).still = s.still := by simp [drainedQuarters]

@[simp] theorem still_waitingLaneTests (s : State) : (waitingLaneTests s).still = s.still := by
  unfold waitingLaneTests
  split <;> simp

@[simp] theorem still_housekeep (s : State) : (housekeep s).still = s.still := by simp [housekeep]

/-! ### The operations of Sys2Proof/Machine/Locks.lean -/

@[simp] theorem still_applyLayer (p slot mask : Nat) (c : LayerCfg) (s : State) :
    (applyLayer p slot mask c s).still = s.still := by
  simp [applyLayer]

@[simp] theorem still_saveSlots (p : Nat) (s : State) : (saveSlots p s).still = s.still := by simp [saveSlots]

@[simp] theorem still_showScene (p : Nat) (g : Programme) (s : State) : (showScene p g s).still = s.still := by simp [showScene]

@[simp] theorem still_lockScene (p : Nat) (s : State) : (lockScene p s).still = s.still := by
  unfold lockScene
  split <;> simp

@[simp] theorem still_restoreSlots (p : Nat) (s : State) : (restoreSlots p s).still = s.still := by simp [restoreSlots]

@[simp] theorem still_lockUnscene (p : Nat) (s : State) : (lockUnscene p s).still = s.still := by simp [lockUnscene]

@[simp] theorem frame_writeProbe (p h : Nat) (s : State) : (writeProbe p h s).still.frame = s.still.frame := by simp [writeProbe]

@[simp] theorem still_beginFrame (p : Nat) (s : State) : (beginFrame p s).still = s.still := by simp [beginFrame]

@[simp] theorem still_takeLead (p : Nat) (s : State) : (takeLead p s).still = s.still := by simp [takeLead]

@[simp] theorem still_enterRetraining (p : Nat) (r : Retime) (s : State) : (enterRetraining p r s).still = s.still := by
  simp [enterRetraining]

@[simp] theorem frame_frameLock (p : Nat) (s : State) : (frameLock p s).still.frame = s.still.frame := by
  unfold frameLock
  dsimp only
  (repeat' split) <;> simp

@[simp] theorem frame_lock (p : Nat) (s : State) : (lock p s).still.frame = s.still.frame := by
  unfold lock
  dsimp only
  (repeat' split) <;> simp

@[simp] theorem frame_execLock (p : Nat) (s : State) : (stateAfter s (execLock p s)).still.frame = s.still.frame := by
  simp [execLock]

/-! ### The operations of Sys2Proof/Machine/Contain.lean -/

@[simp] theorem still_writeDump (cause detail pair mode : Nat) (s : State) :
    (writeDump cause detail pair mode s).still = s.still := by
  simp [writeDump]

@[simp] theorem still_discardCommits (p : Nat) (s : State) : (discardCommits p s).still = s.still := by simp [discardCommits]

@[simp] theorem still_discardQueued (s : State) : (discardQueued s).still = s.still := by simp [still_def, discardQueued]

@[simp] theorem still_freezeRings (s : State) : (freezeRings s).still = s.still := by simp [freezeRings]

@[simp] theorem still_dropBarge (b : Barge) (s : State) : (dropBarge b s).still = s.still := by
  unfold dropBarge
  extract_lets keep tests s1 s2 s3 s4 s5 s6 s7 s8 s9 s10 s11 s12
  have h1 : s1.still = s.still := still_foldl (fun t x => still_endTest x t) _ _
  have h3 : s3.still = s1.still := still_eq rfl rfl rfl rfl
  have h7 : s7.still = s3.still := still_eq rfl rfl (by simp [s7, s6, s5, s4, State.bankLengths]) rfl
  have h8 : s8.still = s7.still := by simp [s8]
  have h11 : s11.still = s8.still := by simp [s11, s10, s9]
  have h12 : s12.still = s11.still := still_foldl (fun t l => by simp) _ _
  simp [h12, h11, h8, h7, h3, h1]

@[simp] theorem still_stopUncommitted (s : State) : (stopUncommitted s).still = s.still := by simp [stopUncommitted]

@[simp] theorem frame_enterContain (cause detail pair : Nat) (s : State) (hw : s.still.frame.banks = wholeBanks) :
    (enterContain cause detail pair s).still.frame = s.still.frame := by
  simp [enterContain, hw]

@[simp] theorem frame_execContainEntry (cause detail pair : Nat) (s : State) (hw : s.still.frame.banks = wholeBanks) :
    (stateAfter s (execContainEntry cause detail pair s)).still.frame = s.still.frame := by
  simp [execContainEntry, hw]

@[simp] theorem frame_execWatchdog (s : State) (hw : s.still.frame.banks = wholeBanks) :
    (stateAfter s (execWatchdog s)).still.frame = s.still.frame := by
  unfold execWatchdog
  split <;> simp [hw]

@[simp] theorem frame_lockstep (pair : Nat) (s : State) (hw : s.still.frame.banks = wholeBanks) :
    (lockstep pair s).still.frame = s.still.frame := by
  simp [lockstep, hw]

@[simp] theorem frame_execLockstepMismatch (pair : Nat) (s : State) (hw : s.still.frame.banks = wholeBanks) :
    (stateAfter s (execLockstepMismatch pair s)).still.frame = s.still.frame := by
  simp [execLockstepMismatch, hw]

@[simp] theorem still_recoverBarge (n : Nat) (f : InFlight) (s : State) : (recoverBarge n f s).still = s.still := by
  unfold recoverBarge
  split <;> simp

@[simp] theorem still_recoverRing (n : Nat) (s : State) : (recoverRing n s).still = s.still := by simp [recoverRing]

@[simp] theorem still_revertPatch (s : State) : (revertPatch s).still = s.still := by
  unfold revertPatch
  split <;> simp

@[simp] theorem still_startCopy (s : State) : (startCopy s).still = s.still := by simp [startCopy]

@[simp] theorem still_leaveContain (s : State) : (leaveContain s).still = s.still := by
  unfold leaveContain
  extract_lets s1 s2 s3 s4 entry s5 s6 s7 s8 s9 s10 s11 s12 s13
  have h1 : s1.still = s.still := by simp [s1]
  have h2 : s2.still = s1.still := still_foldl (fun t n => still_recoverRing n t) _ _
  have h3 : s3.still = s2.still := still_foldl (fun t q => by simp) _ _
  have h7 : s7.still = s3.still := by simp [s7, s6, s5, s4]
  have h8 : s8.still = s7.still := by
    unfold s8
    split <;> simp
  have h10 : s10.still = s8.still := by simp [s10, s9]
  have h11 : s11.still = s10.still := still_foldl (fun t c => still_feedChannel c 16 t) _ _
  have h12 : s12.still = s11.still := still_foldl (fun t p => still_settleRetime p t) _ _
  have h13 : s13.still = s12.still := by simp [s13]
  split <;> simp [h13, h12, h11, h10, h8, h7, h3, h2, h1]

@[simp] theorem still_execContainExit (s : State) : (stateAfter s (execContainExit s)).still = s.still := by
  simp [execContainExit]

@[simp] theorem still_execDumpCopyComplete (ok : Bool) (s : State) :
    (stateAfter s (execDumpCopyComplete ok s)).still = s.still := by
  unfold execDumpCopyComplete
  dsimp only
  (repeat' split) <;> simp

@[simp] theorem still_dumpReadApply (b : Barge) (s : State) : (dumpReadApply b s).still = s.still := by simp [dumpReadApply]

@[simp] theorem still_execDumpRead (b : Barge) (s : State) : (stateAfter s (execDumpRead b s)).still = s.still := by
  simp [execDumpRead]

@[simp] theorem still_dumpClearApply (b : Barge) (s : State) : (dumpClearApply b s).still = s.still := by simp [dumpClearApply]

@[simp] theorem still_execDumpClear (b : Barge) (s : State) : (stateAfter s (execDumpClear b s)).still = s.still := by
  simp [execDumpClear]

@[simp] theorem still_markInjected (kind index : Nat) (s : State) : (markInjected kind index s).still = s.still := by
  simp [markInjected]

@[simp] theorem frame_inject (kind index count addr pattern : Nat) (s : State) (hw : s.still.frame.banks = wholeBanks) :
    (inject kind index count addr pattern s).still.frame = s.still.frame := by
  unfold inject
  split <;> simp [hw]

@[simp] theorem frame_faultInjectApply (b : Barge) (s : State) (hw : s.still.frame.banks = wholeBanks) :
    (faultInjectApply b s).still.frame = s.still.frame := by
  simp [faultInjectApply, hw]

@[simp] theorem frame_execFaultInject (b : Barge) (s : State) (hw : s.still.frame.banks = wholeBanks) :
    (stateAfter s (execFaultInject b s)).still.frame = s.still.frame := by
  simp [execFaultInject, hw]

@[simp] theorem still_testInjected (s : State) : (testInjected s).still = s.still := by simp [testInjected]

/-! ### The operations of Sys2Proof/Machine/ModeOps.lean -/

@[simp] theorem still_syncSleep (s : State) : (syncSleep s).still = s.still := by simp [syncSleep]

@[simp] theorem still_noteScene (s : State) : (noteScene s).still = s.still := by simp [noteScene]

@[simp] theorem still_enterQuiet (s : State) : (enterQuiet s).still = s.still := by simp [enterQuiet]

@[simp] theorem still_heartbeat (s : State) : (heartbeat s).still = s.still := by
  unfold heartbeat
  dsimp only
  (repeat' split) <;> simp

@[simp] theorem still_stopDepot (s : State) : (stopDepot s).still = s.still := by simp [stopDepot]

@[simp] theorem still_leaveDepot (s : State) : (leaveDepot s).still = s.still := by simp [leaveDepot]

@[simp] theorem still_stationaryLost (s : State) : (stationaryLost s).still = s.still := by simp [stationaryLost]

@[simp] theorem still_setVehicle (f : Can → Can) (s : State) : (setVehicle f s).still = s.still := by simp [setVehicle]

@[simp] theorem still_stopAll (s : State) : (stopAll s).still = s.still := by simp [still_def, stopAll]

@[simp] theorem still_moveRecords (n : Nat) (s : State) : (moveRecords n s).still = s.still := by
  induction n generalizing s with
  | zero => rfl
  | succ n ih => simp [moveRecords, ih]

@[simp] theorem still_writeRing (k n : Nat) (s : State) : (writeRing k n s).still = s.still := by
  induction n generalizing s with
  | zero => rfl
  | succ n ih => simp [writeRing, ih]

@[simp] theorem still_writeEvents (s : State) : (writeEvents s).still = s.still := by simp [writeEvents]

@[simp] theorem frame_advanceSleep (s : State) (hw : s.still.frame.banks = wholeBanks) :
    (advanceSleep s).still.frame = s.still.frame := by
  unfold advanceSleep
  split
  · rfl
  · dsimp only
    (repeat' split) <;> simp [hw]

@[simp] theorem frame_startSleep (b : Option Barge) (s : State) (hw : s.still.frame.banks = wholeBanks) :
    (startSleep b s).still.frame = s.still.frame := by
  simp [startSleep, hw]

@[simp] theorem frame_wakeUp (cause : Nat) (s : State) (hw : s.still.frame.banks = wholeBanks) :
    (wakeUp cause s).still.frame = s.still.frame := by
  have ht : ({ keepOn s with time := 40 * ceilDiv s.time 40 } : State).still = (keepOn s).still := rfl
  simp [wakeUp, ht, hw]

/-! ### The operations of Sys2Proof/Machine/Modes.lean -/

@[simp] theorem still_identifyApply (b : Barge) (s : State) : (identifyApply b s).still = s.still := by simp [identifyApply]

@[simp] theorem still_execIdentify (b : Barge) (s : State) : (stateAfter s (execIdentify b s)).still = s.still := by
  simp [execIdentify]

@[simp] theorem still_statusReportApply (b : Barge) (s : State) : (statusReportApply b s).still = s.still := by
  simp [statusReportApply]

@[simp] theorem still_execStatusReport (b : Barge) (s : State) : (stateAfter s (execStatusReport b s)).still = s.still := by
  simp [execStatusReport]

@[simp] theorem still_execHeartbeat (value : Word32) (s : State) : (stateAfter s (execHeartbeat value s)).still = s.still := by
  simp [execHeartbeat]

@[simp] theorem still_heartbeatSetApply (b : Barge) (s : State) : (heartbeatSetApply b s).still = s.still := by
  simp [heartbeatSetApply]

@[simp] theorem still_execHeartbeatSet (b : Barge) (s : State) : (stateAfter s (execHeartbeatSet b s)).still = s.still := by
  simp [execHeartbeatSet]

@[simp] theorem still_execHeartbeatTimeout (s : State) : (stateAfter s (execHeartbeatTimeout s)).still = s.still := by
  unfold execHeartbeatTimeout
  (repeat' split) <;> simp

@[simp] theorem frame_sleepApply (b : Barge) (s : State) (hw : s.still.frame.banks = wholeBanks) :
    (sleepApply b s).still.frame = s.still.frame := by
  simp [sleepApply, hw]

@[simp] theorem frame_execSleep (b : Barge) (s : State) (hw : s.still.frame.banks = wholeBanks) :
    (stateAfter s (execSleep b s)).still.frame = s.still.frame := by
  simp [execSleep, hw]

@[simp] theorem frame_execSleepTimer (s : State) (hw : s.still.frame.banks = wholeBanks) :
    (stateAfter s (execSleepTimer s)).still.frame = s.still.frame := by
  unfold execSleepTimer
  split <;> simp [hw]

@[simp] theorem still_depotChallengeApply (b : Barge) (s : State) : (depotChallengeApply b s).still = s.still := by
  unfold depotChallengeApply
  dsimp only
  (repeat' split) <;> simp

@[simp] theorem still_execDepotChallenge (b : Barge) (s : State) : (stateAfter s (execDepotChallenge b s)).still = s.still := by
  simp [execDepotChallenge]

@[simp] theorem still_execChallengeExpired (s : State) : (stateAfter s (execChallengeExpired s)).still = s.still := by
  unfold execChallengeExpired
  split <;> simp

@[simp] theorem still_readObject (a n : Nat) (s : State) : (readObject a n s).2.still = s.still := by simp [readObject]

@[simp] theorem still_depotEnterApply (b : Barge) (s : State) : (depotEnterApply b s).still = s.still := by
  unfold depotEnterApply
  dsimp only
  split
  · simp
  · split
    next ht => simp [still_of_eq_pair ht (still_readObject ..)]
    next ht => split <;> simp [still_of_eq_pair ht (still_readObject ..)]

@[simp] theorem still_execDepotEnter (b : Barge) (s : State) : (stateAfter s (execDepotEnter b s)).still = s.still := by
  simp [execDepotEnter]

@[simp] theorem still_depotExitApply (b : Barge) (s : State) : (depotExitApply b s).still = s.still := by simp [depotExitApply]

@[simp] theorem still_execDepotExit (b : Barge) (s : State) : (stateAfter s (execDepotExit b s)).still = s.still := by
  simp [execDepotExit]

@[simp] theorem still_vehicleFrame (id : Nat) (data : List Byte) (s : State) : (vehicleFrame id data s).still = s.still := by
  simp [vehicleFrame]

@[simp] theorem still_sceneChange (old : Nat) (s : State) : (sceneChange old s).still = s.still := by simp [sceneChange]

@[simp] theorem still_stopFrame (id : Nat) (data : List Byte) (s : State) : (stopFrame id data s).still = s.still := by
  unfold stopFrame
  split <;> simp

@[simp] theorem still_execCanFrameReceived (id : Nat) (data : List Byte) (s : State) :
    (stateAfter s (execCanFrameReceived id data s)).still = s.still := by
  unfold execCanFrameReceived
  rw [still_done, still_ite, ite_eq_left_iff]
  intro _
  split
  · rfl
  next t hp =>
    extract_lets can t1
    have h1 : t1.still = s.still := (still_eq rfl rfl rfl rfl : t1.still = t.still).trans (still_of_putItem hp)
    rw [still_ite]
    split
    · exact h1
    · split
      · exact h1
      next ht => simp [still_of_takeItem ht, h1]

@[simp] theorem still_execVehicleStateTimeout (s : State) : (stateAfter s (execVehicleStateTimeout s)).still = s.still := by
  simp [execVehicleStateTimeout]

@[simp] theorem still_execCanTimeout (s : State) : (stateAfter s (execCanTimeout s)).still = s.still := by
  unfold execCanTimeout
  split <;> simp

@[simp] theorem still_execStatusCanTx (s : State) : (stateAfter s (execStatusCanTx s)).still = s.still := by
  unfold execStatusCanTx
  rw [still_stateAfter_next, still_ite, ite_eq_left_iff]
  intro _
  extract_lets data can t
  have h1 : t.still = s.still := still_eq rfl rfl rfl rfl
  split
  · exact h1
  next hb =>
    obtain ⟨u, hp, ht⟩ := Option.bind_eq_some_iff.mp hb
    simp [still_of_takeItem ht, still_of_putItem hp, h1]

@[simp] theorem still_execCanBusError (tec rec_ : Nat) (s : State) :
    (stateAfter s (execCanBusError tec rec_ s)).still = s.still := by
  simp [execCanBusError]

@[simp] theorem still_execCanBusOffRecovery (s : State) : (stateAfter s (execCanBusOffRecovery s)).still = s.still := by
  simp [execCanBusOffRecovery]

/-! ### The operations of Sys2Proof/Machine/Towpath.lean -/

@[simp] theorem still_sendTow (bytes : List Byte) (s : State) : (sendTow bytes s).still = s.still := by simp [sendTow]

@[simp] theorem still_answerTow (cmd : Nat) (tag : Byte) (payload : List Byte) (s : State) :
    (answerTow cmd tag payload s).still = s.still := by
  simp [answerTow]

@[simp] theorem still_execTowpathIdentify (tag : Byte) (s : State) :
    (stateAfter s (execTowpathIdentify tag s)).still = s.still := by
  simp [execTowpathIdentify]

@[simp] theorem still_execTowpathStatus (tag : Byte) (s : State) : (stateAfter s (execTowpathStatus tag s)).still = s.still := by
  simp [execTowpathStatus]

@[simp] theorem still_execTowpathSummary (tag : Byte) (s : State) :
    (stateAfter s (execTowpathSummary tag s)).still = s.still := by
  simp [execTowpathSummary]

@[simp] theorem still_execTowpathRead (tag : Byte) (bytes : List Byte) (s : State) :
    (stateAfter s (execTowpathRead tag bytes s)).still = s.still := by
  simp [execTowpathRead]

@[simp] theorem still_execTowpathBadFrame (crcOk : Bool) (cmd tag : Byte) (s : State) :
    (stateAfter s (execTowpathBadFrame crcOk cmd tag s)).still = s.still := by
  simp [execTowpathBadFrame]

@[simp] theorem still_execTpCtsChange (maySend : Bool) (s : State) :
    (stateAfter s (execTpCtsChange maySend s)).still = s.still := by
  simp [execTpCtsChange]

/-! ### The operations of Sys2Proof/Machine/Trust.lean -/

@[simp] theorem still_programSlot (b : Barge) (config : Bool) (o : List Byte) (s : State) :
    (programSlot b config o s).still = s.still := by
  simp [programSlot]

@[simp] theorem still_patchLoadApply (b : Barge) (s : State) : (patchLoadApply b s).still = s.still := by
  unfold patchLoadApply
  split
  next ht => simp [still_of_eq_pair ht (still_readObject ..)]
  next ht => split <;> simp [still_of_eq_pair ht (still_readObject ..)]

@[simp] theorem still_execPatchLoad (b : Barge) (s : State) : (stateAfter s (execPatchLoad b s)).still = s.still := by
  simp [execPatchLoad]

@[simp] theorem still_configImageStoreApply (b : Barge) (s : State) : (configImageStoreApply b s).still = s.still := by
  unfold configImageStoreApply
  split
  next ht => simp [still_of_eq_pair ht (still_readObject ..)]
  next ht => split <;> simp [still_of_eq_pair ht (still_readObject ..)]

@[simp] theorem still_execConfigImageStore (b : Barge) (s : State) :
    (stateAfter s (execConfigImageStore b s)).still = s.still := by
  simp [execConfigImageStore]

@[simp] theorem still_execFlashProgramComplete (ok : Bool) (s : State) :
    (stateAfter s (execFlashProgramComplete ok s)).still = s.still := by
  unfold execFlashProgramComplete
  split <;> simp

@[simp] theorem still_patchActivateApply (b : Barge) (s : State) : (patchActivateApply b s).still = s.still := by
  unfold patchActivateApply
  dsimp only
  (repeat' split) <;> simp

@[simp] theorem still_execPatchActivate (b : Barge) (s : State) : (stateAfter s (execPatchActivate b s)).still = s.still := by
  simp [execPatchActivate]

@[simp] theorem still_patchDeactivateApply (b : Barge) (s : State) : (patchDeactivateApply b s).still = s.still := by
  simp [patchDeactivateApply]

@[simp] theorem still_execPatchDeactivate (b : Barge) (s : State) : (stateAfter s (execPatchDeactivate b s)).still = s.still := by
  simp [execPatchDeactivate]

@[simp] theorem still_attestApply (b : Barge) (s : State) : (attestApply b s).still = s.still := by simp [attestApply]

@[simp] theorem still_execAttest (b : Barge) (s : State) : (stateAfter s (execAttest b s)).still = s.still := by simp [execAttest]

@[simp] theorem still_execSigningComplete (s : State) : (stateAfter s (execSigningComplete s)).still = s.still := by
  unfold execSigningComplete
  dsimp only
  (repeat' split) <;> simp

@[simp] theorem still_burnRevoked (owner : Bool) (slot : Nat) (s : State) : (burnRevoked owner slot s).still = s.still := by
  simp [burnRevoked]

@[simp] theorem still_applyTicket (t : List Byte) (s : State) : (applyTicket t s).2.still = s.still := by
  unfold applyTicket
  dsimp only
  (repeat' split) <;> simp

@[simp] theorem still_keyRevokeApply (b : Barge) (s : State) : (keyRevokeApply b s).still = s.still := by
  unfold keyRevokeApply
  split
  next ht => simp [still_of_eq_pair ht (still_readObject ..)]
  next ht =>
    have hr := still_of_eq_pair ht (still_readObject ..)
    split
    · simp [hr]
    · split
      next hk => simp [still_of_eq_pair hk (still_applyTicket ..), hr]
      next hk => simp [still_of_eq_pair hk (still_applyTicket ..), hr]

@[simp] theorem still_execKeyRevoke (b : Barge) (s : State) : (stateAfter s (execKeyRevoke b s)).still = s.still := by
  simp [execKeyRevoke]

@[simp] theorem still_rollbackAdvanceApply (b : Barge) (s : State) : (rollbackAdvanceApply b s).still = s.still := by
  simp [rollbackAdvanceApply]

@[simp] theorem still_execRollbackAdvance (b : Barge) (s : State) : (stateAfter s (execRollbackAdvance b s)).still = s.still := by
  simp [execRollbackAdvance]

/-! ### The operations of Sys2Proof/Machine/Boot.lean -/

@[simp] theorem still_runLow (b : Barge) (s : State) : (stateAfter s (runLow b s)).still = s.still := by
  unfold runLow
  split <;> simp

@[simp] theorem still_runMid (b : Barge) (s : State) : (stateAfter s (runMid b s)).still = s.still := by
  unfold runMid
  split <;> simp

@[simp] theorem still_runHigh (b : Barge) (s : State) : (stateAfter s (runHigh b s)).still = s.still := by
  unfold runHigh
  (repeat' split) <;> simp

@[simp] theorem still_runOpcode (b : Barge) (s : State) : (runOpcode b s).still = s.still := by simp [runOpcode]

@[simp] theorem still_loadFails (phase index : Nat) (s : State) : (loadFails phase index s).still = s.still := by simp [loadFails]

@[simp] theorem still_loadTiles (addr off1 pitch0 pitch1 cols : Nat) (meta_ : List Byte) (n t : Nat) (data : List Byte) (s : State) :
    (loadTiles addr off1 pitch0 pitch1 cols meta_ n t data s).still = s.still := by
  induction n generalizing t data s with
  | zero => rfl
  | succ n ih => simp [loadTiles, ih]

@[simp] theorem still_runLoad (phase index o : Nat) (s : State) : (runLoad phase index o s).still = s.still := by simp [runLoad]

@[simp] theorem still_noteLightPipe (phase : Nat) (b : Barge) (s : State) : (noteLightPipe phase b s).still = s.still := by
  simp [noteLightPipe]

@[simp] theorem still_runImageBarge (phase index : Nat) (b : Barge) (s : State) :
    (runImageBarge phase index b s).2.still = s.still := by
  unfold runImageBarge
  (repeat' split) <;> simp

@[simp] theorem still_runEntries (n : Nat) (s : State) : (runEntries n s).still = s.still := by
  induction n generalizing s with
  | zero => rfl
  | succ n ih =>
    unfold runEntries
    dsimp only
    split
    · rfl
    · split <;> simp [ih]

@[simp] theorem still_entriesGoOn (s : State) : (entriesGoOn s).still = s.still := by simp [entriesGoOn]

@[simp] theorem still_execLightEntries (s : State) : (stateAfter s (execLightEntries s)).still = s.still := by
  simp [execLightEntries]

@[simp] theorem still_execServiceReady (s : State) : (stateAfter s (execServiceReady s)).still = s.still := by
  simp [execServiceReady]

@[simp] theorem frame_execVinValid (mv : Nat) (s : State) : (stateAfter s (execVinValid mv s)).still.frame = s.still.frame := by
  simp [execVinValid]

@[simp] theorem frame_execPowerFailure (s : State) (hw : s.still.frame.banks = wholeBanks) :
    (stateAfter s (execPowerFailure s)).still.frame = s.still.frame := by
  simp [execPowerFailure, hw]

@[simp] theorem frame_execWakeSource (cause : Nat) (s : State) (hw : s.still.frame.banks = wholeBanks) :
    (stateAfter s (execWakeSource cause s)).still.frame = s.still.frame := by
  simp [execWakeSource, hw]

@[simp] theorem frame_execBootRestart (s : State) (hw : s.still.frame.banks = wholeBanks) :
    (stateAfter s (execBootRestart s)).still.frame = s.still.frame := by
  simp [execBootRestart, hw]

@[simp] theorem frame_proceed (s : State) (hw : s.still.frame.banks = wholeBanks) : (proceed s).still.frame = s.still.frame := by
  simp [proceed, hw]

@[simp] theorem frame_execSchedulerTick (work : SchedWork) (s : State) (hw : s.still.frame.banks = wholeBanks) :
    (stateAfter s (execSchedulerTick work s)).still.frame = s.still.frame := by
  simp [execSchedulerTick, hw]

@[simp] theorem frame_idle (s : State) (hw : s.still.frame.banks = wholeBanks) : (idle s).still.frame = s.still.frame := by
  have ht : ({ s with time := s.time + 40 } : State).still = s.still := rfl
  simp [idle, ht, hw]

/-! ### The operations of Sys2Proof/Machine/Dispatch.lean -/

/-! ### The operations of Sys2Proof/Machine/Step.lean -/

/-! ### Commands and steps -/

theorem banksWhole_iff (s : State) : s.banksWhole = true ↔ s.still.frame.banks = wholeBanks := by
  simp [State.banksWhole, still_def, wholeBanks, and_assoc]

/-- Every command is its `exec` function, whose frame lemma stands above. -/
theorem frame_exec (c : Instr) (s : State) (hw : s.still.frame.banks = wholeBanks) :
    (stateAfter s (exec c s)).still.frame = s.still.frame := by
  cases c <;> simp [exec, hw]

theorem stateAfter_eq {s t : State} {o : Out} (h : o = .next t) : stateAfter s o = t := by rw [h, stateAfter]

theorem frame_of_exec_eq {c : Instr} {s t : State} (hw : s.banksWhole = true) (h : exec c s = .next t) :
    t.still.frame = s.still.frame := by
  rw [← stateAfter_eq (s := s) h]
  exact frame_exec c s ((banksWhole_iff s).mp hw)

theorem banksWhole_of_frame_eq {s t : State} (hw : s.banksWhole = true) (h : t.still.frame = s.still.frame) :
    t.banksWhole = true := by
  rw [banksWhole_iff] at hw ⊢
  rw [h, hw]

/-- A command that leaves the still part leaves the basin. -/
theorem basin_of_still {s t : State} {o : Out} (hs : (stateAfter s o).still = s.still) (h : o = .next t) : t.basin = s.basin := by
  rw [stateAfter_eq h] at hs
  exact congrArg Still.basin hs

/-! ### The obligations -/

/-- Settles O44: a step is the idling or one command with the rest of the queue, and both keep the frame, the lengths of the
banks among it. -/
theorem stepKeepsBanks : Obligations.StepKeepsBanks := by
  intro s t hw h
  unfold step at h
  split at h
  next hp =>
    cases h
    exact banksWhole_of_frame_eq hw (frame_idle s ((banksWhole_iff s).mp hw))
  next c rest hp =>
    have hw' : ({ s with pending := rest } : State).banksWhole = true := hw
    exact banksWhole_of_frame_eq hw' (frame_of_exec_eq hw' h)

/-- Settles O57: each of these commands leaves the still part, and the basin is in it. -/
theorem basinIsOutOfReach : Obligations.BasinIsOutOfReach := by
  intro s t
  refine ⟨fun bar off w v => basin_of_still ?_, fun off l => basin_of_still ?_, fun off n => basin_of_still ?_,
    fun bar off => basin_of_still ?_, fun b => basin_of_still ?_, fun b => basin_of_still ?_, fun r q => basin_of_still ?_,
    fun e => basin_of_still ?_, fun e x => basin_of_still ?_, fun e => basin_of_still ?_, fun e => basin_of_still ?_⟩
  · exact still_execRegisterWrite bar off w v s
  · exact still_execBar2Write off l s
  · exact still_execBar2Read off n s
  · exact still_execLowWordRead bar off s
  · exact still_execDmaUpload b s
  · exact still_execDmaDownload b s
  · exact still_execDmaTransferComplete r q s
  · exact still_execTwoDJobBegin e s
  · exact still_execTwoDBurst e x s
  · exact still_execTwoDLineLanded e s
  · exact still_execTwoDJobComplete e s

/-- Settles O43: the waiting commands and the direction straps are in the frame. -/
theorem queueOnlyPopped : Obligations.QueueOnlyPopped := by
  intro c s t hw h
  have hf := frame_of_exec_eq hw h
  exact ⟨congrArg Frame.pending hf, congrArg Frame.aphyDir hf⟩

/-- Settles O2: with no command waiting a step is `idle`, which stays in OFF and goes on out of it. -/
theorem stepIdle : Obligations.StepIdle := by
  have step_idle (s : State) (hp : s.pending = []) : step s = .next (idle s) := by
    simp only [step, hp]
  refine ⟨fun s hp hb => ?_, fun s hp hb => ?_⟩
  · rw [step_idle s hp, idle, if_pos hb]
  · rw [step_idle s hp, idle, if_neg hb]

end Sys2Proof.Frames
end

section
/-! The host link and its barges (02): host memory as bytes, the checks of a barge, fences, the completion of a barge, the resets
of the function, and what each of its commands answers. -/
namespace Sys2Proof.HostLink
open Sys2Proof Sys2Proof.Machine Sys2Proof.Laws

/-! ### Sparse memories -/

section
variable {α : Type} {d : α}

theorem sparseRead_cons_same (b : Nat) (w : α) (m : List (Nat × α)) : sparseRead d ((b, w) :: m) b = w := if_pos rfl

theorem sparseRead_cons_ne {a b : Nat} (h : a ≠ b) (w : α) (m : List (Nat × α)) :
    sparseRead d ((b, w) :: m) a = sparseRead d m a := if_neg h

variable [DecidableEq α]

theorem sparseWfFrom_cons {lo b : Nat} {w : α} {m : List (Nat × α)} :
    sparseWfFrom d lo ((b, w) :: m) = true ↔ lo ≤ b ∧ w ≠ d ∧ sparseWfFrom d (b + 1) m = true := by
  simp [sparseWfFrom, and_assoc]

/-- Below its first address a canonical memory reads the unlisted value. -/
theorem sparseRead_of_lt {lo a : Nat} {m : List (Nat × α)} (hm : sparseWfFrom d lo m = true) (ha : a < lo) :
    sparseRead d m a = d := by
  induction m generalizing lo with
  | nil => rfl
  | cons c m ih =>
    obtain ⟨b, w⟩ := c
    obtain ⟨hb, -, hm⟩ := sparseWfFrom_cons.mp hm
    rw [sparseRead_cons_ne (by omega)]
    exact ih hm (by omega)

theorem sparseRead_sparseWrite {lo : Nat} {m : List (Nat × α)} (hm : sparseWfFrom d lo m = true) (a : Nat) (v : α) (c : Nat) :
    sparseRead d (sparseWrite d m a v) c = if c = a then v else sparseRead d m c := by
  induction m generalizing lo with
  | nil => by_cases hv : v = d <;> simp [sparseWrite, sparseRead, hv]
  | cons x m ih =>
    obtain ⟨b, w⟩ := x
    obtain ⟨-, -, hm⟩ := sparseWfFrom_cons.mp hm
    unfold sparseWrite
    by_cases hba : b < a
    · by_cases hc : c = b
      · simp [hba, hc, sparseRead, Nat.ne_of_lt hba]
      · simp [hba, hc, sparseRead, ih hm]
    · by_cases hv : v = d
      · by_cases hca : c = a
        · -- The address is unlisted: its cell, if any, is taken out, and the cells after it stand higher.
          have hrest : sparseRead d m a = d := sparseRead_of_lt hm (by omega)
          by_cases e : b = a
          · simp [e, hv, hca, hrest]
          · simp [hba, e, hv, hca, hrest, sparseRead, Ne.symm e]
        · by_cases e : b = a <;> simp [hba, e, hv, hca, sparseRead]
      · by_cases e : b = a <;> by_cases hca : c = a <;> simp [hba, e, hv, hca, sparseRead]

/-- Equal contents are equal data: the canonical form lists exactly the addresses that hold another value. -/
theorem eq_of_sparseRead_eq {lo : Nat} {m n : List (Nat × α)} (hm : sparseWfFrom d lo m = true) (hn : sparseWfFrom d lo n = true)
    (h : ∀ a, sparseRead d m a = sparseRead d n a) : m = n := by
  induction m generalizing lo n with
  | nil =>
    cases n with
    | nil => rfl
    | cons y n =>
      obtain ⟨b, w⟩ := y
      obtain ⟨-, hw, -⟩ := sparseWfFrom_cons.mp hn
      exact absurd ((sparseRead_cons_same b w n).symm.trans (h b).symm) hw
  | cons x m ih =>
    obtain ⟨b, w⟩ := x
    obtain ⟨-, hw, hm⟩ := sparseWfFrom_cons.mp hm
    have hb := h b
    rw [sparseRead_cons_same] at hb
    cases n with
    | nil => exact absurd hb hw
    | cons y n =>
      obtain ⟨b', w'⟩ := y
      obtain ⟨-, hw', hn'⟩ := sparseWfFrom_cons.mp hn
      have hb' := h b'
      rw [sparseRead_cons_same] at hb'
      obtain hlt | rfl | hgt := Nat.lt_trichotomy b b'
      · rw [sparseRead_cons_ne (by omega), sparseRead_of_lt hn' (by omega)] at hb
        exact absurd hb hw
      · obtain rfl : w = w' := by rw [hb, sparseRead_cons_same]
        refine congrArg _ (ih hm hn' fun a => ?_)
        by_cases hab : a = b
        · rw [hab, sparseRead_of_lt hm (Nat.lt_succ_self b), sparseRead_of_lt hn' (Nat.lt_succ_self b)]
        · rw [← sparseRead_cons_ne hab w m, h a, sparseRead_cons_ne hab]
      · rw [sparseRead_cons_ne (by omega), sparseRead_of_lt hm (by omega)] at hb'
        exact absurd hb'.symm hw'

end

/-! ### Memories of bytes -/

theorem Memory.read_write {m : List Host.Cell} (hm : Memory.wf m = true) (a : Nat) (v : Byte) (c : Nat) :
    Memory.read (Memory.write m a v) c = if c = a then v else Memory.read m c := sparseRead_sparseWrite hm a v c

theorem Memory.read_writeBytes_outside {m : List Host.Cell} (hm : Memory.wf m = true) {a c : Nat} {l : List Byte}
    (hc : c < a ∨ a + l.length ≤ c) : Memory.read (Memory.writeBytes m a l) c = Memory.read m c := by
  induction l generalizing m a with
  | nil => rfl
  | cons b l ih =>
    rw [List.length_cons] at hc
    rw [Memory.writeBytes, ih (Memory.write_wf a b hm) (by omega), Memory.read_write hm, if_neg (by omega)]

theorem Memory.readBytes_writeBytes {m : List Host.Cell} (hm : Memory.wf m = true) (a : Nat) (l : List Byte) :
    Memory.readBytes (Memory.writeBytes m a l) a l.length = l := by
  induction l generalizing m a with
  | nil => rfl
  | cons b l ih =>
    have hm' := Memory.write_wf a b hm
    have hfirst : Memory.read (Memory.writeBytes (Memory.write m a b) (a + 1) l) a = b := by
      rw [Memory.read_writeBytes_outside hm' (by omega), Memory.read_write hm, if_pos rfl]
    rw [Memory.writeBytes, List.length_cons, Memory.readBytes, hfirst, ih hm']

/-! ### The first failed check (R77) -/

theorem firstFail_none_cons (l : List (Option Reply)) : firstFail (none :: l) = firstFail l := rfl

theorem firstFail_some_cons (r : Reply) (l : List (Option Reply)) : firstFail (some r :: l) = some r := rfl

theorem firstFail_eq_none_iff (l : List (Option Reply)) : firstFail l = none ↔ ∀ x ∈ l, x = none := by
  induction l with
  | nil => simp [firstFail]
  | cons x l ih =>
    cases x with
    | none => simp [firstFail_none_cons, ih]
    | some r => simp [firstFail_some_cons]

/-- The checks before the one that answers have passed. -/
theorem firstFail_append_some {pre : List (Option Reply)} (h : ∀ x ∈ pre, x = none) (r : Reply) (post : List (Option Reply)) :
    firstFail (pre ++ some r :: post) = some r := by
  induction pre with
  | nil => rfl
  | cons x pre ih =>
    obtain ⟨rfl, hpre⟩ := List.forall_mem_cons.mp h
    exact ih hpre

theorem firstFail_eq_some_iff (l : List (Option Reply)) (r : Reply) :
    firstFail l = some r ↔ ∃ pre post, l = pre ++ some r :: post ∧ ∀ x ∈ pre, x = none := by
  refine ⟨fun h => ?_, fun ⟨pre, post, hl, hpre⟩ => hl ▸ firstFail_append_some hpre r post⟩
  induction l with
  | nil => cases h
  | cons x l ih =>
    cases x with
    | none =>
      obtain ⟨pre, post, rfl, hpre⟩ := ih h
      exact ⟨none :: pre, post, rfl, List.forall_mem_cons.mpr ⟨rfl, hpre⟩⟩
    | some q =>
      cases h
      exact ⟨[], l, rfl, by simp⟩

/-! ### Barges that are refused, and barges whose checks pass (R77) -/

section
variable {check : Barge → State → Option Reply} {apply : Barge → State → State}

theorem barge_refused (b : Barge) (s : State) (r : Reply) (h : check b s = some r) :
    barge check apply b s = .next (complete b r s) := by
  rw [barge, runBarge, h]

theorem bargeSync_refused (b : Barge) (s : State) (r : Reply) (h : check b s = some r) :
    bargeSync check apply b s = .next (syncLevels (complete b r s)) := by
  rw [bargeSync, runBarge, h, done]

theorem barge_executed (b : Barge) (s : State) (h : check b s = none) : barge check apply b s = .next (apply b s) := by
  rw [barge, runBarge, h]

theorem bargeSync_executed (b : Barge) (s : State) (h : check b s = none) :
    bargeSync check apply b s = .next (syncLevels (apply b s)) := by
  rw [bargeSync, runBarge, h, done]

end

/-! ### Fences (R82, R83) -/

/-- A fence that holds a value is one of the bank. -/
theorem lt_fences_of_fence_eq_some {s : State} {f : Nat} {w : Word64} (h : s.fence f = some w) : f < s.host.fences.length := by
  refine Nat.lt_of_not_le fun hf => ?_
  simp only [State.fence, List.getD_eq_getElem?_getD, List.getElem?_eq_none hf, Option.getD_none, reduceCtorEq] at h

theorem fence_setFence (s : State) {f : Nat} (hf : f < s.host.fences.length) (x : Option Word64) (g : Nat) :
    (s.mapHost fun h => { h with fences := h.fences.set f x }).fence g = if g = f then x else s.fence g := by
  by_cases e : g = f
  · simp [State.fence, e, List.getD_eq_getElem?_getD, hf]
  · simp [State.fence, e, List.getD_eq_getElem?_getD, List.getElem?_set_ne (Ne.symm e)]

theorem signalFence_of_lt {s : State} {f : Nat} {v w : Word64} (hf : s.fence f = some w) (hw : w < v) :
    signalFence f v s = s.mapHost fun h => { h with fences := h.fences.set f (some v) } := by
  simp only [signalFence, hf, if_pos hw]

theorem signalFence_of_not_lt {s : State} {f : Nat} {v w : Word64} (hf : s.fence f = some w) (hw : ¬ w < v) :
    signalFence f v s = s.mapCtr fun c => { c with fenceStale := inc32 c.fenceStale } := by
  simp only [signalFence, hf, if_neg hw]

theorem signalFence_of_absent {s : State} {f : Nat} (hf : s.fence f = none) (v : Word64) :
    signalFence f v s = s.mapCtr fun c => { c with fenceBad := inc32 c.fenceBad } := by
  simp only [signalFence, hf]

theorem fencesRise_of_fences_eq {s t : State} (h : t.host.fences = s.host.fences) : s.fencesRise t := by
  intro f v w hv hw
  rw [State.fence, h] at hw
  cases hv.symm.trans hw
  exact BitVec.le_refl _

theorem fencesRise_signalFence (f : Nat) (v : Word64) (s : State) : s.fencesRise (signalFence f v s) := by
  cases hf : s.fence f with
  | none => rw [signalFence_of_absent hf]; exact fencesRise_of_fences_eq rfl
  | some w =>
    by_cases hw : w < v
    · rw [signalFence_of_lt hf hw]
      intro g x y hx hy
      rw [fence_setFence s (lt_fences_of_fence_eq_some hf)] at hy
      by_cases e : g = f
      · rw [if_pos e] at hy
        cases hy
        cases hx.symm.trans (e ▸ hf)
        exact BitVec.le_of_lt hw
      · rw [if_neg e] at hy
        cases hx.symm.trans hy
        exact BitVec.le_refl _
    · rw [signalFence_of_not_lt hf hw]; exact fencesRise_of_fences_eq rfl

/-- A signal looks at the fences alone. -/
theorem signalFence_takeFree (f : Nat) (v : Word64) (s : State) : signalFence f v s.takeFree = (signalFence f v s).takeFree := by
  have hs : s.takeFree.fence f = s.fence f := rfl
  cases hf : s.fence f with
  | none => rw [signalFence_of_absent hf, signalFence_of_absent (hs.trans hf)]; rfl
  | some w =>
    by_cases hw : w < v
    · rw [signalFence_of_lt hf hw, signalFence_of_lt (hs.trans hf) hw]; rfl
    · rw [signalFence_of_not_lt hf hw, signalFence_of_not_lt (hs.trans hf) hw]; rfl

/-! ### What leaves the fences as they are -/

@[simp] theorem fences_sendMsi (v : Nat) (s : State) : (sendMsi v s).host.fences = s.host.fences := by
  unfold sendMsi
  split <;> rfl

@[simp] theorem fences_startTimer (v : Nat) (s : State) : (startTimer v s).host.fences = s.host.fences := rfl

@[simp] theorem fences_wake (s : State) : (wake s).host.fences = s.host.fences := by
  unfold wake
  (repeat' split) <;> rfl

@[simp] theorem fences_notify (v : Nat) (s : State) : (notify v s).host.fences = s.host.fences := by
  unfold notify
  dsimp only
  (repeat' split) <;> simp

@[simp] theorem fences_holdNote (v : Nat) (s : State) : (holdNote v s).host.fences = s.host.fences := by
  unfold holdNote
  dsimp only
  split <;> simp

@[simp] theorem fences_hostWrite (a : Nat) (l : List Byte) (s : State) : (s.hostWrite a l).host.fences = s.host.fences := rfl

@[simp] theorem fences_raise (src code : Nat) (data : List Byte) (s : State) :
    (raise src code data s).host.fences = s.host.fences := rfl

@[simp] theorem fences_imageFail (phase index status detail : Nat) (s : State) :
    (imageFail phase index status detail s).host.fences = s.host.fences := by
  unfold imageFail
  dsimp only
  split <;> simp

@[simp] theorem fences_noteImage (b : Barge) (r : Reply) (s : State) : (noteImage b r s).host.fences = s.host.fences := by
  unfold noteImage
  dsimp only
  (repeat' split) <;> simp

@[simp] theorem fences_writeRecord (h : HeldRecord) (quiet : Bool) (s : State) :
    (writeRecord h quiet s).host.fences = s.host.fences := by
  unfold writeRecord
  dsimp only
  (repeat' split) <;> simp

/-! ### The completion of a barge (R71, R72, R76) -/

theorem signals_iff {b : Barge} {r : Reply} (h : r.executed = true) :
    signals b r = true ↔ b.signalEn = true ∧ (r.status = stOk ∨ b.signalOnError = true) ∧ r.status ≠ stContainAborted := by
  simp [signals, h, and_assoc]

/-- Outside CONTAIN a completion touches the fences by its signal alone. -/
theorem fences_complete {s : State} (hc : s.mode.contain = false) (b : Barge) (r : Reply) :
    (complete b r s).host.fences =
      if signals b r then (signalFence b.signalFence (BitVec.ofNat 64 b.signalValue) s).host.fences else s.host.fences := by
  have hsignal :
      (if signals b r then signalFence b.signalFence (BitVec.ofNat 64 b.signalValue) s.takeFree else s.takeFree).host.fences =
        if signals b r then (signalFence b.signalFence (BitVec.ofNat 64 b.signalValue) s).host.fences else s.host.fences := by
    rw [signalFence_takeFree]
    split <;> rfl
  rw [← hsignal]
  simp only [complete, takeFree_mode, hc, Bool.false_and, Bool.false_eq_true, if_false]
  split
  · exact fences_noteImage ..
  · split
    · exact fences_writeRecord ..
    · exact fences_holdNote ..

/-! ### What a reset of the function reaches (R50) -/

/-- The state with a fixed pound and fixed concentrators: what is left to compare is all that the queues and the bindings of
rings cannot reach. -/
def besides (p : Pound) (e : Events) (s : State) : State := { s with pound := p, events := e }

theorem besides_self (s : State) : besides s.pound s.events s = s := rfl

section
variable {p : Pound} {e : Events}

theorem besides_mapPound (s : State) (f) : besides p e (s.mapPound f) = besides p e s := rfl

theorem besides_mapQueue (s : State) (q f) : besides p e (s.mapQueue q f) = besides p e s := rfl

theorem besides_mapEvents (s : State) (f) : besides p e (s.mapEvents f) = besides p e s := rfl

theorem besides_mapSource (s : State) (host : Bool) (n f) : besides p e (s.mapSource host n f) = besides p e s := rfl

theorem besides_foldl {α : Type} {f : State → α → State} (hf : ∀ t x, besides p e (f t x) = besides p e t)
    (l : List α) (s : State) : besides p e (l.foldl f s) = besides p e s :=
  List.foldlRecOn (motive := fun t => besides p e t = besides p e s) l f rfl fun t ht x _ => (hf t x).trans ht

theorem besides_levelChanged (q old : Nat) (s : State) : besides p e (levelChanged q old s) = besides p e s := by
  unfold levelChanged
  dsimp only
  (repeat' split) <;> rfl

theorem besides_queueLevelSource (q : Nat) (s : State) : besides p e (queueLevelSource q s) = besides p e s := by
  unfold queueLevelSource
  split <;> rfl

theorem besides_changeQueue (q : Nat) (freed : List Nat) (f : Queue → Queue) (s : State) :
    besides p e (changeQueue q freed f s) = besides p e s := by
  rw [changeQueue, besides_queueLevelSource, besides_levelChanged]
  rfl

theorem besides_deleteQueue (q : Nat) (s : State) : besides p e (deleteQueue q s) = besides p e s := by
  rw [deleteQueue, besides_mapQueue, qFlush]
  exact besides_changeQueue ..

/-- The host link after a reset of the function (R50). -/
def resetLink (h : HostLink) : HostLink :=
  { h with
    rings := h.rings.zipIdx.map fun (r, n) => if n = 0 then resetRing0 r else {}
    msixAddr := List.replicate 64 0, msixData := List.replicate 64 0, msixMask := List.replicate 64 true
    pba := List.replicate 64 false, msixEnable := false, msixFnMask := false
    ctr := { h.ctr with hostResets := inc32 h.ctr.hostResets }
    dstate := .d0 }

theorem besides_functionReset (s : State) : besides p e (functionReset s) = besides p e (s.mapHost resetLink) := by
  unfold functionReset
  extract_lets s1 s2 s3 s4
  have hdelete : besides p e s2 = besides p e s1 :=
    besides_foldl (fun t n => by rw [apply_ite (besides p e), besides_deleteQueue, ite_self]) _ _
  have hunbind : besides p e s3 = besides p e s2 :=
    besides_foldl (fun t k => by rw [apply_ite (besides p e), unbindConsumer, besides_mapQueue, ite_self]) _ _
  have hevents : besides p e (raiseInternal 53 0 [] s4) = besides p e s3 :=
    (besides_mapSource s4 ..).trans (besides_mapEvents s3 _)
  rw [hevents, hunbind, hdelete]
  rfl

end

/-- A reset of the function reaches the host link, the pound and the concentrators, and nothing else. -/
theorem functionReset_eq (s : State) : ∃ p e, functionReset s = besides p e (s.mapHost resetLink) :=
  ⟨_, _, (besides_self _).symm.trans (besides_functionReset s)⟩

theorem host_functionReset (s : State) : (functionReset s).host = resetLink s.host := by
  obtain ⟨p, e, h⟩ := functionReset_eq s
  rw [h]
  rfl

/-- Ring 0 keeps its set-up, every other ring is deleted (R50). -/
theorem ring_functionReset {s : State} {n : Nat} (hn : n < s.host.rings.length) :
    (functionReset s).ring n = if n = 0 then resetRing0 (s.ring 0) else {} := by
  have hget : (resetLink s.host).rings[n]? = some (if n = 0 then resetRing0 s.host.rings[n] else {}) := by
    simp [resetLink, List.getElem?_zipIdx, List.getElem?_eq_getElem hn]
  rw [State.ring, host_functionReset, at_, List.getD_eq_getElem?_getD, hget]
  by_cases h0 : n = 0
  · subst h0
    simp [State.ring, at_, hn]
  · simp [h0]

theorem rings_length_of_banksWhole {s : State} (hw : s.banksWhole = true) : s.host.rings.length = 16 := by
  simp only [State.banksWhole, Bool.and_eq_true, decide_eq_true_eq, List.cons.injEq] at hw
  obtain ⟨-, hr, -⟩ := hw
  exact hr

/-! ### The obligations -/

/-- Settles O41: a signal takes a higher value, and every other write to FENCE_SIGNAL moves a counter alone. -/
theorem fenceSignals : Obligations.FenceSignals := by
  refine ⟨fun f v w s hf hw => ?_, fun f v w s hf hw => ?_, fun f v s hf => ?_, fun f v s => rfl, fun f wide v s t h => ?_⟩
  · have hset := fence_setFence s (lt_fences_of_fence_eq_some hf) (some v)
    refine ⟨_, congrArg Host.Outcome.next (signalFence_of_lt hf hw), ?_, fun g hg => ?_, rfl⟩
    · rw [hset, if_pos rfl]
    · rw [hset, if_neg hg]
  · exact congrArg Host.Outcome.next (signalFence_of_not_lt hf hw)
  · exact congrArg Host.Outcome.next (signalFence_of_absent hf v)
  · cases wide with
    | true => cases h; exact fencesRise_signalFence f v s
    | false => cases h; exact fencesRise_of_fences_eq rfl

/-- Settles O42: by induction on the list of checks. -/
theorem firstStatusApplies : Obligations.FirstStatusApplies := ⟨firstFail_eq_some_iff, firstFail_eq_none_iff⟩

/-- Settles O45: the reads of a written memory, and the canonical form's listing of what is not the unlisted value. -/
theorem memoryLaws : Obligations.MemoryLaws := by
  refine ⟨fun m a v hm => ⟨?_, fun c hc => ?_⟩, fun m n hm hn h => eq_of_sparseRead_eq hm hn h⟩
  · rw [Memory.read_write hm, if_pos rfl]
  · rw [Memory.read_write hm, if_neg hc]

/-- Settles O46: by induction on the bytes, each of which is outside the run that follows it. -/
theorem runsOfBytes : Obligations.RunsOfBytes := fun _ a l hm =>
  ⟨Memory.readBytes_writeBytes hm a l, fun _ hc => Memory.read_writeBytes_outside hm hc⟩

/-- Settles O49: the signal is the only part of a completion that touches the fences. -/
theorem signalFenceOfABarge : Obligations.SignalFenceOfABarge := by
  intro b r s hexec hc
  simp only [fences_complete hc, signals_iff hexec]

/-- Settles O58: what is outside the pound and the concentrators is the state with its host link reset. -/
theorem functionResetFrame : Obligations.FunctionResetFrame := by
  intro s hw
  have hlen := rings_length_of_banksWhole hw
  have hring0 : (functionReset s).ring 0 = resetRing0 (s.ring 0) := ring_functionReset (by omega)
  have hrest (n : Nat) (h1 : 1 ≤ n) (h15 : n ≤ 15) : ((functionReset s).ring n).state = .absent := by
    rw [ring_functionReset (by omega), if_neg (by omega)]
  refine ⟨functionReset s, rfl, hrest, ?_⟩
  rw [hring0, host_functionReset]
  obtain ⟨p, e, h⟩ := functionReset_eq s
  rw [h]
  and_intros <;> rfl

/-- Settles O60: with length, reserved bytes and range in order, the fence's presence alone decides. -/
theorem fenceCreate : Obligations.FenceCreate := by
  refine ⟨fun b s hlen hres hfence => ?_, fun f v s hf => ⟨?_, fun g hg => ?_⟩⟩
  · have hcheck : fenceCreateCheck b s = failIf (s.fence (b.pay 0 2)).isSome (wrongStateFree s) := by
      have hrange : decide (255 < b.pay 0 2) = false := decide_eq_false (by omega)
      simp only [fenceCreateCheck, lenIs, hlen, hres, fieldIf, hrange]
      cases (s.fence (b.pay 0 2)).isSome <;> rfl
    refine ⟨fun habsent => ?_, fun hsome => ⟨s.mode.shown + Config.freeNat s.free % 256 * 256, ?_⟩⟩
    · exact barge_executed (apply := fenceCreateApply) b s (by rw [hcheck, habsent]; rfl)
    · exact barge_refused b s (wrongStateFree s) (by rw [hcheck, hsome]; rfl)
  · rw [fence_setFence s hf, if_pos rfl]
  · rw [fence_setFence s hf, if_neg hg]

/-- Settles O1: a step takes the command off the queue. -/
theorem stepRunsFront : Obligations.StepRunsFront := fun _ _ _ => rfl

/-- Settles O3: every command's function answers a next state; that of BANK_REBUILD_COMPLETE does so in each of its cases. -/
theorem everyCommandAnswers : Obligations.EveryCommandAnswers := by
  intro c s
  cases c with
  | bankRebuildComplete =>
    simp only [exec, execBankRebuildComplete]
    split <;> exact ⟨_, rfl⟩
  | _ => exact ⟨_, rfl⟩

/-- Settles O4: the banks of the reset state are lists of given lengths, made of absent or disabled entries. -/
theorem resetState : Obligations.ResetState := by
  have hfences : State.reset.host.fences = List.replicate 256 none := rfl
  have hsources : State.reset.events.host = (List.range 256).map fun n => { claimed := State.levelSources.contains n } := rfl
  have hqueues : State.reset.pound.queues = List.replicate 256 {} := rfl
  refine ⟨?_, reset_memoriesWf, rfl, rfl, fun f => ?_, rfl, ?_, ?_⟩
  · rw [Frames.banksWhole_iff]
    simp only [Frames.still_def, State.reset, wholeBanks, List.length_map, List.length_range, List.length_replicate,
      List.length_append, List.length_cons, List.length_nil]
  · rw [State.fence, hfences, List.getD_eq_getElem?_getD, List.getElem?_replicate]
    split <;> rfl
  · rw [hsources, List.any_map]
    exact List.any_eq_false.mpr fun _ _ => Bool.false_ne_true
  · rw [hqueues]
    exact List.all_eq_true.mpr fun q hq => by rw [List.eq_of_mem_replicate hq]; rfl

/-- Settles O5: with its checks passed, each of these barges is its effect. -/
theorem ringAndFenceBarges : Obligations.RingAndFenceBarges :=
  ⟨barge_executed, barge_executed, barge_executed, barge_executed, barge_executed, barge_executed, barge_executed,
    bargeSync_executed⟩

/-- Settles O19: each clause's conditions choose one branch of the doorbell or of the fetch. -/
theorem doorbells : Obligations.Doorbells := by
  refine ⟨fun n v s hr hv => ?_, fun n v s hr hv => ?_, fun n v s hr hv hfree => ?_, fun n s hd hc hn hb => ?_,
    fun n s hd hc hn => ?_, fun n s => rfl⟩
  · simp only [exec, execSqTailDb, if_neg hr, if_neg (Nat.not_le.mpr hv)]
  · simp only [exec, execSqTailDb, if_neg hr, if_pos hv]
  · simp only [exec, execCqHeadDb, if_neg hr, decide_eq_false (Nat.not_le.mpr hv), decide_eq_false (Nat.not_lt.mpr hfree),
      Bool.or_self, Bool.false_eq_true, if_false]
  · simp [exec, execBargeFetch, hd, hc, hn, hb]
  · simp [exec, execBargeFetch, hd, hc, hn]

/-- Settles O21: resets, entries and unmasking have one effect; the other rows act under the clause's condition. -/
theorem resetsAndPowerStates : Obligations.ResetsAndPowerStates := by
  refine ⟨fun s => rfl, fun s => rfl, fun s => rfl, fun s => rfl, fun s hd => ?_, fun s hd hp => ?_, fun s hw => ?_,
    fun n s => rfl⟩
  · simp only [exec, execD0Return, hd]
  · simp only [exec, execPmeResend, hd, hp, and_self, if_true]
  · simp only [exec, execWakeOutRelease, hw, if_true]

/-- Settles O38: a refused barge is completed and nothing else; the rows of `bargeSync` then bring the level sources up to date. -/
theorem refusedBarges : Obligations.RefusedBarges :=
  ⟨barge_refused, barge_refused, barge_refused, barge_refused, barge_refused, barge_refused, barge_refused,
    bargeSync_refused, bargeSync_refused, barge_refused, bargeSync_refused, bargeSync_refused, barge_refused,
    bargeSync_refused, barge_refused, barge_refused, barge_refused, barge_refused, barge_refused, barge_refused,
    barge_refused, barge_refused, barge_refused, barge_refused, barge_refused, barge_refused, barge_refused, barge_refused,
    barge_refused, bargeSync_refused, bargeSync_refused, bargeSync_refused, bargeSync_refused, bargeSync_refused,
    bargeSync_refused, barge_refused, barge_refused, bargeSync_refused, bargeSync_refused, bargeSync_refused,
    bargeSync_refused, bargeSync_refused, bargeSync_refused, barge_refused, bargeSync_refused, barge_refused, barge_refused,
    barge_refused, barge_refused, barge_refused, barge_refused, barge_refused, bargeSync_refused, bargeSync_refused,
    bargeSync_refused, bargeSync_refused, bargeSync_refused, bargeSync_refused, barge_refused, bargeSync_refused,
    bargeSync_refused, bargeSync_refused, bargeSync_refused, barge_refused, barge_refused, barge_refused, barge_refused,
    barge_refused, barge_refused, bargeSync_refused, bargeSync_refused, barge_refused, barge_refused, barge_refused,
    barge_refused, barge_refused, barge_refused, barge_refused, barge_refused, barge_refused, barge_refused, barge_refused,
    barge_refused, barge_refused, barge_refused, barge_refused, barge_refused, barge_refused, bargeSync_refused,
    barge_refused, barge_refused, barge_refused, barge_refused, barge_refused, barge_refused, barge_refused, barge_refused,
    barge_refused, bargeSync_refused, bargeSync_refused, barge_refused, bargeSync_refused, bargeSync_refused⟩

/-- Settles O40: an access of a bad width or place is refused before it is made. -/
theorem badAccesses : Obligations.BadAccesses := by
  have hbad (off w : Nat) (h : ¬(w = 4 ∧ off % 4 = 0) ∧ ¬(w = 8 ∧ off % 8 = 0)) : goodAccess off w = false := by
    simpa [goodAccess] using h
  refine ⟨fun off w v s h => ?_, fun off w s h => ?_⟩
  · simp only [exec, execRegisterWrite, hbad off w h]
    rfl
  · rw [readAccess0, hbad off w h]
    rfl

end Sys2Proof.HostLink
end

section
/-! Surfaces and device memory (03): the place of a device address, what the memory and surface opcodes answer, and the ends of the
jobs of the copier, the seal computation, the flash, the security engine and the self-test. -/
namespace Sys2Proof.Surfaces
open Sys2Proof Sys2Proof.Machine Sys2Proof.HostLink

/-! ### The place of a device address (R96) -/

/-- An address is its granule, its page in the granule and its byte in the page. -/
theorem address_eq_granule_page_byte (a : Nat) :
    a = 61440 * granuleOf a + (1920 * (a % 61440 / 1920) + a % 61440 % 1920) := by
  rw [Nat.div_add_mod, granuleOf, Nat.div_add_mod]

/-- A granule has 32 pages. -/
theorem pageInGranule_lt (a : Nat) : a % 61440 / 1920 < 32 := by omega

/-- Channel and page hold the granule and the page in the granule: the channel is the device and the low bit of the page in the
granule, the page the granule's row and the bits above, for which 16 leaves room. -/
theorem pageOf_eq_iff (a c : Nat) :
    pageOf a = pageOf c ↔ granuleOf a = granuleOf c ∧ a % 61440 / 1920 = c % 61440 / 1920 := by
  have ha := pageInGranule_lt a
  have hc := pageInGranule_lt c
  simp only [pageOf, deviceOf, Prod.mk.injEq]
  omega

/-- Four devices of two channels each. -/
theorem pageOf_channel_lt (a : Nat) : (pageOf a).1 < 8 := by
  simp only [pageOf, deviceOf]
  omega

/-- Each granule below `4 * n` has its 16 pages of a channel below page `16 * n`. -/
theorem pageOf_page_lt {a n : Nat} (h : granuleOf a < 4 * n) : (pageOf a).2 < 16 * n := by
  have hi := pageInGranule_lt a
  simp only [pageOf]
  omega

/-! ### Seal computations (R125) -/

/-- Taking a seal computation off its list leaves every surface to be found. -/
theorem surfaceAt_with_seals (s : State) (l : List SealJob) (n : Nat) :
    ({ s with seals := l } : State).surfaceAt n = s.surfaceAt n := rfl

/-! ### The obligations -/

/-- Settles O56: channel and page give the granule and the page in it, and with the byte these make up the address. -/
theorem pagesHoldDistinctBytes : Obligations.PagesHoldDistinctBytes := by
  refine ⟨fun a c hpage hbyte => ?_, fun a ha => ⟨pageOf_channel_lt a, pageOf_page_lt (n := 32768) ?_⟩, rfl⟩
  · obtain ⟨hgranule, hindex⟩ := (pageOf_eq_iff a c).mp hpage
    rw [address_eq_granule_page_byte a, address_eq_granule_page_byte c, hgranule, hindex, hbyte]
  · exact (Nat.div_lt_iff_lt_mul (by decide)).mpr ha

/-- Settles O7: with its checks passed, each of these barges is its effect; that of MEM_ALLOC is the region found. -/
theorem memoryBarges : Obligations.MemoryBarges := by
  refine ⟨fun b s r t hcheck hplace => ?_, bargeSync_executed, barge_executed, barge_executed, barge_executed, barge_executed,
    barge_executed, barge_executed, barge_executed⟩
  have happly : memAllocApply b s = complete b (.ok (r.base * 61440)) t := by rw [memAllocApply, hplace]
  rw [← happly]
  exact barge_executed b s hcheck

/-- Settles O36: the job found, its surface and the result of its work choose one branch of each of these ends. -/
theorem jobEnds : Obligations.JobEnds := by
  refine ⟨fun r q d s hjob => ?_, fun r q j s hjob hnone => ?_, fun r q j x w t s hjob hx hlive hhandle hlost hseals => ?_,
    fun j s hjob hpatch => ?_, fun l s hsigning => ?_, fun k i t b s htest hbarge hrestore => ?_⟩
  · simp only [exec, execDmaTransferComplete, hjob]
  · simp only [exec, execSealComputeComplete, hjob, surfaceAt_with_seals, hnone]
  · simp only [exec, execSealComputeComplete, hjob, surfaceAt_with_seals, hx, hlive, hhandle, hlost, hseals, bne_self_eq_false,
      Bool.not_true, Bool.or_self, Bool.false_eq_true, if_false]
  · simp only [exec, execFlashProgramComplete, hjob, hpatch, Bool.not_true, Bool.false_eq_true, if_false]
  · simp only [exec, execSigningComplete, hsigning]
  · simp only [exec, execBistComplete, htest, hbarge, hrestore, done, b2n, if_true, Option.isNone_some, Bool.or_self,
      Bool.false_eq_true, if_false]

end Sys2Proof.Surfaces
end

section
/-! Layers, pods and the lock (04): the outcome of an admission, the course of a commit, the pods, and the instants of a line that
begin or end its composition. -/
namespace Sys2Proof.Layers
open Sys2Proof Sys2Proof.Machine Sys2Proof.Laws Sys2Proof.HostLink

/-- A barge whose checks pass is its effect, in whatever form the effect is known. -/
theorem barge_executed_eq {check : Barge → State → Option Reply} {apply : Barge → State → State} {b : Barge} {s t : State}
    (hcheck : check b s = none) (happly : apply b s = t) : barge check apply b s = .next t :=
  happly ▸ barge_executed b s hcheck

/-! ### The effects of the layer and commit opcodes (R131 to R135, R140, R154, R160) -/

theorem layerAssignApply_of_admitted {b : Barge} {s : State} (h : (runAdmission s (assignRequest b s)).1 = none) :
    layerAssignApply b s =
      complete b { report := some (runAdmission s (assignRequest b s)).2 } (assignRequest b s).new := by
  simp only [layerAssignApply, h]

theorem commitApply_of_configured {b : Barge} {s : State} (h : ((takeCommit b s).2.pipe (b.pay 0 1)).state = .configured) :
    commitApply b s =
      finishCommit (b.pay 0 1) (takeCommit b s).1 (lockCommit (b.pay 0 1) (some (takeCommit b s).1) (takeCommit b s).2).1
        (lockCommit (b.pay 0 1) (some (takeCommit b s).1) (takeCommit b s).2).2 := by
  simp only [commitApply, if_pos h]

/-- Off CONFIGURED a commit waits for a lock: with those of the lock if it is empty, in the shadow bank if that is free, else
behind the one there. -/
theorem commitApply_of_not_configured {b : Barge} {s : State}
    (h : ((takeCommit b s).2.pipe (b.pay 0 1)).state ≠ .configured) :
    commitApply b s =
      (takeCommit b s).2.mapPipe (b.pay 0 1) fun x =>
        if (takeCommit b s).1.groups = [] ∧ (takeCommit b s).1.releases = [] then
          { x with atLock := x.atLock ++ [.emptyCommit b] }
        else if ((takeCommit b s).2.pipe (b.pay 0 1)).shadow = none then { x with shadow := some (takeCommit b s).1 }
        else { x with waiting := x.waiting ++ [(takeCommit b s).1] } := by
  simp only [commitApply, if_neg h, Bool.and_eq_true, List.isEmpty_iff, Option.isNone_iff_eq_none]
  split
  · rfl
  · split <;> rfl

theorem damageDeclareApply_of_running {b : Barge} {s : State} (h : (s.pipe (b.pay 0 1)).state = .running) :
    damageDeclareApply b s = s.mapPipe (b.pay 0 1) fun p => { p with atLock := p.atLock ++ [.damage b] } := if_pos h

theorem damageDeclareApply_of_not_running {b : Barge} {s : State} (h : (s.pipe (b.pay 0 1)).state ≠ .running) :
    damageDeclareApply b s = complete b .ok s := if_neg h

/-! ### Pods (R158) -/

/-- A live pod is one of the bank. -/
theorem lt_pods_of_live {s : State} {k : Nat} (h : (s.pod k).live = true) : k < s.pods.length := by
  refine Nat.lt_of_not_le fun hk => ?_
  have hdefault : s.pod k = {} := by rw [State.pod, at_, List.getD_eq_getElem?_getD, List.getElem?_eq_none hk]; rfl
  rw [hdefault] at h
  cases h

/-- A POD_DELETE of the right form is checked for its pod and for a carried change of it. -/
theorem podDeleteCheck_of_form {b : Barge} {s : State} (hlen : b.payloadLen = 8) (hres : reservedBytes b 1 7 = none)
    (hpod : b.pay 0 1 ≤ 63) :
    podDeleteCheck b s =
      firstFail [failIf (!(s.pod (b.pay 0 1)).live) (badHandle (b.pay 0 1)),
        failIf (s.pipes.any fun q => q.carried.any fun g => g.pod == b.pay 0 1) (freeReply stBusy s)] := by
  have hlength : lenIs b 8 = none := by rw [lenIs, hlen]; rfl
  have hfield : fieldIf b 0 1 (decide (63 < b.pay 0 1)) = none := by
    rw [fieldIf, decide_eq_false (Nat.not_lt.mpr hpod)]; rfl
  simp only [podDeleteCheck, hlength, hres, hfield, firstFail_none_cons]

/-! ### The instants of a line (R136, R166, R177, R224 to R226, R548) -/

theorem lock_of_no_retime {p : Nat} {s : State} (hrun : (s.pipe p).state = .running)
    (hretime : ((takeLead p s).pipe p).retime = none) : lock p s = frameLock p (takeLead p s) := by
  rw [lock, if_neg (not_not_intro hrun)]
  simp only [hretime]

/-- No error comes with a fetch that lists none. -/
theorem addSealUpsets_addUpsets_nil (s : State) : addSealUpsets [] (addUpsets [] s) = s := rfl

/-! ### The obligations -/

/-- Settles O59: a live pod is one of the bank, so clearing it is seen; the checks left are its presence and a carried change. -/
theorem podDelete : Obligations.PodDelete := by
  intro b s hlen hres hpod
  have hcheck := podDeleteCheck_of_form (s := s) hlen hres hpod
  refine ⟨fun hdead => ?_, fun hlive hcarried => ⟨Config.freeNat s.free, ?_⟩, fun hlive hcarried => ⟨?_, ?_⟩⟩
  · exact barge_refused b s (badHandle (b.pay 0 1)) (by rw [hcheck, hdead]; rfl)
  · exact barge_refused b s (freeReply stBusy s) (by rw [hcheck, hlive, hcarried]; rfl)
  · exact barge_executed (apply := podDeleteApply) b s (by rw [hcheck, hlive, hcarried]; rfl)
  · rw [pod_mapPod_self s _ _ (lt_pods_of_live hlive)]
    exact ⟨rfl, rfl, fun k hk => pod_mapPod_ne s _ k _ hk⟩

/-- Settles O8: with its checks passed each of these barges is its effect, of which the clause's conditions choose the branch. -/
theorem layerBarges : Obligations.LayerBarges := by
  refine ⟨fun b s hcheck hadm => ?_, barge_executed, barge_executed, barge_executed, barge_executed, fun b s hcheck hconf => ?_,
    fun b s hcheck hconf hgroups hreleases => ?_, fun b s hcheck hconf hfull hshadow => ?_,
    fun b s hcheck hconf hfull hshadow => ?_, fun b s hcheck hrun => ?_, fun b s hcheck hrun => ?_, barge_executed,
    fun p c s hshadow hopen hcontain => ?_⟩
  · exact barge_executed_eq hcheck (layerAssignApply_of_admitted hadm)
  · exact barge_executed_eq hcheck (commitApply_of_configured hconf)
  · refine barge_executed_eq hcheck ((commitApply_of_not_configured hconf).trans ?_)
    simp only [hgroups, hreleases, and_self, if_true]
  · refine barge_executed_eq hcheck ((commitApply_of_not_configured hconf).trans ?_)
    simp only [if_neg (Classical.not_and_iff_not_or_not.mpr hfull), hshadow, if_true]
  · refine barge_executed_eq hcheck ((commitApply_of_not_configured hconf).trans ?_)
    simp only [if_neg (Classical.not_and_iff_not_or_not.mpr hfull), if_neg hshadow]
  · exact barge_executed_eq hcheck (damageDeclareApply_of_running hrun)
  · exact barge_executed_eq hcheck (damageDeclareApply_of_not_running hrun)
  · simp only [exec, execShadowBankComplete, hshadow, hopen, hcontain, Bool.or_self, Bool.false_eq_true, if_false]

/-- Settles O23: the line's record, its half and the window choose one branch of each of these instants. -/
theorem lineInstants : Obligations.LineInstants := by
  refine ⟨fun p s hrun hretime => ?_, fun p h y s hcomposing hhalf hline hnew hfirst => ?_,
    fun p h y s hnext hbegun halive hrec hraced => ?_, fun p h y s hnext hbegun halive hrec => ?_,
    fun p h y r s hfind hopened => ?_, fun p h y r s hfind hwaiting => ?_, fun p h y l s hgen hhalf hline => ?_,
    fun p h y r s hrec hlanded hwaiting hskipped hbegun => ?_⟩
  · simp only [exec, execLock, done, lock_of_no_retime hrun hretime]
  · simp only [exec, execLineRelease, endLine, done, hcomposing, decide_eq_false (Nat.not_le.mpr hhalf),
      decide_eq_false (Nat.not_le.mpr hline), hnew, hfirst, false_and, Option.isSome_none, Bool.not_true, Bool.or_self,
      Bool.false_eq_true, if_false]
  · have hfound := Option.isNone_eq_false_iff.mpr hrec
    simp only [exec, execFetchReturn, endLine, done, addSealUpsets_addUpsets_nil, hnext, hbegun, halive, hfound, hraced,
      bne_self_eq_false, List.isEmpty_nil, Bool.not_true, Bool.or_self, Bool.false_eq_true, if_false, if_true]
  · have hfound := Option.isNone_eq_false_iff.mpr hrec
    simp only [exec, execDeadline, endLine, done, hnext, hbegun, halive, hfound, bne_self_eq_false, Bool.or_self, Bool.and_self,
      Bool.false_eq_true, if_false, if_true]
  · simp only [exec, execLineWrite, endLine, done, hfind, hopened, if_true]
  · simp only [exec, execWindowOpen, endLine, done, hfind, hwaiting, Bool.false_eq_true, if_false]
  · simp only [exec, execWindowClose, done, hgen, decide_eq_false (Nat.not_le.mpr hhalf), decide_eq_false (Nat.not_le.mpr hline),
      Bool.not_true, Bool.or_self, Bool.false_eq_true, if_false]
  · simp only [exec, execLandingCheck, done, hrec, hlanded, hwaiting, hskipped, hbegun, Bool.and_false, Bool.false_and,
      Bool.or_self, Bool.false_eq_true, if_false]

end Sys2Proof.Layers
end

section
/-! The basin and the scan-out (07): the instants of a frame at the scan-out and of a lane. -/
namespace Sys2Proof.Scanout
open Sys2Proof Sys2Proof.Machine

/-! ### What ends or begins a frame (R226, R229, R248) -/

theorem execVerticalBlanking_of_not_generating {p : Nat} {s : State} (hgen : generating (s.pipe p) = false) :
    execVerticalBlanking p s = done s := by
  rw [execVerticalBlanking, hgen]; rfl

/-- The blanking of a driven frame hands over its records, measures it, clears what its halves keep, and probes and retrains
the links. -/
theorem execVerticalBlanking_of_generating {p : Nat} {s : State} (hgen : generating (s.pipe p) = true) :
    execVerticalBlanking p s =
      done ((fun t : State => t.mapBasin fun x => { x with recorded := x.recorded.filter fun r => r.1 != p })
        ((fun t : State => (t.pipe p).cfg.linkList.foldl (fun u l => startRetrain l u) t)
          ((fun t : State => (List.range (t.pipe p).cfg.links).foldl (fun u h => checkProbe p h u) t)
            ((measureLatency p (frameEvents p (handRecords p s))).mapPipe p fun x =>
              { x with halves := x.halves.map (Half.endFrame (s.pipeCtr p).frames (drivesBlack (s.pipe p))) })))) := by
  rw [execVerticalBlanking, hgen]; rfl

theorem execLastPixelRepeat_of_driven {p h y x : Nat} {s : State} (hgen : generating (s.pipe p) = true)
    (hblack : drivesBlack (s.pipe p) = false) (hlink : h < (s.pipe p).cfg.links) (hline : y < (s.pipe p).cfg.vActive)
    (hpixel : x < (s.pipe p).cfg.wl) : execLastPixelRepeat p h y x s = .next (lastPixelRepeat p h y x s) := by
  simp only [execLastPixelRepeat, hgen, hblack, decide_eq_false (Nat.not_le.mpr hlink), decide_eq_false (Nat.not_le.mpr hline),
    decide_eq_false (Nat.not_le.mpr hpixel), Bool.not_true, Bool.or_self, Bool.false_eq_true, if_false]

theorem execBlackFramesEnd_of_last {p n : Nat} {s : State} (hblack : (s.pipe p).black = some (n, .disable)) (hlast : n ≤ 1) :
    execBlackFramesEnd p s = done (stopPipe p s) := by
  simp only [execBlackFramesEnd, hblack, if_pos hlast]

/-! ### The lanes (R234, R235, R548) -/

theorem execLaneFaultDeclared_of_detected {l c : Nat} {s : State}
    (hfind : (s.lanes.detected.find? fun d => d.1 == l) = some (l, c)) :
    execLaneFaultDeclared l s = done (declareLane l c s) := by
  simp only [execLaneFaultDeclared, hfind]

theorem execTakeoverSpareStart_of_no_handover {s : State} (hnone : s.lanes.handover = none) :
    execTakeoverSpareStart s = done (nextTakeover s) := by
  simp only [execTakeoverSpareStart, hnone]

/-- The incoming lane of a handover of a composing pipe is loaded, and the handover line chosen. -/
theorem execHandoverLoaded_of_composing {x : Handover} {p h : Nat} {s : State} (hsome : s.lanes.handover = some x)
    (hhandover : x.takeover = false) (hloaded : x.loaded = false) (hplace : placeOfLane s x.lane = some (p, h))
    (hcomposing : (s.pipe p).composing = true) :
    execHandoverLoaded s =
      done (s.mapLanes fun l => { l with handover := some { x with loaded := true, line := handoverLine s p } }) := by
  simp only [execHandoverLoaded, hsome, hhandover, hloaded, hplace, hcomposing, Bool.or_self, Bool.false_eq_true, if_false, if_true]

/-! ### The obligations -/

/-- Settles O24: the pipe, the basin and the handover in progress choose one branch of each of these instants; frame start, towing
and the detection of a lane fault have one. -/
theorem frameAndLaneInstants : Obligations.FrameAndLaneInstants := by
  refine ⟨fun _ _ => rfl, fun _ _ => execVerticalBlanking_of_not_generating, fun _ _ => execVerticalBlanking_of_generating,
    fun _ _ _ _ _ => execLastPixelRepeat_of_driven, fun _ _ => rfl, fun _ _ _ => execBlackFramesEnd_of_last,
    fun f h s hfailed hshadow => ?rebuilt, fun _ _ _ => rfl, fun _ _ _ => execLaneFaultDeclared_of_detected,
    fun _ => execTakeoverSpareStart_of_no_handover, fun _ _ _ _ => execHandoverLoaded_of_composing⟩
  case rebuilt => simp only [exec, execBankRebuildComplete, done, hfailed, hshadow]

end Sys2Proof.Scanout
end

section
/-! Pipes and links (08): what the pipe, towing, write-back and link opcodes do once their checks pass, and the events of a
link. -/
namespace Sys2Proof.PipesAndLinks
open Sys2Proof Sys2Proof.Machine Sys2Proof.HostLink

/-- A barge that moves a level source and whose checks pass is its effect, in whatever form the effect is known. -/
theorem bargeSync_executed_eq {check : Barge → State → Option Reply} {apply : Barge → State → State} {b : Barge} {s t : State}
    (hcheck : check b s = none) (happly : apply b s = t) : bargeSync check apply b s = .next (syncLevels t) :=
  happly ▸ bargeSync_executed b s hcheck

/-! ### Pipes (R247 to R252, R267, R268) -/

section
variable {b : Barge} {s : State}

/-- What PIPE_CONFIG asks the admission: the pipe, not configured in `t`, to be as in `u`. -/
def configRequest (p : Nat) (t u : State) : Request :=
  { rest := t.mapPipe p fun _ => {}, new := u, pipe := some p }

/-- The configuration is taken when its output-stage table is read, the ring of the pipe's tap fits and the pipe is admitted. -/
theorem pipeConfigApply_of_admitted {o : OutStage} {t u : State} (hread : readOstage b (cfgOf b 0).ostage s = (.inl o, t))
    (hfit : fitWbRing (b.pay 0 1) (cfgOf b 0) (setConfig (b.pay 0 1) (cfgOf b 0) o t) = .inl u)
    (hadm : (runAdmission t (configRequest (b.pay 0 1) t u)).1 = none) :
    pipeConfigApply b s =
      complete b { report := some (runAdmission t (configRequest (b.pay 0 1) t u)).2 } (readmitIf u) := by
  simp only [pipeConfigApply, hread, hfit, ← configRequest.eq_def, hadm]

theorem pipeRemoveApply_of_unconfigured (h : (s.pipe (b.pay 0 1)).state = .unconfigured) :
    pipeRemoveApply b s = complete b .ok s := if_pos h

theorem pipeRemoveApply_of_not_unconfigured (h : (s.pipe (b.pay 0 1)).state ≠ .unconfigured) :
    pipeRemoveApply b s = complete b .ok (readmitIf (s.mapPipe (b.pay 0 1) fun _ => {})) := if_neg h

theorem pipeEnableApply_of_configured (h : (s.pipe (b.pay 0 1)).state = .configured) :
    pipeEnableApply b s = startPipe b (b.pay 0 1) s := if_pos h

theorem pipeEnableApply_of_not_configured (h : (s.pipe (b.pay 0 1)).state ≠ .configured) :
    pipeEnableApply b s = complete b .ok s := if_neg h

theorem pipeDisableApply_of_running (h : (s.pipe (b.pay 0 1)).state = .running) :
    pipeDisableApply b s = markCommitted b (s.mapPipe (b.pay 0 1) fun x => { x with disables := x.disables ++ [b] }) := if_pos h

theorem pipeDisableApply_of_not_running (h : (s.pipe (b.pay 0 1)).state ≠ .running) :
    pipeDisableApply b s = complete b .ok s := if_neg h

theorem timingChangeApply_of_same (h : cfgOf b 8 = (s.pipe (b.pay 0 1)).current) :
    timingChangeApply b s = s.mapPipe (b.pay 0 1) fun y => { y with atLock := y.atLock ++ [.sameTiming b] } := if_pos h

/-- A new timing with the output stage in use starts with that stage, and no table is read. -/
theorem timingChangeApply_of_same_ostage (hnew : cfgOf b 8 ≠ (s.pipe (b.pay 0 1)).current)
    (hstage : (cfgOf b 8).ostage = (s.pipe (b.pay 0 1)).current.ostage) :
    timingChangeApply b s = startTiming b (b.pay 0 1) (cfgOf b 8) (s.pipe (b.pay 0 1)).ostage s :=
  (if_neg hnew).trans (if_pos hstage)

/-! ### The tow and the write-back tap of a CONFIGURED pipe (R256, R270, R273) -/

/-- What TOW_SET asks the admission on a CONFIGURED pipe. -/
def towRequest (b : Barge) (s : State) : Request :=
  { rest := withoutTow (b.pay 0 1) s, new := applyTow (b.pay 0 1) (towOf b) s, pipe := some (b.pay 0 1) }

theorem towSetApply_of_admitted (hconf : (s.pipe (b.pay 0 1)).state = .configured)
    (hadm : (runAdmission s (towRequest b s)).1 = none) :
    towSetApply b s =
      complete b { report := some (runAdmission s (towRequest b s)).2 } (readmitIf (applyTow (b.pay 0 1) (towOf b) s)) := by
  simp only [towSetApply, hconf, decide_true, if_true, ← towRequest.eq_def, hadm]

/-- The tap that a WRITEBACK_SET asks for: that of its payload, with the slots of the ring of DEST 0 (log 18). -/
def wantedTap (b : Barge) (s : State) : Writeback :=
  if (wbOf b).dest = 0 then
    { wbOf b with slots := wbSlots ((s.pipe (b.pay 0 1)).admitted.getD (s.pipe (b.pay 0 1)).cfg) (b.pay 3 1) }
  else wbOf b

theorem enable_wantedTap (b : Barge) (s : State) : (wantedTap b s).enable = (wbOf b).enable := by
  unfold wantedTap
  split <;> rfl

/-- What WRITEBACK_SET asks the admission on a CONFIGURED pipe when it switches the tap off. -/
def tapOffRequest (b : Barge) (s : State) : Request :=
  { rest := withoutTap (b.pay 0 1) s, new := applyWriteback (b.pay 0 1) (wantedTap b s) s }

/-- A tap that is switched off needs no place for a ring. -/
theorem writebackSetApply_of_disabled (hconf : (s.pipe (b.pay 0 1)).state = .configured) (hoff : (wbOf b).enable = false)
    (hadm : (runAdmission s (tapOffRequest b s)).1 = none) :
    writebackSetApply b s =
      complete b { report := some (runAdmission s (tapOffRequest b s)).2 }
        (readmitIf (applyWriteback (b.pay 0 1) (wantedTap b s) s)) := by
  have henable : (wantedTap b s).enable = false := (enable_wantedTap b s).trans hoff
  simp only [writebackSetApply, ← wantedTap.eq_def, hconf, henable, Bool.false_and, Bool.false_eq_true, decide_true, if_false,
    if_true, ← tapOffRequest.eq_def, hadm]

end

/-! ### Hot plug (R265) -/

section
variable {l : Nat} {s : State}

/-- HPD low, when its edges are neither in a storm nor make one, brings the link down. -/
theorem execHpdLow_of_no_storm (hcalm : (s.link l).storm = false)
    (hafter : ((countEdges l (b2n (s.link l).hpd) s).link l).storm = false) :
    execHpdLow l s = done (linkDown l (countEdges l (b2n (s.link l).hpd) s)) := by
  simp only [execHpdLow, hcalm, hafter, Bool.false_eq_true, if_false]

theorem execHpdHigh_of_no_storm (hcalm : (s.link l).storm = false)
    (hafter : ((countEdges l (b2n !(s.link l).hpd) s).link l).storm = false) :
    execHpdHigh l s = done (linkHigh l (countEdges l (b2n !(s.link l).hpd) s)) := by
  simp only [execHpdHigh, hcalm, hafter, Bool.false_eq_true, if_false]

/-- A pulse on a link that is UP has its status read over AUX. -/
theorem execIrqHpd_of_up (hcalm : (s.link l).storm = false) (hkind : (cfgOfLink s l).linkKind ≠ 3)
    (hafter : ((countEdges l 2 s).link l).storm = false) (hup : ((countEdges l 2 s).link l).state = .up) :
    execIrqHpd l s = done (queueAux l { space := 1, addr := 0x202, left := 2 } (countEdges l 2 s)) := by
  have hpal : ((cfgOfLink s l).linkKind == 3) = false := beq_eq_false_iff_ne.mpr hkind
  simp only [execIrqHpd, hcalm, hpal, hafter, hup, ne_eq, not_true_eq_false, Bool.or_self, or_self, Bool.false_eq_true, if_false]

theorem execHpdStormEnd_of_storm (on : Bool) (hstorm : (s.link l).storm = true) :
    execHpdStormEnd l on s =
      done (if on then linkHigh l (s.mapLink l fun k => { k with storm := false })
        else linkDown l (s.mapLink l fun k => { k with storm := false })) := by
  simp only [execHpdStormEnd, hstorm, Bool.not_true, Bool.false_eq_true, if_false]

/-! ### AUX (R265) -/

section
variable {j : AuxJob} {r : List AuxJob}

theorem execAuxReply_defer_of_retry (hjob : (s.link l).aux = j :: r) (hretry : j.defers ≠ 7) :
    execAuxReply l .defer s = .next (sendAux l (mapAux l (fun j => { j with defers := j.defers + 1 }) s)) := by
  simp only [execAuxReply, hjob, if_neg hretry]

theorem execAuxReply_nack (hjob : (s.link l).aux = j :: r) : execAuxReply l .nack s = .next (failAux l j s) := by
  simp only [execAuxReply, hjob]

theorem execAuxTimeout_of_retry (hjob : (s.link l).aux = j :: r) (hretry : j.timeouts ≠ 3) :
    execAuxTimeout l s = .next (sendAux l (mapAux l (fun j => { j with timeouts := j.timeouts + 1 }) s)) := by
  simp only [execAuxTimeout, hjob, if_neg hretry]

end

/-! ### Training, and the loss of a link (R263, R265) -/

theorem execTrainingAttemptEnd_up (rate n : Nat) (htraining : (s.link l).state = .training) :
    execTrainingAttemptEnd l (.up rate n) s = done (settleLinks l (linkUp l rate n s)) :=
  congrArg done (if_neg (not_not_intro htraining))

/-- A link that is DOWN is tried again while its pipe runs and does not drive black, with a sink there and no storm. -/
theorem execTrainingRetry_of_down {p : Nat} (hpipe : pipeOfLink s l = some p) (hrun : (s.pipe p).state = .running)
    (hblack : (s.pipe p).black = none) (hdown : (s.link l).state = .down) (hhpd : hasHpd (s.pipe p).cfg (s.link l) = true)
    (hwait : (s.link l).waitHpd = false) (hcalm : (s.link l).storm = false) :
    execTrainingRetry l s = done (s.mapLink l fun k => { k with state := .training }) := by
  simp only [execTrainingRetry, hpipe, hrun, hblack, hdown, hhpd, hwait, hcalm, decide_true, Option.isNone_none, Bool.not_false,
    Bool.and_self, if_true]

theorem execLinkLost_of_up_dp (hup : (s.link l).state = .up) (hdp : (cfgOfLink s l).isDp = true) :
    execLinkLost l s = done (symbolLost l s) := by
  simp only [execLinkLost, hup, hdp, reduceCtorEq, ne_eq, not_true_eq_false, if_false, if_true]

/-- A link that drives black is not trained again. -/
theorem execLinkLost_of_black (hblack : (s.link l).state = .black) :
    execLinkLost l s = done (s.mapLink l fun k => { k with state := .down, failCode := 6 }) := by
  simp only [execLinkLost, hblack, if_true]

theorem execAphyRetransmitRequest_of_resend (haphy : 4 ≤ l) (hup : (s.link l).state = .up) (hresend : (s.link l).resends < 4) :
    execAphyRetransmitRequest l s = .next (s.mapLink l fun k => { k with resends := k.resends + 1 }) := by
  simp only [execAphyRetransmitRequest, decide_eq_false (Nat.not_lt.mpr haphy), hup, hresend, ne_eq, not_true_eq_false,
    decide_false, Bool.or_self, Bool.false_eq_true, if_false, if_true]

end

/-! ### The obligations -/

/-- Settles O9: with its checks passed each of these barges is its effect, of which the state of its pipe, the timing asked for and
the admission choose the branch. -/
theorem pipeBarges : Obligations.PipeBarges :=
  ⟨fun _ _ _ _ _ hcheck hread hfit hadm => bargeSync_executed_eq hcheck (pipeConfigApply_of_admitted hread hfit hadm),
    fun _ _ hcheck h => bargeSync_executed_eq hcheck (pipeRemoveApply_of_unconfigured h),
    fun _ _ hcheck h => bargeSync_executed_eq hcheck (pipeRemoveApply_of_not_unconfigured h),
    fun _ _ hcheck h => bargeSync_executed_eq hcheck (pipeEnableApply_of_configured h),
    fun _ _ hcheck h => bargeSync_executed_eq hcheck (pipeEnableApply_of_not_configured h),
    fun _ _ hcheck h => bargeSync_executed_eq hcheck (pipeDisableApply_of_running h),
    fun _ _ hcheck h => bargeSync_executed_eq hcheck (pipeDisableApply_of_not_running h),
    fun _ _ hcheck h => bargeSync_executed_eq hcheck (timingChangeApply_of_same h),
    fun _ _ hcheck hnew hstage => bargeSync_executed_eq hcheck (timingChangeApply_of_same_ostage hnew hstage),
    fun _ _ hcheck hconf hadm => bargeSync_executed_eq hcheck (towSetApply_of_admitted hconf hadm),
    barge_executed, barge_executed,
    fun _ _ hcheck hconf hoff hadm => bargeSync_executed_eq hcheck (writebackSetApply_of_disabled hconf hoff hadm)⟩

/-- Settles O25: the state of the link, its storm and its AUX job choose one branch of each of these events. -/
theorem linkEvents : Obligations.LinkEvents :=
  ⟨fun _ _ => execHpdLow_of_no_storm, fun _ _ => execHpdHigh_of_no_storm, fun _ _ => execIrqHpd_of_up,
    fun _ on _ => execHpdStormEnd_of_storm on, fun _ _ _ _ => execAuxReply_defer_of_retry, fun _ _ _ _ => execAuxReply_nack,
    fun _ _ _ _ => execAuxTimeout_of_retry, fun _ rate n _ => execTrainingAttemptEnd_up rate n,
    fun _ _ _ => execTrainingRetry_of_down, fun _ _ => execLinkLost_of_up_dp, fun _ _ => execLinkLost_of_black,
    fun _ _ => execAphyRetransmitRequest_of_resend⟩

end Sys2Proof.PipesAndLinks
end

section
/-! Camera ingest (09): what the camera and contract opcodes do once their checks pass, and the packets, the deadlines and the
link of a camera input. -/
namespace Sys2Proof.Cameras
open Sys2Proof Sys2Proof.Machine Sys2Proof.HostLink Sys2Proof.PipesAndLinks

/-! ### Streams (R295 to R298) -/

section
variable {b : Barge} {s : State}

/-- What a new ring of an input asks the admission: the stream gone, then the stream with its ring, or the region that did not
fit. -/
def ringRequest (i : Nat) (s : State) (placed : State × Option MemFail) : Request :=
  { rest := undeclared i s, new := placed.1, memFail := placed.2 }

theorem cameraDeclareApply_of_admitted
    (hadm : (runAdmission s (ringRequest (b.pay 0 1) s (declared (b.pay 0 1) (camDeclOf b) s))).1 = none) :
    cameraDeclareApply b s =
      complete b { report := some (runAdmission s (ringRequest (b.pay 0 1) s (declared (b.pay 0 1) (camDeclOf b) s))).2 }
        (readmitIf (declared (b.pay 0 1) (camDeclOf b) s).1) := by
  simp only [cameraDeclareApply, ← ringRequest.eq_def, hadm]

theorem cameraRemoveApply_of_undeclared (h : (s.cam (b.pay 0 1)).state = .undeclared) :
    cameraRemoveApply b s = complete b .ok s := congrArg (complete b .ok) (if_pos h)

theorem cameraRemoveApply_of_not_undeclared (h : (s.cam (b.pay 0 1)).state ≠ .undeclared) :
    cameraRemoveApply b s = complete b .ok (readmitIf (refreshSurfaces (undeclared (b.pay 0 1) s))) :=
  congrArg (complete b .ok) (if_neg h)

/-- A stream that starts waits for its first frame with its run's counts cleared. -/
theorem cameraStartApply_of_declared (h : (s.cam (b.pay 0 1)).state = .declared) :
    cameraStartApply b s =
      markCommitted b (s.mapCam (b.pay 0 1) fun m =>
        { m with
          state := .waiting, anyComplete := false, consec := 0, runDrops := List.replicate 11 0, fsTimes := [], missing := 0
          open_ := none, starts := m.starts ++ [b] }) := if_pos h

theorem cameraStartApply_of_not_declared (h : (s.cam (b.pay 0 1)).state ≠ .declared) :
    cameraStartApply b s = complete b .ok s := if_neg h

theorem cameraStopApply_of_receiving (h : (s.cam (b.pay 0 1)).receiving = true) :
    cameraStopApply b s = markCommitted b (s.mapCam (b.pay 0 1) fun m => { m with stops := m.stops ++ [b] }) := if_pos h

theorem cameraStopApply_of_not_receiving (h : (s.cam (b.pay 0 1)).receiving = false) :
    cameraStopApply b s = complete b .ok s := if_neg (Bool.eq_false_iff.mp h)

theorem cameraRingSetApply_of_admitted
    (hadm : (runAdmission s (ringRequest (b.pay 0 1) s (ringSet b s))).1 = none) :
    cameraRingSetApply b s =
      complete b { report := some (runAdmission s (ringRequest (b.pay 0 1) s (ringSet b s))).2 } (readmitIf (ringSet b s).1) := by
  simp only [cameraRingSetApply, ← ringRequest.eq_def, hadm]

/-! ### Contracts (R300) -/

/-- The removal of a contract that is neither in force nor waiting leaves the state. -/
theorem latencyContractSetApply_of_none_to_remove (hremove : (contractOf b).cls = 0)
    (hnone : ((heldContracts s).any fun d => d.pipe == (contractOf b).pipe && d.slot == (contractOf b).slot) = false) :
    latencyContractSetApply b s = complete b .ok s := by
  simp only [latencyContractSetApply, hremove, hnone, Bool.not_false, and_self, if_true]

/-- What LATENCY_CONTRACT_SET asks the admission on a CONFIGURED pipe. -/
def contractRequest (c : Contract) (s : State) : Request :=
  { rest := withoutContract c s, new := setContract c s, pipe := some c.pipe }

/-- The contract of a CONFIGURED pipe is in force at once. -/
theorem latencyContractSetApply_of_admitted (hset : (contractOf b).cls ≠ 0)
    (hconf : (s.pipe (contractOf b).pipe).state = .configured)
    (hadm : (runAdmission s (contractRequest (contractOf b) s)).1 = none) :
    latencyContractSetApply b s =
      complete b { report := some (runAdmission s (contractRequest (contractOf b) s)).2 }
        (readmitIf (setContract (contractOf b) s)) := by
  simp only [latencyContractSetApply, hset, hconf, decide_true, false_and, if_false, if_true, ← contractRequest.eq_def, hadm]

end

/-! ### Packets of an input that receives (R276, R280 to R283) -/

section
variable {i vc n : Nat} {s : State}

theorem execCameraFs_of_receiving (hrec : (s.cam i).receiving = true) (hvc : vc = (s.cam i).decl.vc) :
    execCameraFs i vc n s = done (frameStartPacket i (n % 65536) s) := by
  simp only [execCameraFs, hrec, hvc, ne_eq, not_true_eq_false, Bool.not_true, Bool.false_eq_true, if_false]

theorem execCameraLinePacket_of_receiving (x : CamPacket) (hrec : (s.cam i).receiving = true) :
    execCameraLinePacket i x s = done (linePacket i x s) := congrArg done (if_pos hrec)

/-- A frame end that comes before the last line drops the frame as short (cause 4). -/
theorem execCameraFe_of_short (n : Nat) (hrec : (s.cam i).receiving = true) (hvc : vc = (s.cam i).decl.vc)
    (hopen : (s.cam i).open_.isSome = true) (hshort : (s.cam i).packets < (s.cam i).decl.height) :
    execCameraFe i vc n s = done (dropOpen i 4 s) := by
  simp only [execCameraFe, hrec, hvc, hopen, hshort, ne_eq, not_true_eq_false, decide_true, Bool.not_true, Bool.and_self,
    Bool.false_eq_true, if_false, if_true]

theorem execCameraEmbeddedData_of_good (bytes : List Byte) (hrec : (s.cam i).receiving = true) (hvc : vc = (s.cam i).decl.vc) :
    execCameraEmbeddedData i vc bytes true s = done (keepEmbedded i bytes s) := by
  simp only [execCameraEmbeddedData, hrec, hvc, ne_eq, not_true_eq_false, Bool.not_true, Bool.false_eq_true, if_false]

theorem execCameraPacketDiscard_of_bad_header (hrec : (s.cam i).receiving = true) :
    execCameraPacketDiscard i 2 s = done (dropOpen i 1 (countMalformed i 2 s)) :=
  congrArg done (if_neg (by rw [hrec]; decide))

theorem execCameraLinkError_of_receiving (hrec : (s.cam i).receiving = true) :
    execCameraLinkError i s = done (dropOpen i 10 (countMalformed i 4 s)) := congrArg done (if_pos hrec)

/-! ### Deadlines of an input (R283, R296, R297) -/

/-- A frame open for one and a half periods is dropped, and the first instant of a missing frame start is past. -/
theorem execFrameTimeout_of_open (hrec : (s.cam i).receiving = true) (hopen : (s.cam i).open_.isSome = true) :
    execFrameTimeout i s =
      done (dropOpen i 5 ((s.atTime ((s.cam i).fsTimes.headD 0 + 3 * (s.cam i).decl.framePeriod / 2)).mapCam i fun m =>
        { m with missing := max 1 m.missing })) := by
  have hsome : (s.cam i).open_.isNone = false := by rw [← Option.not_isSome, hopen]; rfl
  simp only [execFrameTimeout, hrec, hsome, Bool.not_true, Bool.or_self, Bool.false_eq_true, if_false]

/-- With no frame open a missing frame start is a drop of its own. -/
theorem execFsMissing_of_no_open {t : Nat} {l : List Nat} (hrec : (s.cam i).receiving = true) (hfs : (s.cam i).fsTimes = t :: l)
    (hopen : (s.cam i).open_ = none) :
    execFsMissing i s =
      done (countDrop i 9
        ((s.atTime (t + (2 * ((s.cam i).missing + 1) + 1) * (s.cam i).decl.framePeriod / 2)).mapCam i fun m =>
          { m with missing := (s.cam i).missing + 1 })) := by
  simp only [execFsMissing, hrec, hfs, hopen, Option.isSome_none, Bool.false_eq_true, and_false, if_false]

theorem execCameraStartTimeout_of_start {b : Barge} {l : List Barge} (hstarts : (s.cam i).starts = b :: l) :
    execCameraStartTimeout i s =
      done (complete b (.err stDeviceAbsent (i + 2 * 256)) (s.mapCam i fun m => { m with starts := l })) := by
  simp only [execCameraStartTimeout, hstarts]

theorem execCameraStopTimeout_of_stop (hstops : (s.cam i).stops ≠ []) : execCameraStopTimeout i s = done (stopNow i s) :=
  congrArg done (if_neg (mt List.isEmpty_iff.mp hstops))

end

/-! ### The obligations -/

/-- Settles O10: with its checks passed each of these barges is its effect, of which the state of its stream or pipe and the
admission choose the branch. -/
theorem cameraBarges : Obligations.CameraBarges :=
  ⟨fun _ _ hcheck hadm => bargeSync_executed_eq hcheck (cameraDeclareApply_of_admitted hadm),
    fun _ _ hcheck h => bargeSync_executed_eq hcheck (cameraRemoveApply_of_undeclared h),
    fun _ _ hcheck h => bargeSync_executed_eq hcheck (cameraRemoveApply_of_not_undeclared h),
    fun _ _ hcheck h => bargeSync_executed_eq hcheck (cameraStartApply_of_declared h),
    fun _ _ hcheck h => bargeSync_executed_eq hcheck (cameraStartApply_of_not_declared h),
    fun _ _ hcheck h => bargeSync_executed_eq hcheck (cameraStopApply_of_receiving h),
    fun _ _ hcheck h => bargeSync_executed_eq hcheck (cameraStopApply_of_not_receiving h),
    fun _ _ hcheck hadm => bargeSync_executed_eq hcheck (cameraRingSetApply_of_admitted hadm),
    barge_executed,
    fun _ _ hcheck hremove hnone => bargeSync_executed_eq hcheck (latencyContractSetApply_of_none_to_remove hremove hnone),
    fun _ _ hcheck hset hconf hadm => bargeSync_executed_eq hcheck (latencyContractSetApply_of_admitted hset hconf hadm)⟩

/-- Settles O26: that the input receives, its open frame and its waiting barges choose one branch of each of these events; a landed
line and the link of an input have one. -/
theorem cameraEvents : Obligations.CameraEvents :=
  ⟨fun _ _ _ _ => execCameraFs_of_receiving, fun _ x _ => execCameraLinePacket_of_receiving x, fun _ _ => rfl,
    fun _ _ n _ => execCameraFe_of_short n, fun _ _ bytes _ => execCameraEmbeddedData_of_good bytes,
    fun _ _ => execCameraPacketDiscard_of_bad_header, fun _ _ => execCameraLinkError_of_receiving,
    fun _ _ => execFrameTimeout_of_open, fun _ _ _ _ => execFsMissing_of_no_open,
    fun _ _ _ _ => execCameraStartTimeout_of_start, fun _ _ => execCameraStopTimeout_of_stop, fun _ _ => rfl⟩

end Sys2Proof.Cameras
end

section
/-! The 2D engines (11) and the check-value units (13): the steps of a 2D job, the descriptors of a channel and the records of a
signer. -/
namespace Sys2Proof.Engines
open Sys2Proof Sys2Proof.Machine

/-! ### The steps of a 2D job (R327, R344, R347, R351) -/

section
variable {e : Nat} {j : TwoDJob} {s : State}

/-- An idle engine begins the first job of its queue. -/
theorem execTwoDJobBegin_of_idle {l : List TwoDJob} (hhold : holding s = false) (hout : engineOut s e = false)
    (hidle : (s.engine e).cur = none) (hqueue : (s.engine e).queue = j :: l) (hcontain : s.mode.contain = false) :
    execTwoDJobBegin e s = .next (beginJob e j s) := by
  simp only [execTwoDJobBegin, hhold, hout, hidle, hqueue, hcontain, Bool.or_self, Bool.false_eq_true, if_false]

/-- An engine without a reservation moves its next burst when no other client asks, and pays no credit. -/
theorem execTwoDBurst_of_unreserved {c : Nat} (hhold : holding (accrueEngine e s) = false)
    (hjob : ((accrueEngine e s).engine e).cur = some j) (hburst : (j.parts.flatMap (·.bursts)).head? = some c)
    (hrate : ((accrueEngine e s).engine e).rate = 0) :
    execTwoDBurst e false s =
      .next ((accrueEngine e s).mapEngine e fun x => { x with cur := some { j with parts := issueBurst j.parts } }) := by
  simp only [execTwoDBurst, hhold, hjob, hburst, hrate, bne_self_eq_false, Bool.false_and, Bool.not_false, Bool.or_true,
    Bool.false_eq_true, if_false, if_true]

/-- The lines of a part whose bursts have all moved are written, and pass. -/
theorem execTwoDLineLanded_of_moved {p : TwoDPart} {r : List TwoDPart} {o : TwoDOp} (hjob : (s.engine e).cur = some j)
    (hparts : j.parts = p :: r) (hop : j.ops[j.cur]? = some o) (hmoved : p.bursts = []) :
    execTwoDLineLanded e s =
      .next (passLines e o j.bottomUp j.landed (j.landed + p.lines)
        ((p.runs.foldl (fun t r => devWrite r.1 r.2 t) s).mapEngine e fun x =>
          { x with
            cur := some
              { j with
                parts := r, landed := j.landed + p.lines, bad := (j.bad ++ p.runs.flatMap (droppedWords s)).eraseDups } })) := by
  simp only [execTwoDLineLanded, hjob, hparts, hop, hmoved, List.isEmpty_nil, Bool.not_true, Bool.false_eq_true, if_false]

/-- A job with no part and no entry left completes its barge and leaves the engine idle. -/
theorem execTwoDJobComplete_of_last (hjob : (s.engine e).cur = some j) (hparts : j.parts = [])
    (hlast : j.ops.length ≤ j.cur + 1) :
    execTwoDJobComplete e s =
      done (settleRemovals e (refreshSurfaces (complete j.barge (jobReply j) ((endOperation e j s).mapEngine e fun x =>
        { x with cur := none, idleSince := if x.queue.isEmpty then (endOperation e j s).time else x.idleSince })))) := by
  simp only [execTwoDJobComplete, hjob, hparts, decide_eq_false (Nat.not_lt.mpr hlast), List.isEmpty_nil, Bool.not_true,
    Bool.or_self, Bool.false_eq_true, if_false]

end

/-! ### Check-value descriptors and signature records (R396, R403) -/

section
variable {c : Nat} {s : State}

/-- A channel with no chain has no descriptor to take. -/
theorem execCvDescriptor_of_no_chain (hchain : (s.chan c).chain = none) : execCvDescriptor c s = done s := by
  simp only [execCvDescriptor, hchain, ite_self]

/-- After a descriptor the channel's queue is filled again, unless the descriptor led into CONTAIN, and the barges of the channel go
on in their order. -/
theorem execCvDescriptor_of_taken {d : Descriptor} {ch : CvChain} {t : State} (hhold : holding s = false)
    (hcontain : s.mode.contain = false) (hchain : (s.chan c).chain = some ch)
    (hitem : ((feedChannel c cvItems s).queue (cvQueue c)).current.isSome = true)
    (htake : takeDescriptor c (feedChannel c cvItems s) = (some d, t)) :
    execCvDescriptor c s =
      done ((fun u : State => runOrder c (orderFuel u c) u)
        ((fun u : State => if u.mode.contain then u else feedChannel c cvItems u) (runDescriptor c d t))) := by
  have hsome : ((feedChannel c cvItems s).queue (cvQueue c)).current.isNone = false := by
    rw [← Option.not_isSome, hitem]; rfl
  simp only [execCvDescriptor, hhold, hcontain, hchain, hsome, htake, Bool.false_eq_true, if_false]

theorem execSignatureRecord_of_signer {l : Nat} {r : FrameRecord} {rest : List FrameRecord}
    (hinbox : (s.signBlock l).inbox = r :: rest)
    (hsigner : signerOf (s.mapSign l fun x => { x with inbox := rest }) l = some c) :
    execSignatureRecord l s = done (signRecord c l r (s.mapSign l fun x => { x with inbox := rest })) := by
  simp only [execSignatureRecord, hinbox, hsigner]

end

/-! ### The obligations -/

/-- Settles O27: the job of the engine, the chain of the channel and the inbox of the signer choose one branch of each of these
steps; the loss of a camera link has one. -/
theorem cameraLinkAndEngines : Obligations.CameraLinkAndEngines :=
  ⟨fun _ _ => rfl, fun _ _ _ _ => execTwoDJobBegin_of_idle, fun _ _ _ _ => execTwoDBurst_of_unreserved,
    fun _ _ _ _ _ _ => execTwoDLineLanded_of_moved, fun _ _ _ => execTwoDJobComplete_of_last,
    fun _ _ => execCvDescriptor_of_no_chain, fun _ _ _ _ _ => execCvDescriptor_of_taken,
    fun _ _ _ _ _ => execSignatureRecord_of_signer⟩

end Sys2Proof.Engines
end

section
/-! The 2D engines (11): the bitwise function of BLT_ROP3, and what a 2D job opcode and a reservation do once their checks pass. -/
namespace Sys2Proof.TwoDEngines
open Sys2Proof Sys2Proof.Machine Sys2Proof.HostLink Sys2Proof.Layers Sys2Proof.PipesAndLinks

/-! ### The bits of a ternary raster operation (R335) -/

theorem shiftRight_mod_two (x k : Nat) : x >>> k % 2 = (x.testBit k).toNat := by
  rw [Nat.toNat_testBit, Nat.shiftRight_eq_div_pow]

/-- The bit of the code `rop` that the bits of pattern, source and destination at place `k` select. -/
def ropBit (rop p q d k : Nat) : Bool :=
  rop.testBit (4 * (p.testBit k).toNat + 2 * (q.testBit k).toNat + (d.testBit k).toNat)

/-- One more bit of width puts the bit selected at its place above the word so far. -/
theorem rop3_succ (rop p q d n : Nat) :
    rop3 rop p q d (n + 1) = 2 ^ n * (ropBit rop p q d n).toNat + rop3 rop p q d n := by
  simp only [rop3, ropBit, shiftRight_mod_two, Nat.mul_comm (2 ^ n), Nat.add_comm]

theorem rop3_lt_two_pow (rop p q d n : Nat) : rop3 rop p q d n < 2 ^ n := by
  induction n with
  | zero => exact Nat.one_pos
  | succ n ih =>
    calc rop3 rop p q d (n + 1) = 2 ^ n * (ropBit rop p q d n).toNat + rop3 rop p q d n := rop3_succ ..
      _ < 2 ^ n * (ropBit rop p q d n).toNat + 2 ^ n := Nat.add_lt_add_left ih _
      _ = 2 ^ n * ((ropBit rop p q d n).toNat + 1) := rfl
      _ ≤ 2 ^ n * 2 := Nat.mul_le_mul_left _ (Bool.toNat_lt _)

theorem testBit_rop3 (rop p q d n b : Nat) : (rop3 rop p q d n).testBit b = (decide (b < n) && ropBit rop p q d b) := by
  induction n with
  | zero => exact Nat.zero_testBit b
  | succ n ih =>
    rw [rop3_succ, Nat.testBit_two_pow_mul_add _ (rop3_lt_two_pow rop p q d n), Nat.testBit_bool_toNat]
    rcases Nat.lt_trichotomy b n with hlt | rfl | hgt
    · rw [if_pos hlt, ih, decide_eq_true hlt, decide_eq_true (Nat.lt_succ_of_lt hlt)]
    · simp only [Nat.lt_irrefl, Nat.sub_self, Nat.lt_succ_self, if_false]
    · have hne : b - n ≠ 0 := Nat.sub_ne_zero_of_lt hgt
      have hout : ¬ b < n + 1 := Nat.not_lt.mpr hgt
      simp only [hne, hout, Nat.lt_asymm hgt, if_false, decide_false, Bool.false_and]

/-! ### The effects of the 2D opcodes (R327, R348, R356) -/

section
variable {b : Barge} {s : State}

/-- With an engine in service the job joins the queue of its engine, which no longer counts as idle. -/
theorem queueJob_of_engine_in_service {batch : Bool} {ops : List TwoDOp} (hin : (engineOut s 0 && engineOut s 1) = false) :
    queueJob batch ops b s =
      refreshSurfaces ((s.mapEngine (jobEngine b s) fun x =>
        { x with queue := x.queue ++ [{ barge := b, ops, batch }] }).mapPower fun p =>
          { p with idleOff := p.idleOff.filter (· != 57 + jobEngine b s) }) := by
  simp only [queueJob, hin, Bool.false_eq_true, if_false]

/-- The state with the reservation that TWO_D_RESERVE asks for. -/
def reserved (b : Barge) (s : State) : State :=
  (accrueEngine (b.pay 0 1) s).mapEngine (b.pay 0 1) fun x => { x with rate := b.pay 8 4, burst := 64 * 2 ^ b.pay 1 1 }

/-- What TWO_D_RESERVE asks the admission: the engine, without a reservation in the rest, to have the new one. -/
def reserveRequest (b : Barge) (s : State) : Request :=
  { rest := s.mapEngine (b.pay 0 1) Engine.unreserved, new := reserved b s }

theorem twoDReserveApply_of_admitted (hrate : b.pay 8 4 ≠ 0) (hadm : (runAdmission s (reserveRequest b s)).1 = none) :
    twoDReserveApply b s =
      complete b { report := some (runAdmission s (reserveRequest b s)).2 } (readmitIf (reserved b s)) := by
  have hrun : runAdmission s (reserveRequest b s) = (none, (runAdmission s (reserveRequest b s)).2) := Prod.ext hadm rfl
  simp only [twoDReserveApply, hrate, if_false, ← reserved.eq_def, ← reserveRequest.eq_def]
  rw [hrun]

/-- An engine without jobs loses its reservation at once. -/
theorem twoDReserveRemoveApply_of_no_jobs (hjobs : (s.engine (b.pay 0 1)).jobs = []) :
    twoDReserveRemoveApply b s = complete b .ok (readmitIf (s.mapEngine (b.pay 0 1) Engine.unreserved)) :=
  if_pos (congrArg List.length hjobs)

/-- The removal waits for the jobs that are before it on its engine. -/
theorem twoDReserveRemoveApply_of_jobs (hjobs : (s.engine (b.pay 0 1)).jobs ≠ []) :
    twoDReserveRemoveApply b s =
      s.mapEngine (b.pay 0 1) fun x => { x with removals := x.removals ++ [(b, (s.engine (b.pay 0 1)).jobs.length)] } :=
  if_neg (mt List.length_eq_zero_iff.mp hjobs)

/-- A job opcode whose checks pass, with an engine in service, queues its one operation. -/
theorem barge_queueJob {check : Barge → State → Option Reply} (b : Barge) (s : State) (hcheck : check b s = none)
    (hin : (engineOut s 0 && engineOut s 1) = false) :
    barge check (fun b => queueJob false [TwoDOp.ofBarge b] b) b s =
      .next (refreshSurfaces ((s.mapEngine (jobEngine b s) fun x =>
        { x with queue := x.queue ++ [{ barge := b, ops := [TwoDOp.ofBarge b], batch := false }] }).mapPower fun p =>
          { p with idleOff := p.idleOff.filter (· != 57 + jobEngine b s) })) :=
  barge_executed_eq hcheck (queueJob_of_engine_in_service hin)

end

/-! ### The obligations -/

/-- Settles O55: each place of the word holds the bit of the code that the operands select there, by induction on the width. -/
theorem rop3Bits : Obligations.Rop3Bits := testBit_rop3

/-- Settles O11: the six job opcodes queue alike; the admission of a reservation and the jobs of its engine choose the branch of
the other two. -/
theorem twoDBarges : Obligations.TwoDBarges :=
  ⟨barge_queueJob, barge_queueJob, barge_queueJob, barge_queueJob, barge_queueJob, barge_queueJob, barge_executed,
    fun _ _ hcheck hrate hadm => bargeSync_executed_eq hcheck (twoDReserveApply_of_admitted hrate hadm),
    fun _ _ hcheck hjobs => bargeSync_executed_eq hcheck (twoDReserveRemoveApply_of_no_jobs hjobs),
    fun _ _ hcheck hjobs => bargeSync_executed_eq hcheck (twoDReserveRemoveApply_of_jobs hjobs)⟩

end Sys2Proof.TwoDEngines
end

section
/-! The pound (12): what an operation on a queue changes of the queue and of the other queues, the cells that PUT may take, and
what the operations and the opcodes of the pound answer. -/
namespace Sys2Proof.PoundQueues
open Sys2Proof Sys2Proof.Machine Sys2Proof.Laws Sys2Proof.HostLink Sys2Proof.Layers Sys2Proof.Frames

/-! ### The observation of a level (R375, R376) -/

/-- A queue with the registers of its weir at rest: the part of it that no observation of its level reaches. -/
def sansWeir (x : Queue) : Queue :=
  { x with notice := false, dirUp := false, dirDown := false, crossings := 0, extHi := 0, extLo := 0 }

theorem level_eq_of_sansWeir_eq {x y : Queue} (h : sansWeir x = sansWeir y) : x.level = y.level :=
  show (sansWeir x).level = (sansWeir y).level from congrArg Queue.level h

theorem quota_eq_of_sansWeir_eq {x y : Queue} (h : sansWeir x = sansWeir y) : x.quota = y.quota :=
  show (sansWeir x).quota = (sansWeir y).quota from congrArg Queue.quota h

theorem queue_setCode (c : PoundCode) (s : State) (p : Nat) : (setCode c s).queue p = s.queue p := rfl

/-- In the pound, an observation changes one queue, and of that its weir alone. -/
theorem levelChanged_pound (q old : Nat) (s : State) : ∃ f : Queue → Queue,
    (∀ x, sansWeir (f x) = sansWeir x) ∧ (levelChanged q old s).pound = (s.mapQueue q f).pound := by
  unfold levelChanged
  dsimp only
  (repeat' split) <;> exact ⟨_, fun _ => by rfl, rfl⟩

theorem queueLevelSource_pound (q : Nat) (s : State) : (queueLevelSource q s).pound = s.pound := by
  unfold queueLevelSource
  split <;> rfl

theorem queue_freeCellsList (l : List Nat) (s : State) (p : Nat) : (freeCellsList l s).queue p = s.queue p :=
  congrArg (at_ · p) (trimQuarters_queues _)

theorem trimQuarter_used (p : Pound) (k : Nat) : (trimQuarter p k).used = p.used := by
  unfold trimQuarter
  split <;> rfl

theorem freeCellsList_used (l : List Nat) (s : State) :
    (freeCellsList l s).pound.used = s.pound.used.filter fun c => !l.contains c := by
  simp only [freeCellsList, trimQuarters, mapPound_pound, List.foldl_cons, List.foldl_nil, trimQuarter_used]

/-! ### A queue changed, with its level observed -/

section
variable (q : Nat) (freed : List Nat) (f : Queue → Queue) (s : State)

theorem changeQueue_pound : ∃ g : Queue → Queue, (∀ x, sansWeir (g x) = sansWeir x) ∧
    (changeQueue q freed f s).pound = ((freeCellsList freed (s.mapQueue q f)).mapQueue q g).pound := by
  obtain ⟨g, hg, hpound⟩ := levelChanged_pound q (s.queue q).level (freeCellsList freed (s.mapQueue q f))
  exact ⟨g, hg, (queueLevelSource_pound ..).trans hpound⟩

/-- The queue is as `f` makes it, apart from its weir. -/
theorem queue_changeQueue_self (hq : q < s.pound.queues.length) :
    sansWeir ((changeQueue q freed f s).queue q) = sansWeir (f (s.queue q)) := by
  obtain ⟨g, hg, hpound⟩ := changeQueue_pound q freed f s
  have hlength : q < (freeCellsList freed (s.mapQueue q f)).pound.queues.length := by
    simpa only [freeCellsList, mapPound_pound, trimQuarters_queues, mapQueue_pound, List.length_modify] using hq
  rw [State.queue, hpound, ← State.queue, queue_mapQueue_self _ _ _ hlength, hg, queue_freeCellsList,
    queue_mapQueue_self _ _ _ hq]

variable {q freed f s} in
theorem level_le_quota_changeQueue (hq : q < s.pound.queues.length) (hf : (f (s.queue q)).level ≤ (f (s.queue q)).quota) :
    ((changeQueue q freed f s).queue q).level ≤ ((changeQueue q freed f s).queue q).quota := by
  have hqueue := queue_changeQueue_self q freed f s hq
  rwa [level_eq_of_sansWeir_eq hqueue, quota_eq_of_sansWeir_eq hqueue]

theorem queue_changeQueue_ne {p : Nat} (hp : p ≠ q) : (changeQueue q freed f s).queue p = s.queue p := by
  obtain ⟨g, -, hpound⟩ := changeQueue_pound q freed f s
  rw [State.queue, hpound, ← State.queue, queue_mapQueue_ne _ _ _ _ hp, queue_freeCellsList, queue_mapQueue_ne _ _ _ _ hp]

theorem changeQueue_used : (changeQueue q freed f s).pound.used = s.pound.used.filter fun c => !freed.contains c := by
  obtain ⟨g, -, hpound⟩ := changeQueue_pound q freed f s
  rw [hpound]
  exact freeCellsList_used freed (s.mapQueue q f)

end

/-! ### FLUSH (R370) -/

/-- A queue as a flush leaves it: its held and its ended items are counted out, its open item is counted void. -/
def flushed (x : Queue) : Queue :=
  { x with
    held := [], items := [], readOff := 0, markOff := none, flushPending := true
    itemsIn := satAdd top32 x.itemsIn (x.items.filter fun i => i.ended && !i.complete).length
    itemsOut := satAdd top32 x.itemsOut (flushCounts x).1
    voided := satAdd top32 x.voided (flushCounts x).2.1
    voiding := x.voiding || decide (0 < (flushCounts x).2.1) }

theorem queue_qFlush_self {q : Nat} {s : State} (hq : q < s.pound.queues.length) :
    sansWeir ((qFlush q s).queue q) = sansWeir (flushed (s.queue q)) := queue_changeQueue_self q _ _ s hq

theorem queue_qFlush_ne {q p : Nat} (hp : p ≠ q) (s : State) : (qFlush q s).queue p = s.queue p :=
  queue_changeQueue_ne q _ _ s hp

theorem not_mem_used_qFlush {q c : Nat} {s : State} {i : Item} (hi : i ∈ (s.queue q).held ++ (s.queue q).items)
    (hc : c ∈ i.cells) : c ∉ (qFlush q s).pound.used := by
  have hfreed : c ∈ (((s.queue q).held ++ (s.queue q).items).map (·.cells)).flatten :=
    List.mem_flatten.mpr ⟨i.cells, List.mem_map_of_mem hi, hc⟩
  intro hused
  rw [qFlush, changeQueue_used, List.mem_filter, List.contains_iff_mem.mpr hfreed] at hused
  exact Bool.false_ne_true hused.2

/-! ### The open item and the level of a queue (R359, R375) -/

/-- The items before the open one. -/
def endedItems (x : Queue) : List Item := if x.openItem.isSome then x.items.dropLast else x.items

theorem level_with_items (x : Queue) (l : List Item) :
    ({ x with items := l } : Queue).level = (x.held.map (·.cells.length)).sum + (l.map (·.cells.length)).sum := by
  simp only [Queue.level, List.map_append, List.sum_append]

/-- An open item is the last of its queue. -/
theorem items_eq_of_openItem {x : Queue} {i : Item} (h : x.openItem = some i) : x.items = x.items.dropLast ++ [i] := by
  obtain ⟨hlast, -⟩ := Option.filter_eq_some_iff.mp h
  obtain ⟨l, hitems⟩ := List.getLast?_eq_some_iff.mp hlast
  rw [hitems, List.dropLast_concat]

/-- The level of a queue is that of its items before the open one, and the cells of the open one. -/
theorem level_eq_add_openItem (x : Queue) :
    x.level = ({ x with items := endedItems x } : Queue).level + (x.openItem.getD {}).cells.length := by
  have hlevel : x.level = (x.held.map (·.cells.length)).sum + (x.items.map (·.cells.length)).sum := level_with_items x x.items
  rw [hlevel, level_with_items, endedItems]
  cases hopen : x.openItem with
  | none => rfl
  | some i =>
    have hitems := congrArg (fun l : List Item => (l.map (·.cells.length)).sum) (items_eq_of_openItem hopen)
    simp only [List.map_append, List.sum_append, List.map_cons, List.map_nil, List.sum_singleton] at hitems
    simp only [Option.isSome_some, if_true, Option.getD_some]
    omega

/-! ### PUT (Table 12-2, R361) -/

theorem length_takeCells_le (p : Pound) (n : Nat) : (takeCells p n).1.length ≤ n := by
  induction n generalizing p with
  | zero => exact Nat.le_refl 0
  | succ n ih =>
    unfold takeCells
    split
    · exact Nat.zero_le _
    · exact Nat.succ_le_succ (ih _)

/-- The cells that a PUT of `l` asks for beyond those that the open item has. -/
def cellsAsked (x : Queue) (l : List Byte) : Nat :=
  ceilDiv ((x.openItem.getD {}).bytes.length + l.length) 256 - (x.openItem.getD {}).cells.length

/-- The open item with the bytes of a PUT and the cells taken for them. -/
def putOpen (x : Queue) (l : List Byte) (cells : List Nat) : Item :=
  { x.openItem.getD {} with bytes := (x.openItem.getD {}).bytes ++ l, cells := (x.openItem.getD {}).cells ++ cells }

/-- A PUT whose cells the quota and the common area allow never passes the quota. -/
theorem level_putOpen_le {s : State} {q : Nat} {l : List Byte} (hmay : mayTake s.pound q (cellsAsked (s.queue q) l) = true)
    {cells : List Nat} (hcells : cells.length ≤ cellsAsked (s.queue q) l) :
    ({ s.queue q with items := endedItems (s.queue q) ++ [putOpen (s.queue q) l cells] } : Queue).level ≤ (s.queue q).quota := by
  have hquota : (s.queue q).level + cellsAsked (s.queue q) l ≤ (s.queue q).quota :=
    of_decide_eq_true (Bool.and_eq_true_iff.mp hmay).1
  have hlevel := level_eq_add_openItem (s.queue q)
  rw [level_with_items (s.queue q) (endedItems _)] at hlevel
  rw [level_with_items]
  simp only [putOpen, List.map_append, List.sum_append, List.map_cons, List.map_nil, List.sum_singleton, List.length_append]
  omega

section
variable {q : Nat} {l : List Byte} {s : State}

theorem qPut_of_voiding (hv : (s.queue q).voiding = true) : qPut q l s = setCode .discarded s := by
  simp only [qPut, hv, if_true]

/-- An item that grows too long ends void and gives its cells back. -/
theorem qPut_of_too_long (hv : (s.queue q).voiding = false)
    (hlong : 256 * (s.queue q).maxItem < ((s.queue q).openItem.getD {}).bytes.length + l.length) :
    qPut q l s = setCode .tooLong (changeQueue q ((s.queue q).openItem.getD {}).cells
      (fun x => { x with items := endedItems x, voiding := true, voided := inc32 x.voided }) s) := by
  simp only [qPut, hv, Bool.false_eq_true, if_false, if_pos hlong, endedItems]

theorem qPut_of_not_allowed (hv : (s.queue q).voiding = false)
    (hfit : ((s.queue q).openItem.getD {}).bytes.length + l.length ≤ 256 * (s.queue q).maxItem)
    (hmay : mayTake s.pound q (cellsAsked (s.queue q) l) = false) :
    qPut q l s = setCode .full (s.mapQueue q fun x => { x with quotaRefusals := inc32 x.quotaRefusals }) := by
  simp only [qPut, hv, Bool.false_eq_true, if_false, if_neg (Nat.not_lt.mpr hfit), ← cellsAsked.eq_def, hmay, Bool.not_false,
    if_true]

theorem qPut_of_allowed (hv : (s.queue q).voiding = false)
    (hfit : ((s.queue q).openItem.getD {}).bytes.length + l.length ≤ 256 * (s.queue q).maxItem)
    (hmay : mayTake s.pound q (cellsAsked (s.queue q) l) = true) :
    qPut q l s = setCode .ok (changeQueue q []
      (fun x => { x with items := endedItems x ++ [putOpen (s.queue q) l (takeCells s.pound (cellsAsked (s.queue q) l)).1] })
      { s with pound := (takeCells s.pound (cellsAsked (s.queue q) l)).2 }) := by
  simp only [qPut, hv, Bool.false_eq_true, if_false, if_neg (Nat.not_lt.mpr hfit), ← cellsAsked.eq_def, hmay, Bool.not_true,
    endedItems, putOpen]

theorem queue_of_length_le (hq : s.pound.queues.length ≤ q) : s.queue q = {} := by
  rw [State.queue, at_, List.getD_eq_getElem?_getD, List.getElem?_eq_none hq]
  rfl

theorem qPut_queues_length (q : Nat) (l : List Byte) (s : State) : (qPut q l s).pound.queues.length = s.pound.queues.length :=
  congrArg (fun t => t.frame.banks.getD 13 0) (still_qPut q l s)

theorem queue_takeCells (s : State) (n p : Nat) : ({ s with pound := (takeCells s.pound n).2 } : State).queue p = s.queue p :=
  congrArg (at_ · p) (takeCells_queues ..)

/-- A PUT keeps the level within the quota: a queue that does not exist has no cells, and each branch of a PUT to another one
leaves the level, lowers it, or raises it by what `mayTake` allows. -/
theorem level_le_quota_qPut (hle : (s.queue q).level ≤ (s.queue q).quota) :
    ((qPut q l s).queue q).level ≤ ((qPut q l s).queue q).quota := by
  rcases Nat.lt_or_ge q s.pound.queues.length with hq | hq
  · cases hv : (s.queue q).voiding with
    | true => rw [qPut_of_voiding hv]; exact hle
    | false =>
      rcases Nat.lt_or_ge (256 * (s.queue q).maxItem) (((s.queue q).openItem.getD {}).bytes.length + l.length) with hlong | hfit
      · rw [qPut_of_too_long hv hlong]
        exact level_le_quota_changeQueue hq (Nat.le_trans (Nat.le_add_right ..) (level_eq_add_openItem (s.queue q) ▸ hle))
      · cases hmay : mayTake s.pound q (cellsAsked (s.queue q) l) with
        | false =>
          rw [qPut_of_not_allowed hv hfit hmay, queue_setCode, queue_mapQueue_self _ _ _ hq]
          exact hle
        | true =>
          rw [qPut_of_allowed hv hfit hmay]
          refine level_le_quota_changeQueue (by rwa [takeCells_queues]) ?_
          rw [queue_takeCells]
          exact level_putOpen_le hmay (length_takeCells_le ..)
  · rw [queue_of_length_le (Nat.le_trans (Nat.le_of_eq (qPut_queues_length q l s)) hq)]
    exact Nat.le_refl 0

end

/-- What refuses cells: the quota, or for a common queue the common area (R361). -/
theorem mayTake_eq_false_iff (s : State) (q n : Nat) : mayTake s.pound q n = false ↔
    (s.queue q).quota < (s.queue q).level + n ∨
      ((s.queue q).reserved = false ∧ (if q = 0 ∨ q = 16 then 4096 else 3840) < commonHeld s.pound + n) := by
  simp only [mayTake, ← State.queue.eq_def, Bool.and_eq_false_iff, Bool.or_eq_false_iff, decide_eq_false_iff_not, Nat.not_le,
    Bool.or_eq_true, decide_eq_true_eq]

/-! ### The clients of a queue (R366, R367, R371) -/

section
variable {q c : Nat} {s : State} {op : State → State}

/-- An operation of a queue's own producer is carried out. -/
theorem next_byProducer (hc : c ≠ 0) (hs : (s.queue q).state ≠ .absent) (hp : (s.queue q).producer = c) :
    (.next (byProducer q c op s) : Out) = .next (op s) := congrArg _ (if_pos ⟨hs, hp, hc⟩)

/-- An operation of a queue's own consumer is carried out. -/
theorem next_byConsumer (hc : c ≠ 0) (hs : (s.queue q).state ≠ .absent) (hp : (s.queue q).consumer = c) :
    (.next (byConsumer q c op s) : Out) = .next (op s) := congrArg _ (if_pos ⟨hs, hp, hc⟩)

end

theorem afterFlush_of_pending {q : Nat} {s : State} (h : (s.queue q).flushPending = true) (op : State → State) :
    afterFlush q s op = setCode .flushed (s.mapQueue q fun x => { x with flushPending := false }) := if_pos h

theorem afterFlush_of_not_pending {q : Nat} {s : State} (h : (s.queue q).flushPending = false) (op : State → State) :
    afterFlush q s op = op s := if_neg (Bool.eq_false_iff.mp h)

/-- A GET within the current item, with no faulty cell in the pound, answers the item's bytes from the read position on. -/
theorem qGet_of_current {q n : Nat} {s : State} {i : Item} (hflush : (s.queue q).flushPending = false)
    (hcur : (s.queue q).current = some i) (hoff : (s.queue q).readOff < i.bytes.length) (hbad : s.pound.badCells = []) :
    qGet q n s = setCode .ok ((s.mapQueue q fun x =>
      { x with readOff := x.readOff + ((i.bytes.drop (s.queue q).readOff).take n).length }).mapPound fun p =>
        { p with got := (i.bytes.drop (s.queue q).readOff).take n }) := by
  have hclean (l : List Nat) : (l.find? fun k => s.pound.badCells.contains (i.cells.getD k 0)) = none :=
    List.find?_eq_none.mpr fun k _ => by rw [hbad]; exact Bool.false_ne_true
  rw [qGet, afterFlush_of_not_pending hflush]
  simp only [hcur, if_neg (Nat.not_le.mpr hoff), hclean]

/-! ### Q_CREATE (R381) -/

/-- A queue as Q_CREATE makes it. -/
def createdQueue (b : Barge) : Queue :=
  { state := .created, notify := b.pay 1 1 % 4, maxItem := b.pay 2 2, quota := b.pay 4 2, weirHi := b.pay 8 2,
    weirLo := b.pay 10 2, hiEn := bit (b.pay 0x0C 1) 0, loEn := bit (b.pay 0x0C 1) 1 }

theorem qCreateApply_of_number {b : Barge} (s : State) (hnum : b.pay 0 1 ≠ 0xFF) :
    qCreateApply b s = complete b (.ok (b.pay 0 1)) (s.mapQueue (b.pay 0 1) fun _ => createdQueue b) := by
  simp only [qCreateApply, if_neg hnum, createdQueue]

/-- Number 255 asks for the lowest host queue that is free. -/
theorem qCreateApply_of_any {b : Barge} {s : State} {q : Nat} (hany : b.pay 0 1 = 0xFF) (hfree : freeHostQueue s = some q) :
    qCreateApply b s = complete b (.ok q) (s.mapQueue q fun _ => createdQueue b) := by
  simp only [qCreateApply, if_pos hany, hfree, Option.getD_some, createdQueue]

/-! ### The obligations -/

/-- Settles O50: the flush makes its queue as `flushed` says, but for the weir, and frees the cells of all its items. -/
theorem flushFreesAll : Obligations.FlushFreesAll := by
  intro q s hq
  have hqueue := queue_qFlush_self hq
  exact ⟨congrArg Queue.items hqueue, congrArg Queue.held hqueue, congrArg Queue.level hqueue, congrArg Queue.markOff hqueue,
    congrArg Queue.readOff hqueue, congrArg Queue.flushPending hqueue, congrArg Queue.itemsOut hqueue,
    congrArg Queue.voided hqueue, fun _ hi _ => not_mem_used_qFlush hi, fun _ hp => queue_qFlush_ne hp s⟩

/-- Settles O51: each of the six operations first looks at FLUSH_PENDING; a GET past it reads the current item (R374). -/
theorem flushedOnce : Obligations.FlushedOnce := by
  refine ⟨fun q c n s hc hs hcons hflush i hi => ?_, fun q c n i s hc hs hcons hflush hcur hoff hbad => ?_⟩
  · have hanswer (op : State → State) : (.next (byConsumer q c (afterFlush q · op) s) : Out) =
        .next (setCode .flushed (s.mapQueue q fun x => { x with flushPending := false })) := by
      rw [next_byConsumer hc hs hcons, afterFlush_of_pending hflush]
    simp only [List.mem_cons, List.not_mem_nil, or_false] at hi
    rcases hi with rfl | rfl | rfl | rfl | rfl | rfl <;> exact hanswer _
  · refine ⟨qGet q n s, next_byConsumer hc hs hcons, ?_, ?_⟩ <;> rw [qGet_of_current hflush hcur hoff hbad] <;> rfl

/-- Settles O52: a PUT takes at most the cells that `mayTake` allows, and without its leave takes none. -/
theorem putKeepsQuota : Obligations.PutKeepsQuota :=
  ⟨fun _ _ _ => level_le_quota_qPut,
    fun _ _ _ hv hfit hover => qPut_of_not_allowed hv hfit ((mayTake_eq_false_iff ..).mpr hover)⟩

/-- Settles O15: with its checks passed each of these barges is its effect; that of Q_CREATE has the number given or a free one. -/
theorem poundBarges : Obligations.PoundBarges :=
  ⟨fun _ s hcheck hnum => barge_executed_eq hcheck (qCreateApply_of_number s hnum),
    fun _ _ _ hcheck hany hfree => barge_executed_eq hcheck (qCreateApply_of_any hany hfree),
    barge_executed, barge_executed, barge_executed, barge_executed, barge_executed⟩

/-- Settles O28: the operation of a queue's own client is carried out; a quarter that drains stops draining at its time-out. -/
theorem poundOperations : Obligations.PoundOperations :=
  ⟨fun _ _ _ _ => next_byProducer, fun _ _ _ => next_byProducer, fun _ _ _ => next_byProducer, fun _ _ _ _ => next_byConsumer,
    fun _ _ _ => next_byConsumer, fun _ _ _ => next_byConsumer, fun _ _ _ => next_byConsumer, fun _ _ _ => next_byConsumer,
    fun _ _ _ => next_byConsumer, fun _ _ => rfl, fun _ _ hdrain => congrArg _ (if_pos hdrain)⟩

end Sys2Proof.PoundQueues
end

section
/-! The check-value units (13): the value of a block that a channel begins and finishes, and what the check-value opcodes do once
their checks pass. -/
namespace Sys2Proof.CheckValues
open Sys2Proof Sys2Proof.Machine Sys2Proof.HostLink Sys2Proof.Layers Sys2Proof.PipesAndLinks

/-! ### The check value of one block (R390 to R392) -/

/-- Without a fold, a block with START and FINISH has the value of its bytes alone, run from INIT: its address, SEQ and the value
from before play no part. -/
theorem finish_process_start_of_no_fold {x : Channel} (hfold : x.fold = 0) (addr : Nat) (data : List Byte) :
    (x.process true addr data).finish = crcOut x.width x.refout x.invert (crcRun x.width x.poly x.refin x.init data) := by
  simp [Channel.process, Channel.finish, hfold]

/-! ### Channel order (R388) -/

section
variable {b : Barge} {s : State}

/-- The state with a barge at the end of the order of the channel that it names. -/
def ordered (b : Barge) (s : State) : State :=
  s.mapChan (b.pay 0 1) fun x => { x with order := x.order ++ [{ barge := b }] }

/-- On a channel in service the order goes on, with the barge at its end. -/
theorem joinChannel_of_in_service (hin : (s.chan (b.pay 0 1)).failed = false) :
    joinChannel b s = runOrder (b.pay 0 1) (orderFuel (ordered b s) (b.pay 0 1)) (ordered b s) :=
  if_neg (ne_true_of_eq_false hin)

/-- An opcode that acts in channel order and whose checks pass joins the order of its channel. -/
theorem bargeSync_joinChannel {check : Barge → State → Option Reply} (b : Barge) (s : State) (hcheck : check b s = none)
    (hin : (s.chan (b.pay 0 1)).failed = false) :
    bargeSync check joinChannel b s =
      .next (syncLevels (runOrder (b.pay 0 1) (orderFuel (ordered b s) (b.pay 0 1)) (ordered b s))) :=
  bargeSync_executed_eq hcheck (joinChannel_of_in_service hin)

theorem cvContextSaveApply_of_privileged (hpriv : privilegedChannel s (b.pay 0 1) = true) :
    cvContextSaveApply b s = saveContext b s := if_pos hpriv

theorem cvContextSaveApply_of_general (hgeneral : privilegedChannel s (b.pay 0 1) = false) :
    cvContextSaveApply b s = joinChannel b s := if_neg (ne_true_of_eq_false hgeneral)

/-! ### CV_RESERVE (R394, R415) -/

/-- The state with the reservation that CV_RESERVE asks for. -/
def reserved (b : Barge) (s : State) : State :=
  s.mapChan (b.pay 0 1) fun x =>
    { x with rate := b.pay 8 4, credit := accrueCredit x.rate 16384 x.credit x.creditTime s.time, creditTime := s.time }

/-- What CV_RESERVE asks the admission: the channel, without a reservation in the rest, to have the new one. -/
def reserveRequest (b : Barge) (s : State) : Request :=
  { rest := s.mapChan (b.pay 0 1) fun x => { x with rate := 0 }, new := reserved b s }

theorem cvReserveApply_of_refused {r : Reply} {body : List Byte} (hrate : b.pay 8 4 ≠ 0)
    (hin : (s.chan (b.pay 0 1)).failed = false) (hadm : runAdmission s (reserveRequest b s) = (some r, body)) :
    cvReserveApply b s = complete b r s := by
  simp only [cvReserveApply, hrate, hin, Bool.false_eq_true, if_false, ← reserved.eq_def, ← reserveRequest.eq_def]
  rw [hadm]

/-- An admitted reservation is in force at once; the first of its channel makes the channel's descriptor queue. -/
theorem cvReserveApply_of_admitted {body : List Byte} (hrate : b.pay 8 4 ≠ 0)
    (hin : (s.chan (b.pay 0 1)).failed = false) (hadm : runAdmission s (reserveRequest b s) = (none, body)) :
    cvReserveApply b s =
      complete b { report := some body } (readmitIf
        (if (s.chan (b.pay 0 1)).rate = 0 then
          createQueue (cvQueue (b.pay 0 1)) 0x02 (0x20 + b.pay 0 1) true 16 1 (reserved b s) else reserved b s)) := by
  simp only [cvReserveApply, hrate, hin, Bool.false_eq_true, if_false, ← reserved.eq_def, ← reserveRequest.eq_def]
  rw [hadm]

/-! ### FRAME_SIGN_SET (R366, R414) -/

/-- Binding a queue to its producer takes no time. -/
@[simp] theorem bindProducer_time (q client : Nat) (s : State) : (bindProducer q client s).time = s.time := by
  unfold bindProducer
  split <;> rfl

/-- The settings wait at their link from the time at which the barge starts. -/
theorem frameSignSetApply_eq (b : Barge) (s : State) :
    frameSignSetApply b s =
      (bindProducer (signQueue b) (0x20 + 12 + b.pay 0 1 % 4) s).mapSign (b.pay 0 1) fun x =>
        { x with sets := x.sets ++ [{ barge := b, start := s.time }] } := by
  simp only [frameSignSetApply, bindProducer_time]

end

/-! ### The obligations -/

/-- Settles O39: the value of each row is that of the nine bytes alone, which is computed from the row. -/
theorem checkValuesOfNineDigits : Obligations.CheckValuesOfNineDigits := by
  intro x addr
  simp only [finish_process_start_of_no_fold]
  decide +kernel

/-- Settles O12: five of the clauses join the order of the channel; a privileged save, a signing setting and a reservation, as it
is refused or admitted, have their effect at once. -/
theorem cvBarges : Obligations.CvBarges := by
  refine ⟨bargeSync_joinChannel, bargeSync_joinChannel, fun b s hcheck hin hgeneral => ?contextSave,
    fun _ _ hcheck hpriv => bargeSync_executed_eq hcheck (cvContextSaveApply_of_privileged hpriv), bargeSync_joinChannel,
    fun b s hcheck _ => barge_executed_eq hcheck (frameSignSetApply_eq b s), bargeSync_joinChannel,
    fun b s hcheck hrate hin => bargeSync_executed_eq hcheck ?reserve⟩
  case contextSave =>
    exact bargeSync_executed_eq hcheck ((cvContextSaveApply_of_general hgeneral).trans (joinChannel_of_in_service hin))
  case reserve =>
    split
    next hadm => exact cvReserveApply_of_refused hrate hin hadm
    next hadm => exact cvReserveApply_of_admitted hrate hin hadm

end Sys2Proof.CheckValues
end

section
/-! The event concentrators (14): the source that they take, what an assertion does to a source, and what the barges and
events of the concentrators do once their conditions hold. -/
namespace Sys2Proof.EventConcentrators
open Sys2Proof Sys2Proof.Machine Sys2Proof.Laws Sys2Proof.HostLink Sys2Proof.Layers Sys2Proof.PipesAndLinks

/-! ### The best source (R425, R428) -/

/-- `x` is taken before `y` or is it: its PRIORITY is higher, or the same under a number that is no higher. -/
def NoLater (x y : Nat × Source) : Prop :=
  y.2.priority ≤ x.2.priority ∧ (y.2.priority = x.2.priority → x.1 ≤ y.1)

/-- A source of a list that no other of the list is to be taken before. -/
def IsBest (x : Nat × Source) (l : List (Nat × Source)) : Prop :=
  x ∈ l ∧ ∀ y ∈ l, NoLater x y

/-- The one that is kept when a source is met after another. -/
def better (x y : Nat × Source) : Nat × Source := if x.2.priority < y.2.priority then y else x

section
variable {x y z : Nat × Source} {l : List (Nat × Source)}

theorem noLater_refl (x : Nat × Source) : NoLater x x := ⟨Nat.le_refl _, fun _ => Nat.le_refl _⟩

theorem NoLater.trans (hxy : NoLater x y) (hyz : NoLater y z) : NoLater x z := by
  obtain ⟨hxy, hxynum⟩ := hxy
  obtain ⟨hyz, hyznum⟩ := hyz
  refine ⟨Nat.le_trans hyz hxy, fun heq => ?_⟩
  exact Nat.le_trans (hxynum (by omega)) (hyznum (by omega))

/-- Of two sources met in order of number the better one is taken before both, or is the one of them. -/
theorem isBest_better (hnum : x.1 < y.1) : IsBest (better x y) [x, y] := by
  have hpair (w : Nat × Source) (hw : w ∈ [x, y]) (hx : NoLater w x) (hy : NoLater w y) : IsBest w [x, y] :=
    ⟨hw, List.forall_mem_cons.mpr ⟨hx, List.forall_mem_singleton.mpr hy⟩⟩
  unfold better
  split
  next hlt => exact hpair y (.tail _ (.head _)) ⟨Nat.le_of_lt hlt, fun heq => by omega⟩ (noLater_refl y)
  next hge => exact hpair x (.head _) (noLater_refl x) ⟨Nat.not_lt.mp hge, fun _ => Nat.le_of_lt hnum⟩

/-- The best source of a list is still the best when the first is found to be the better of two. -/
theorem IsBest.cons_cons (hz : IsBest z [x, y]) {w : Nat × Source} (hw : IsBest w (z :: l)) : IsBest w (x :: y :: l) := by
  obtain ⟨hzmem, hzbest⟩ := hz
  obtain ⟨hwmem, hwbest⟩ := hw
  obtain ⟨hwz, hwl⟩ := List.forall_mem_cons.mp hwbest
  have hwxy (v : Nat × Source) (hv : v ∈ [x, y]) : NoLater w v := hwz.trans (hzbest v hv)
  refine ⟨?_, List.forall_mem_cons.mpr ⟨hwxy x (.head _), List.forall_mem_cons.mpr ⟨hwxy y (.tail _ (.head _)), hwl⟩⟩⟩
  rcases List.mem_cons.mp hwmem with rfl | hwl
  · exact List.mem_append_left l hzmem
  · exact .tail _ (.tail _ hwl)

theorem bestSource_singleton (x : Nat × Source) : bestSource [x] = some x := rfl

theorem bestSource_cons_cons (x y : Nat × Source) (l : List (Nat × Source)) :
    bestSource (x :: y :: l) = bestSource (better x y :: l) := by
  unfold better
  split
  next hlt => simp only [bestSource, List.foldl_cons, if_pos hlt]
  next hge => simp only [bestSource, List.foldl_cons, if_neg hge]

theorem bestSource_cons_ne_none (x : Nat × Source) (l : List (Nat × Source)) : bestSource (x :: l) ≠ none := by
  induction l generalizing x with
  | nil => exact Option.some_ne_none x
  | cons y l ih => exact bestSource_cons_cons x y l ▸ ih (better x y)

theorem bestSource_eq_none_iff : bestSource l = none ↔ l = [] := by
  cases l with
  | nil => exact iff_of_true rfl rfl
  | cons x l => exact iff_of_false (bestSource_cons_ne_none x l) (List.cons_ne_nil x l)

/-- The numbers rise, so that of two sources of one PRIORITY the first met has the lower number. -/
theorem isBest_of_bestSource_cons (hl : ((x :: l).map (·.1)).Pairwise (· < ·)) {w : Nat × Source}
    (hw : bestSource (x :: l) = some w) : IsBest w (x :: l) := by
  induction l generalizing x with
  | nil =>
    rw [← Option.some.inj hw]
    exact ⟨.head _, List.forall_mem_singleton.mpr (noLater_refl x)⟩
  | cons y l ih =>
    obtain ⟨hx, hyl⟩ := List.pairwise_cons.mp hl
    have hrest : ((better x y :: l).map (·.1)).Pairwise (· < ·) := by
      unfold better
      split
      · exact hyl
      · exact List.pairwise_cons.mpr ⟨fun n hn => hx n (.tail _ hn), (List.pairwise_cons.mp hyl).2⟩
    exact (isBest_better (hx y.1 (.head _))).cons_cons (ih hrest (bestSource_cons_cons x y l ▸ hw))

theorem isBest_of_bestSource (hl : (l.map (·.1)).Pairwise (· < ·)) (hx : bestSource l = some x) : IsBest x l := by
  cases l with
  | nil => cases hx
  | cons y l => exact isBest_of_bestSource_cons hl hx

end

/-! ### Assertions and levels of a source (R420, R430) -/

theorem source_mapSource_host (s : State) (n : Nat) (f) (h : n < s.events.host.length) :
    (s.mapSource true n f).source true n = f (s.source true n) :=
  (at_modify s.events.host f n n h).trans (if_pos rfl)

theorem source_mapSource_host_ne (s : State) {n m : Nat} (f) (h : m ≠ n) :
    (s.mapSource true n f).source true m = s.source true m :=
  at_modify_ne s.events.host f n m h

/-- The internal concentrator has sources of its own. -/
@[simp] theorem source_host_mapSource_internal (s : State) (n m : Nat) (f) :
    (s.mapSource false n f).source true m = s.source true m := rfl

section
variable {r : EvRec} {x : Source}

theorem assert_of_disabled (h : x.enabled = false) : x.assert r = x := by
  simp [Source.assert, h]

theorem assert_of_room (h : x.enabled = true) (hroom : x.fifo.length + x.passed.length < 4) :
    x.assert r = { x with fifo := x.fifo ++ [r], pending := true } := by
  simp [Source.assert, h, Nat.not_le.mpr hroom]

theorem assert_of_full (h : x.enabled = true) (hfull : 4 ≤ x.fifo.length + x.passed.length) :
    x.assert r = { x with lost := inc32 x.lost, lostTold := x.lostTold + 1 } := by
  simp [Source.assert, h, hfull]

end

/-- An event of a host source asserts that source; its mirror is of the internal concentrator. -/
theorem source_raise (n code : Nat) (l : List Byte) (s : State) (h : n < s.events.host.length) :
    (raise n code l s).source true n =
      (s.source true n).assert { code, source := n, time := s.time, data := padTo 20 l } := by
  simp only [raise, raiseAt, source_host_mapSource_internal, source_mapSource_host s n _ h]

theorem source_raise_ne (n code : Nat) (l : List Byte) (s : State) {m : Nat} (h : m ≠ n) :
    (raise n code l s).source true m = s.source true m := by
  simp only [raise, raiseAt, source_host_mapSource_internal, source_mapSource_host_ne s _ h]

theorem execEdgeAssertion_host {n : Nat} (code : Nat) (l : List Byte) (s : State) (hedge : levelKind n = false)
    (hn : n ≤ 175) : execEdgeAssertion true n code l s = .next (raise n code l s) := by
  simp [execEdgeAssertion, hedge, Nat.not_lt.mpr hn]

theorem execEdgeAssertion_internal {n : Nat} (code : Nat) (l : List Byte) (s : State) (hedge : internalLevelKind n = false)
    (hn : n ≤ 63) : execEdgeAssertion false n code l s = .next (raiseInternal n code l s) := by
  simp [execEdgeAssertion, hedge, Nat.not_lt.mpr hn]

theorem execLevelChange_host {n : Nat} (on : Bool) (s : State) (hlevel : levelKind n = true) :
    execLevelChange true n on s = .next (setLevel n on s) := by
  simp [execLevelChange, hlevel]

theorem execLevelChange_internal {n : Nat} (on : Bool) (s : State) (hlevel : internalLevelKind n = true) (hn : n < 64) :
    execLevelChange false n on s = .next (s.mapSource false n (Source.setLevel on s.time)) := by
  simp [execLevelChange, hlevel, hn]

/-! ### Event rings and vectors (R429, R431, R434, R441) -/

theorem eventRingDeleteApply_of_discard {b : Barge} {s : State} (hk : b.pay 0 1 < 16) (hdiscard : bit (b.pay 1 1) 0 = true) :
    eventRingDeleteApply b s =
      complete b (.ok (flushCounts (s.queue (s.evRing (b.pay 0 1)).queue)).1)
        (qFlush (s.evRing (b.pay 0 1)).queue (s.mapEvRing (b.pay 0 1) fun _ => {})) := by
  simp [eventRingDeleteApply, hk, hdiscard]

/-- Without a record queue of its own, a queue ring gives back the consumer's place in the queue that it read. -/
theorem eventRingDeleteApply_of_queueRing {b : Barge} {s : State} (hk : 16 ≤ b.pay 0 1) :
    eventRingDeleteApply b s =
      complete b (.ok 0) (unbindConsumer (s.evRing (b.pay 0 1)).queue (s.mapEvRing (b.pay 0 1) fun _ => {})) := by
  simp [eventRingDeleteApply, hk, Nat.not_lt.mpr hk]

/-- A head within the ring that frees no more entries than wait is taken. -/
theorem execHeadDb_of_good {k : Nat} {v : Word32} {s : State} (hactive : (s.evRing k).state = 1)
    (hsize : v.toNat % 2 ^ 16 < 2 ^ (s.evRing k).sizeLog2)
    (hwaiting : (v.toNat % 2 ^ 16 + 2 ^ (s.evRing k).sizeLog2 - (s.evRing k).head) % 2 ^ (s.evRing k).sizeLog2 ≤
      (s.evRing k).waiting) :
    execHeadDb k v s = .next (s.mapEvRing k fun r => { r with head := v.toNat % 2 ^ 16 }) := by
  simp only [execHeadDb, hactive, decide_eq_false (Nat.not_le.mpr hsize), decide_eq_false (Nat.not_lt.mpr hwaiting),
    bne_self_eq_false, Bool.or_self, Bool.false_eq_true, if_false]

theorem execEventEntryWrite_of_ready {k : Nat} {s : State} (hready : entryReady s k = true) (hd0 : s.host.dstate = .d0) :
    execEventEntryWrite k s = .next (writeEntry k false s) := by
  simp [execEventEntryWrite, hready, hd0]

theorem execHoldoffTimerExpiry_of_pending {v t : Nat} {s : State} (htimer : (s.vector v).timer = some t)
    (hpending : ((s.atTime t).vector v).pending = true) (hd0 : (s.atTime t).host.dstate = .d0) :
    execHoldoffTimerExpiry v s =
      .next (startTimer v ((sendMsi v (s.atTime t)).mapVector v fun x => { x with pending := false, count := 0 })) := by
  simp only [execHoldoffTimerExpiry, htimer, hpending, hd0, if_true]

/-! ### Claims (R422, R425) -/

theorem execComplete_of_active {v : Word32} {s : State} (h : (s.source true (v.toNat % 256)).active = true) :
    execComplete v s = .next (s.mapSource true (v.toNat % 256) fun x => x.complete (levelKind (v.toNat % 256))) :=
  congrArg _ (if_pos h)

theorem execComplete_of_idle {v : Word32} {s : State} (h : (s.source true (v.toNat % 256)).active = false) :
    execComplete v s = .next (s.mapEvents fun e => { e with badCompletes := inc32 e.badCompletes }) :=
  congrArg _ (if_neg (ne_true_of_eq_false h))

/-- The numbered internal sources that a pair may claim. -/
def claimables (p : Nat) (s : State) : List (Nat × Source) :=
  (s.events.internal.zipIdx.map fun x => (x.2, x.1)).filter fun x => claimable s (at_ s.events.pairs p) x.1 x.2

/-- The state after a pair has claimed source `n`, which is `x`. -/
def claimed (p n : Nat) (x : Source) (s : State) : State :=
  (((markDue (x.ready n (internalLevelKind n) s.time)).foldl (fun t r => (putItem 16 (evBytes r false false) t).getD t)
    s).mapSource false n fun y =>
      { y with active := true, pending := false, claimHigh := y.level, fifo := [], lostTold := 0 }).mapEvents fun e =>
        { e with
          tiePair := if decide ((at_ s.events.pairs 0).running = (at_ s.events.pairs 1).running) then p else e.tiePair
          pairs := e.pairs.modify p fun y => { y with claims := (n, x.priority) :: y.claims, lastClaim := n } }

section
variable {p : Nat} {s : State} (hgood : s.faults.pairBad.getD p true = false)
include hgood

theorem execClaim_of_none (hbest : bestSource (claimables p s) = none) :
    execClaim p s = .next (s.mapEvents fun e =>
      { e with pairs := e.pairs.modify p fun x => { x with lastClaim := 0x100 } }) := by
  rw [claimables] at hbest
  simp only [execClaim, hgood, hbest, Bool.false_eq_true, if_false]

theorem execClaim_of_some {n : Nat} {x : Source} (hbest : bestSource (claimables p s) = some (n, x)) :
    execClaim p s = .next (claimed p n x s) := by
  rw [claimables] at hbest
  simp only [execClaim, hgood, hbest, Bool.false_eq_true, if_false, claimed]

end

theorem execPairComplete_of_claimed {p : Nat} {v : Word32} {s : State}
    (h : ((at_ s.events.pairs p).claims.any fun c => c.1 = v.toNat % 256) = true) :
    execPairComplete p v s =
      .next ((s.mapSource false (v.toNat % 256) fun x => x.complete (internalLevelKind (v.toNat % 256))).mapEvents fun e =>
        { e with pairs := e.pairs.modify p fun y => { y with claims := y.claims.filter fun c => c.1 != v.toNat % 256 } }) :=
  congrArg _ (if_pos h)

/-! ### The obligations -/

/-- Settles O53: by induction on the list, whose first two sources count as the better of them. -/
theorem bestSource : Obligations.BestSource :=
  fun _ hl => ⟨bestSource_eq_none_iff, fun _ hx => isBest_of_bestSource hl hx⟩

/-- Settles O54: the event reaches its own source alone, and that source's state decides what the assertion does. -/
theorem recordsLost : Obligations.RecordsLost := by
  intro n code l s hedge hn hlen
  have hsource := source_raise n code l s hlen
  refine ⟨raise n code l s, execEdgeAssertion_host code l s hedge hn, fun m hm => source_raise_ne n code l s hm,
    fun hoff => ?disabled, fun hon hroom => ?kept, fun hon hfull => ?lost⟩
  case disabled => rw [hsource, assert_of_disabled hoff]
  case kept =>
    rw [hsource, assert_of_room hon hroom]
    exact ⟨rfl, rfl, rfl⟩
  case lost =>
    rw [hsource, assert_of_full hon hfull]
    exact ⟨rfl, rfl⟩

/-- Settles O16: with its checks passed each of these barges is its effect; that of EVENT_RING_DELETE depends on the ring's number
and DISCARD. -/
theorem eventAndPowerBarges : Obligations.EventAndPowerBarges :=
  ⟨barge_executed, fun _ _ hcheck hk hdiscard => barge_executed_eq hcheck (eventRingDeleteApply_of_discard hk hdiscard),
    fun _ _ hcheck hk => barge_executed_eq hcheck (eventRingDeleteApply_of_queueRing hk), barge_executed, barge_executed,
    barge_executed, barge_executed, barge_executed, barge_executed, barge_executed, bargeSync_executed, barge_executed,
    barge_executed⟩

/-- Settles O22: the kind of the source, the ring or vector and the claims of the pair choose one branch of each of these events;
RECORD_MOVE and FIRMWARE_TICK have one effect. -/
theorem concentrator : Obligations.Concentrator :=
  ⟨fun _ => execEdgeAssertion_host, fun _ => execEdgeAssertion_internal, fun _ => execLevelChange_host,
    fun _ => execLevelChange_internal, fun _ => rfl, fun _ _ => execComplete_of_active, fun _ _ => execComplete_of_idle,
    fun _ _ hodd => congrArg _ (if_pos hodd), fun _ _ _ => execHeadDb_of_good, fun _ _ => execEventEntryWrite_of_ready,
    fun _ _ _ => execHoldoffTimerExpiry_of_pending, fun _ => rfl, fun _ _ => execClaim_of_none,
    fun _ _ _ _ hgood => execClaim_of_some hgood, fun _ _ _ => execPairComplete_of_claimed⟩

end Sys2Proof.EventConcentrators
end

section
/-! Recording and the content store (15): what the recording, store and drive opcodes do once their checks pass, and the events of
the encoders, the segments and the drive. -/
namespace Sys2Proof.RecordingAndStore
open Sys2Proof Sys2Proof.Machine Sys2Proof.HostLink Sys2Proof.Layers Sys2Proof.PipesAndLinks

/-! ### Streams (R467, R468) -/

section
variable {b : Barge} {s : State}

/-- What REC_STREAM_ADD asks the admission: the stream with its encoder, or the region that did not fit. -/
def streamRequest (b : Barge) (s : State) : Request :=
  { rest := s, new := (withStream b s).1, stream := b.pay 0 1, memFail := (withStream b s).2 }

/-- An admitted stream waits for its first frame (log 110); the open segment closes before it joins (R451). -/
theorem recStreamAddApply_of_admitted (hadm : (runAdmission s (streamRequest b s)).1 = none) :
    recStreamAddApply b s =
      markCommitted b (noteReport b (runAdmission s (streamRequest b s)).2 (withStream b (closeSegment s)).1) := by
  simp only [recStreamAddApply, ← streamRequest.eq_def, hadm]

/-- A stream whose ADD has completed leaves no barge behind. -/
theorem recStreamRemoveApply_of_added (hadd : (s.stream (b.pay 0 1)).add = none) :
    recStreamRemoveApply b s = complete b .ok (readmitIf (withoutStream (b.pay 0 1) (closeSegment s))) := by
  simp only [recStreamRemoveApply, hadd]

/-! ### Drive commands of the content store (R471, R472, R473) -/

theorem storeWriteApply_of_free {g : Nat × Nat}
    (hfree : ((freeStore s).find? fun x => decide (ceilDiv (b.pay 16 4) mib ≤ x.2)) = some g) :
    storeWriteApply b s =
      issueWrite (.storeData b) (g.1 * mib)
        ((devRead 0x32 4 (b.pay 8 8) (b.pay 16 4) s).1.map fun o => o.getD (BitVec.ofNat 8 (Config.freeNat s.free))) false
        (devRead 0x32 4 (b.pay 8 8) (b.pay 16 4) s).2.2.takeFree := by
  simp only [storeWriteApply, hfree]

theorem storeReadApply_of_place {p : Nat × Nat} (hplace : readPlace s b = some p) :
    storeReadApply b s = issue (.storeRead b) 2 p.1 (4096 * ceilDiv p.2 4096) [] false s := by
  simp only [storeReadApply, hplace]

theorem programmeLoadApply_of_entry {e : StoreEntry} (hentry : storeFind s (b.pay 0 4) = some e) :
    programmeLoadApply b s = issue (.programmeRead b) 2 (e.first * mib) (4096 * ceilDiv e.length 4096) [] false s := by
  simp only [programmeLoadApply, hentry]

end

/-! ### Segments, manifests and wear credit (R450 to R452, R454, R458, R459) -/

section
variable {s : State}

theorem execSegmentClose_of_open {x : Segment} (hopen : openSegment s = some x) :
    execSegmentClose s = .next (closeSegment (endBursts (s.atTime (x.openTime + 10000000000)))) := by
  simp only [execSegmentClose, hopen]

/-- Once the boot slot is written, segments are written. -/
theorem execSegmentWrite_of_bootSlotDone (hwrite : writable s = true) (hslot : s.recording.bootSlotDone = true) :
    execSegmentWrite s = .next (writeSegment (endBursts s)) := by
  simp only [execSegmentWrite, hwrite, hslot, if_true]

theorem execManifestClose_of_unlisted (hout : s.mode.contain = false) (hsome : s.recording.unlisted ≠ []) :
    execManifestClose s = .next (closeManifest (s.atTime (s.recording.manOpen + 30000000000))) := by
  simp only [execManifestClose, hout, List.isEmpty_eq_false_iff.mpr hsome, Bool.or_self, Bool.false_eq_true, if_false]

theorem execManifestWrite_of_writable (hwrite : writable s = true) : execManifestWrite s = .next (writeManifest s) :=
  congrArg _ (if_pos hwrite)

theorem execSuperblockUpdateTimer_of_writable (hwrite : writable s = true) :
    execSuperblockUpdateTimer s = .next (issueSuper false (s.atTime (s.recording.superTime + 10000000000))) :=
  congrArg _ (if_pos hwrite)

/-- Each second the credit gains the drive's rate and loses what was written. -/
theorem execCreditTick_of_own (hown : s.recording.drive = .own) :
    execCreditTick s =
      .next (endBursts (chargeCredit ((s.recording.super.rate : Int) - (s.recording.lastSecond : Int))
        (s.mapRec fun r => { r with lastSecond := 0 }))) :=
  congrArg _ (if_neg (not_not_intro hown))

theorem execLedgerCompare_of_open (n k : Nat) (hopen : driveOpen s = true) :
    execLedgerCompare n k s =
      .next (s.mapRec fun r =>
        { r with smartBytes := n, percentUsed := k, compared := (r.super.ledgerBytes, n) }) := by
  simp only [execLedgerCompare, hopen, Bool.not_true, Bool.false_eq_true, if_false]

/-! ### The drive and its commands (R448, R449, R461) -/

theorem execDriveInserted_of_absent (d : DriveFacts) (habsent : s.recording.present = false) :
    execDriveInserted d s =
      done (startAttach (s.mapRec fun r =>
        { r with
          present := true, prepared := false, driveIdent := d.ident, driveMib := d.mib, driveGood := d.supported
          disk := diskOf d.bytes, smartBytes := d.smartBytes, percentUsed := d.percentUsed })) :=
  congrArg done (if_neg (ne_true_of_eq_false habsent))

theorem execDriveRateTestEnd_of_testing (k : Nat) (htest : s.recording.testing = true) (hout : s.mode.contain = false) :
    execDriveRateTestEnd k s = done (endAttach k s) := by
  simp only [execDriveRateTestEnd, htest, hout, Bool.not_false, Bool.and_self, if_true]

/-- A drive that was attached takes its state with it (log 106). -/
theorem execDriveRemoved_of_attached (hpresent : s.recording.present = true) (hdrive : s.recording.drive ≠ .none) :
    execDriveRemoved s =
      done ((driveGone none s).mapRec fun r =>
        { r with present := false, prepared := false, driveMib := 0, driveGood := false, disk := [] }) := by
  simp only [execDriveRemoved, hpresent, hdrive, decide_false, Bool.false_and, Bool.not_true, Bool.false_eq_true, if_false]

section
variable {i : Nat} {c : NvmeCmd} (hcmd : commandOf s i = some c) (hout : s.mode.contain = false)
include hcmd hout

theorem execNvmeCommandTimeout_of_command (n : Nat) :
    execNvmeCommandTimeout i n s = done (commandFailed c n (if n = 0 then s.atTime (c.time + 2000000000) else s)) := by
  simp only [execNvmeCommandTimeout, hcmd, hout, Bool.false_eq_true, if_false]

/-- A command without error that is not a read lands what it wrote; its data operand is not used. -/
theorem execNvmeCommandComplete_of_not_read (l : List Byte) (hgood : sectorBad c 0 = false) (hop : c.opcode ≠ 2) :
    execNvmeCommandComplete i 0 l s =
      done (advanceClose (commandLanded c (writeLanded c (s.mapRec fun r =>
        { r with cmds := r.cmds.filter fun x => x.id != c.id })))) := by
  simp only [execNvmeCommandComplete, hcmd, hout, hgood, hop, ne_eq, not_true_eq_false, Bool.false_eq_true, if_false]

end

end

/-! ### The obligations -/

/-- Settles O13: with its checks passed each of these barges is its effect, of which the admission and a waiting ADD choose the
branch. -/
theorem recordingBarges : Obligations.RecordingBarges :=
  ⟨fun _ _ hcheck hadm => bargeSync_executed_eq hcheck (recStreamAddApply_of_admitted hadm),
    fun _ _ hcheck hadd => bargeSync_executed_eq hcheck (recStreamRemoveApply_of_added hadd),
    barge_executed, barge_executed, barge_executed⟩

/-- Settles O14: with its checks passed each of these barges is its effect; the place found in the store is where its drive command
goes. -/
theorem storeBarges : Obligations.StoreBarges :=
  ⟨fun _ _ _ hcheck hfree => barge_executed_eq hcheck (storeWriteApply_of_free hfree),
    fun _ _ _ hcheck hplace => barge_executed_eq hcheck (storeReadApply_of_place hplace),
    fun _ _ _ hcheck hentry => barge_executed_eq hcheck (programmeLoadApply_of_entry hentry),
    bargeSync_executed, bargeSync_executed, barge_executed, barge_executed⟩

/-- Settles O29: the drive, CONTAIN and what waits to be written choose one branch of each of these events; ENCODE_FRAME has one
effect. -/
theorem recordingEvents : Obligations.RecordingEvents :=
  ⟨fun _ _ => rfl, fun _ _ => execSegmentClose_of_open, fun _ => execSegmentWrite_of_bootSlotDone,
    fun _ => execManifestClose_of_unlisted, fun _ => execManifestWrite_of_writable,
    fun _ => execSuperblockUpdateTimer_of_writable, fun _ => execCreditTick_of_own, fun n k _ => execLedgerCompare_of_open n k⟩

/-- Settles O30: the drive's presence, its rate test and the command found choose one branch of each of these events. -/
theorem driveEvents : Obligations.DriveEvents :=
  ⟨fun d _ => execDriveInserted_of_absent d, fun k _ => execDriveRateTestEnd_of_testing k,
    fun _ => execDriveRemoved_of_attached, fun _ n _ _ hcmd hout => execNvmeCommandTimeout_of_command hcmd hout n,
    fun _ _ l _ hcmd hout => execNvmeCommandComplete_of_not_read hcmd hout l⟩

end Sys2Proof.RecordingAndStore
end

section
/-! Supply, heat and sprint (16): the events of the supply, the sensors, the power domains and the scrubber. -/
namespace Sys2Proof.PowerAndHeat
open Sys2Proof Sys2Proof.Machine

section
variable {mv : Nat} {s : State}

/-! ### Supply (R477, R478) -/

/-- The first fall below 4,500 mV enters HOLD; a further one only moves the lowest voltage. -/
theorem execVinLow_of_first (hrails : railsOn s = true) (hlow : mv < 4500) (hfirst : s.power.holdLow = false) :
    execVinLow mv s =
      done (supplyEvent 1 mv 0
        (enterHold 7 (fun p => { p with vin := mv, vinSince := none, lowest := mv, holdLow := true }) s)) := by
  simp only [execVinLow, hrails, decide_eq_false (Nat.not_le.mpr hlow), hfirst, Bool.not_true, Bool.or_self, Bool.false_eq_true,
    if_false]

theorem execVinHigh_of_first (hrails : railsOn s = true) (hhigh : 36000 < mv) (hfirst : s.power.holdHigh = false) :
    execVinHigh mv s =
      done (supplyEvent 2 mv 0
        (enterHold 7 (fun p => { p with vin := mv, highest := mv, highSince := s.time, holdHigh := true }) s)) := by
  simp only [execVinHigh, hrails, decide_eq_false (Nat.not_le.mpr hhigh), hfirst, Bool.not_true, Bool.or_self,
    Bool.false_eq_true, if_false]

/-- The state in which a ride-through has ended. -/
def rodeThrough (mv mj : Nat) (s : State) : State :=
  leaveHold (fun p =>
    { p with
      vin := mv, holdLow := false, storeMj := mj, storeCharged := p.storeCharged && decide (p.storeMj ≤ mj)
      rideThroughs := inc32 p.rideThroughs }) s

theorem execVinRestored_of_low (d mj : Nat) (hlow : s.power.holdLow = true) :
    execVinRestored mv d mj s = done (supplyEvent 3 (rodeThrough mv mj s).power.lowest d (rodeThrough mv mj s)) := by
  simp only [execVinRestored, rodeThrough, hlow, Bool.not_true, Bool.false_eq_true, if_false]

/-- The state in which an overvoltage has ended. -/
def overvoltageEnded (mv : Nat) (s : State) : State :=
  leaveHold (fun p => { p with vin := mv, holdHigh := false }) s

theorem execVinHighEnd_of_high (hhigh : s.power.holdHigh = true) (hend : mv ≤ 36000) :
    execVinHighEnd mv s =
      done (supplyEvent 3 (overvoltageEnded mv s).power.highest
        (((overvoltageEnded mv s).time - (overvoltageEnded mv s).power.highSince) / 1000) (overvoltageEnded mv s)) := by
  simp only [execVinHighEnd, overvoltageEnded, hhigh, decide_eq_false (Nat.not_lt.mpr hend), Bool.not_true, Bool.or_self,
    Bool.false_eq_true, if_false]

theorem execHoldUpStoreCharged_of_railsOn (mj : Nat) (hrails : railsOn s = true) :
    execHoldUpStoreCharged mj s =
      done (s.mapPower fun p => { p with storeMj := mj, storeCharged := true, inrush := false }) := by
  simp only [execHoldUpStoreCharged, hrails, Bool.not_true, Bool.false_eq_true, if_false]

/-! ### Domains and the scrubber (R480, R541) -/

/-- The security engine (domain 70) is switched off when nothing waits to be signed. -/
theorem execDomainIdleTimeout_of_security {d : Nat} (hrails : railsOn s = true) (hdom : d = 70)
    (hidle : s.trust.signing = []) :
    execDomainIdleTimeout d s =
      done (s.mapPower fun p => { p with idleOff := p.idleOff.filter (· != d) ++ [d] }) := by
  subst hdom
  simp only [execDomainIdleTimeout, hrails, hidle, List.isEmpty_nil, Bool.not_true, Bool.false_eq_true,
    Nat.reduceEqDiff, or_self, if_false, if_true]

theorem execScrubPassStart_of_first (hrails : railsOn s = true) (hfirst : s.power.scrubStart = none) :
    execScrubPassStart s =
      done ((s.mapPower fun p => { p with scrubStart := some s.time, scrubTicks := 0 }).mapFaults fun f =>
        { f with tracked := [] }) := by
  simp only [execScrubPassStart, hrails, hfirst, Option.isSome_none, Bool.not_true, Bool.false_eq_true, if_false]

/-! ### Heat (R483, R485) -/

theorem execThermalSample_of_railsOff (x y : Int) (l : List Int) (hrails : railsOn s = false) :
    execThermalSample x y l s = done s := by
  simp only [execThermalSample, hrails, Bool.not_false, if_true]

/-- The state in which a sample of the baseplate sensor is taken and the baseplate's estimate is set. -/
def baseplateSampled (y : Int) (s : State) : State :=
  setBaseplate y (s.mapPower fun p => { p with valid := min 2000 (p.valid + 1) })

/-- With every sensor good the sample sets both temperatures, and the limits are checked against the junction before it. -/
theorem execThermalSample_of_good {x : Int} (y : Int) {l : List Int} (hrails : railsOn s = true)
    (hbase : outOfRange x = false) (hjunctions : badJunctions l = []) :
    execThermalSample x y l s =
      done (thermalCheck s.power.tj
        ((baseplateSampled y s).mapPower fun p => { p with tj := hottest (baseplateSampled y s) (l.take 18) }).takeFree) := by
  simp only [execThermalSample, baseplateSampled, hrails, hbase, hjunctions, List.foldl_nil, Bool.not_true, Bool.false_eq_true,
    if_false]

theorem execThermalHoldEnd_of_cool {t : Nat} (hcool : s.power.coolSince = some t) (hheld : s.power.holdThermal = true) :
    execThermalHoldEnd s =
      done (thermalEvent 4 s.power.tb
        (leaveHold (fun p => { p with holdThermal := false }) (s.atTime (t + 10000000000)))) := by
  simp only [execThermalHoldEnd, hcool, hheld, Bool.not_true, Bool.false_eq_true, if_false]

/-! ### Sprint (R487, R489) -/

theorem execSprintBegin_of_wanted (hrest : s.power.sprinting = false) (hpermit : sprintPermitted s = true)
    (hwant : sprintWanted s = true) :
    execSprintBegin s =
      done (s.mapPower fun p => { p with sprinting := true, sprintStart := s.time, sprints := inc32 p.sprints }) := by
  simp only [execSprintBegin, hrest, hpermit, hwant, Bool.not_true, Bool.or_self, Bool.false_eq_true, if_false]

/-- The state in which a sprint has ended for a cause; its span stays for 600 s. -/
def sprintEnded (c : Nat) (s : State) : State :=
  s.mapPower fun p =>
    { p with
      sprinting := false, endCause := c, justEnded := true
      spans := { from_ := s.power.sprintStart / 1000000, upto := s.time / 1000000 } ::
        p.spans.filter fun x => decide (s.time / 1000000 < x.upto + 600000) }

theorem execSprintEnd_of_cause {k c : Nat} (hsprint : s.power.sprinting = true) (hcause : sprintCause s k = some c) :
    execSprintEnd k s =
      done (raise 128 0x0B01
        (leBytes 1 c ++ leBytes 1 (bandOf s.power.tb) ++ leBytes 2 0 ++
          leBytes 4 (s.time / 1000000 - s.power.sprintStart / 1000000)) (sprintEnded c s)) := by
  simp only [execSprintEnd, hsprint, hcause, Bool.not_true, Bool.false_eq_true, if_false]
  rfl

end

/-! ### The obligations -/

/-- Settles O32: the supply, the holds in force and the samples choose one branch of each of these events. -/
theorem supplyAndHeat : Obligations.SupplyAndHeat :=
  ⟨fun _ _ => execVinLow_of_first, fun _ _ => execVinHigh_of_first, fun _ d mj _ => execVinRestored_of_low d mj,
    fun _ _ => execVinHighEnd_of_high, fun mj _ => execHoldUpStoreCharged_of_railsOn mj,
    fun _ _ => execDomainIdleTimeout_of_security, fun x y l _ => execThermalSample_of_railsOff x y l,
    fun _ y _ _ => execThermalSample_of_good y, fun _ _ => execThermalHoldEnd_of_cool, fun _ => execSprintBegin_of_wanted,
    fun _ _ _ => execSprintEnd_of_cause, fun _ => execScrubPassStart_of_first⟩

end Sys2Proof.PowerAndHeat
end

section
/-! Modes, boot and trust (17): what the mode and trust opcodes do once their checks pass, the registers and windows that the host
writes and reads, the vehicle's CAN frames, and the events of the modes. -/
namespace Sys2Proof.ModesAndTrust
open Sys2Proof Sys2Proof.Machine Sys2Proof.HostLink Sys2Proof.Layers Sys2Proof.PipesAndLinks

/-! ### The depot (R514, R531) -/

section
variable {b : Barge} {s : State}

/-- A challenge that is open is told again. -/
theorem depotChallengeApply_of_open {c : List Byte × Nat} (hopen : openChallenge s = some c) :
    depotChallengeApply b s =
      complete b { report := some (c.1 ++ leBytes 8 c.2 ++ leBytes 8 0) } (s.mapMode fun m => { m with challenge := some c }) := by
  simp only [depotChallengeApply, hopen]

/-- A new challenge: 32 random bytes, open for 300 s. -/
def newChallenge (s : State) : List Byte × Nat :=
  ((List.range 32).map (Config.randomByte s.free), s.time + 300000000000)

theorem depotChallengeApply_of_none (hnone : openChallenge s = none) :
    depotChallengeApply b s =
      complete b { report := some ((newChallenge s).1 ++ leBytes 8 (newChallenge s).2 ++ leBytes 8 0) }
        (s.takeFree.mapMode fun m => { m with challenge := some (newChallenge s) }) := by
  simp only [depotChallengeApply, hnone, newChallenge]

theorem depotEnterApply_of_depot (hdepot : s.mode.base = .depot) : depotEnterApply b s = complete b .ok s := if_pos hdepot

theorem depotExitApply_of_depot (hdepot : s.mode.base = .depot) :
    depotExitApply b s = complete b .ok (setBase .service 5 (leaveDepot s)) := congrArg (complete b .ok) (if_pos hdepot)

theorem depotExitApply_of_not_depot (hout : s.mode.base ≠ .depot) : depotExitApply b s = complete b .ok s :=
  congrArg (complete b .ok) (if_neg hout)

/-! ### Patches (R525) -/

theorem patchActivateApply_of_active (hactive : (s.trust.patches.getD (b.pay 0 1) {}).state = .active) :
    patchActivateApply b s = complete b .ok s := if_pos hactive

/-! ### Rollback levels (R538) -/

/-- The fused level of a kind of object raised to that of the object in use; a fuse holds 63 at most. -/
def raisedLevel (kind : Nat) (s : State) : Nat :=
  max (fusedLevel s kind) (min 63 (objLevel ((activeObject s kind).getD [])))

/-- Kind 1 is the patch, which has a fuse of its own. -/
theorem rollbackAdvanceApply_eq (b : Barge) (s : State) :
    rollbackAdvanceApply b s =
      complete b (.ok (raisedLevel (b.pay 0 1) s)) (s.mapTrust fun t =>
        if b.pay 0 1 = 1 then { t with patchFuse := raisedLevel 1 s }
        else { t with configFuse := raisedLevel (b.pay 0 1) s }) := by
  by_cases hkind : b.pay 0 1 = 1
  · simp only [rollbackAdvanceApply, raisedLevel, hkind, if_true]
  · simp only [rollbackAdvanceApply, raisedLevel, if_neg hkind]

end

/-! ### Registers and windows of the host (R19, R58, R60, R61, R512) -/

section
variable {v : Word32} {s : State}

theorem execHeartbeat_of_railsOn (hrails : railsOn s = true) :
    execHeartbeat v s = done (heartbeat (s.mapHost fun h => { h with heartbeat := v })) := congrArg done (if_pos hrails)

theorem execSnap_of_odd (hodd : v.toNat % 2 = 1) :
    execSnap v s = .next (s.mapHost fun h => { h with snap := h.ctr, snapTime := s.time }) := congrArg _ (if_pos hodd)

theorem execAdminEnable_of_even (heven : v.toNat % 2 = 0) :
    execAdminEnable v s = .next (s.mapRing 0 fun r => { r with adminEnable := false }) := by
  have hoff : ¬v.toNat % 2 = 1 := by omega
  simp only [execAdminEnable, hoff, decide_false, Bool.not_false, if_true]

/-- Ring 0 goes from ABSENT to ACTIVE when its registers are good, and its payload queue is made. -/
theorem execAdminEnable_of_absent (hodd : v.toNat % 2 = 1) (habsent : (s.ring 0).state = .absent)
    (hgood : ring0Bad (s.ring 0) = false) :
    execAdminEnable v s =
      .next (createPayloadQueue 0 (s.mapRing 0 fun r =>
        { r with adminEnable := true, state := .active, err := 0, nextSeq := 0 })) := by
  simp only [execAdminEnable, hodd, habsent, hgood, decide_true, Bool.not_true, ne_eq, not_true_eq_false, Bool.false_eq_true,
    if_false]

theorem execAdminReset_of_unstarted (hreset : bit v.toNat 1 = true) (hidle : ((s.ring 0).inflight.any (·.started)) = false) :
    execAdminReset v s = .next (deleteQueue 0 (s.mapRing 0 resetRing0)) := by
  simp only [execAdminReset, hreset, hidle, Bool.not_false, Bool.and_self, if_true]

/-- The highest window of 512 MiB starts at 3,584 times 2 MiB. -/
theorem execBar2Base_of_good (hgood : v.toNat % 4096 ≤ 3584) :
    execBar2Base v s = .next (s.mapHost fun h => { h with bar2Base := v.toNat % 4096 }) := by
  simp only [execBar2Base, if_neg (Nat.not_lt.mpr hgood)]

theorem execBar2Base_of_bad (hbad : 3584 < v.toNat % 4096) :
    execBar2Base v s = .next (s.mapHost fun h => { h with bar2BaseBad := true }) := by
  simp only [execBar2Base, if_pos hbad]

section
variable {off : Nat} (value : Word64)

theorem execRegisterWrite_bar0_of_word (hgood : goodAccess off 4 = true) :
    execRegisterWrite 0 off 4 value s = .next (writeBar0 off (value.toNat % 2 ^ 32) s) := by
  simp only [execRegisterWrite, hgood, Bool.not_true, Bool.false_eq_true, Nat.reduceEqDiff, if_false, if_true]

/-- A write of 8 bytes is the write of its low word, then of its high word. -/
theorem execRegisterWrite_bar0_of_two_words (hgood : goodAccess off 8 = true) :
    execRegisterWrite 0 off 8 value s =
      .next (writeBar0 (off + 4) (value.toNat / 2 ^ 32) (writeBar0 off (value.toNat % 2 ^ 32) s)) := by
  simp only [execRegisterWrite, hgood, Bool.not_true, Bool.false_eq_true, if_false, if_true]

theorem execRegisterWrite_bar0_of_bad {w : Nat} (hbad : goodAccess off w = false) :
    execRegisterWrite 0 off w value s = .next (countBad s) := by
  simp only [execRegisterWrite, hbad, Bool.not_false, if_true]

end

end

/-! ### The vehicle (R464, R517) -/

section
variable {s : State}

theorem execVehicleStateTimeout_of_valid (hvalid : s.can.valid = true) :
    execVehicleStateTimeout s =
      done (setVehicle (fun c => { c with valid := false }) (s.atTime (s.can.tVehicle + 1000000000))) :=
  congrArg done (if_pos hvalid)

theorem execCanFrameReceived_of_canOff (i : Nat) (l : List Byte) (hoff : canOn s = false) :
    execCanFrameReceived i l s = done s := by
  simp only [execCanFrameReceived, hoff, Bool.not_false, Bool.true_or, if_true]

/-- The state with one more frame received. -/
def frameCounted (t : State) : State := { t with can := { t.can with rxFrames := inc32 t.can.rxFrames } }

/-- A frame that the filters take passes queue Q80, then tells the vehicle's state and its stop request. A frame of 8 bytes or less
is within the length of either kind of bus. -/
theorem execCanFrameReceived_of_taken {i : Nat} {l d : List Byte} {t u : State} (hon : canOn s = true)
    (htakes : canTakes s i = true) (hlen : l.length ≤ 8) (hput : putItem 80 (leBytes 4 i ++ l) s = some t)
    (hout : t.mode.contain = false) (htake : takeItem 80 (frameCounted t) = some (d, u)) :
    execCanFrameReceived i l s = done (stopFrame i l (vehicleFrame i l u)) := by
  have hfits : ¬(if bit (imageNum s 0x21 1) 0 then 64 else 8) < l.length := by split <;> omega
  rw [frameCounted] at htake
  simp only [execCanFrameReceived, hon, htakes, decide_eq_false hfits, hput, hout, htake, Bool.not_true, Bool.or_self,
    Bool.false_eq_true, if_false]

theorem execCanTimeout_of_stopValid {g : Programme} (hprog : s.recording.programme = some g)
    (hstop : s.recording.stopValid = true) :
    execCanTimeout s =
      .next (sceneChange (currentScene (s.atTime (s.recording.stopTime + 1000000 * g.canTimeout)))
        ((s.atTime (s.recording.stopTime + 1000000 * g.canTimeout)).mapRec fun r => { r with stopValid := false })) := by
  simp only [execCanTimeout, hprog, hstop, if_true]

/-- The eight bytes of the status frame. -/
def statusFrame (s : State) : List Byte :=
  leBytes 1 s.mode.shown ++ leBytes 1 (bootFlags s) ++ leBytes 1 (faultSummary s) ++ leBytes 1 s.can.alive ++ leBytes 4 0

/-- The state with the alive counter of the status frame gone on. -/
def aliveCounted (s : State) : State := { s with can := { s.can with alive := (s.can.alive + 1) % 256 } }

/-- The status frame passes queue Q81 before it is sent. -/
theorem execStatusCanTx_of_sent {d : List Byte} {t : State} (hon : canOn s = true) (hstatus : bit (imageNum s 0x21 1) 1 = true)
    (hmode : 3 ≤ modeNow s) (hout : s.mode.contain = false)
    (hpass : ((putItem 81 (statusFrame s) (aliveCounted s)).bind fun u => takeItem 81 u) = some (d, t)) :
    execStatusCanTx s = .next (t.send (.can (imageNum t 0x30 4) d)) := by
  rw [statusFrame, aliveCounted] at hpass
  simp only [execStatusCanTx, hon, hstatus, decide_eq_false (Nat.not_lt.mpr hmode), hout, hpass, Bool.not_true, Bool.or_self,
    Bool.false_eq_true, if_false]

theorem execCanBusError_of_canOn (a r : Nat) (hon : canOn s = true) :
    execCanBusError a r s =
      done { s with can := { s.can with tec := min 511 a, rec_ := min 255 r, busOff := decide (255 < a) } } :=
  congrArg done (if_pos hon)

theorem execCanBusOffRecovery_of_busOff (hoff : s.can.busOff = true) :
    execCanBusOffRecovery s = done { s with can := { s.can with tec := 0, rec_ := 0, busOff := false } } :=
  congrArg done (if_pos hoff)

/-! ### Power, ticks, timers and wakes (R479, R491, R502, R506, R512, R516, R531) -/

theorem execVinValid_of_off {mv : Nat} (hoff : s.mode.base = .off) (hvalid : 4500 ≤ mv) :
    execVinValid mv s =
      done ((startBoot 0 0 s.time s).mapPower fun p =>
        { p with vin := mv, inrush := true, vinSince := if 6300 ≤ mv then some s.time else none }) :=
  congrArg done (if_pos ⟨hoff, hvalid⟩)

theorem execPowerFailure_of_not_off (hon : s.mode.base ≠ .off) : execPowerFailure s = .next (powerOff s) :=
  congrArg _ (if_neg hon)

theorem execSchedulerTick_of_railsOn (w : SchedWork) (hrails : railsOn s = true) :
    execSchedulerTick w s = done (proceed (powerTick w s)) := congrArg done (if_pos hrails)

/-- In SERVICE a heartbeat that stays out begins QUIET. -/
theorem execHeartbeatTimeout_of_service (hruns : s.mode.hbRuns = true) (hset : s.mode.hbTimeout ≠ 0)
    (hservice : s.mode.base = .service) :
    execHeartbeatTimeout s = done (enterQuiet (s.atTime (s.mode.hbStart + 1000000 * s.mode.hbTimeout))) := by
  simp only [execHeartbeatTimeout, hruns, beq_eq_false_iff_ne.mpr hset, hservice, Bool.not_true, Bool.or_self,
    Bool.false_eq_true, if_false]

/-- The timer of the image sends the module to KEEPALIVE from QUIET (mode 4). -/
theorem execSleepTimer_of_quiet {t : Nat} (hfrom : s.can.sleepFrom = some t) (hset : imageNum s 0x26 2 ≠ 0)
    (hawake : s.mode.sleeping = none) (hquiet : modeNow s = 4) :
    execSleepTimer s = done (startSleep none (s.atTime (t + 1000000000 * imageNum s 0x26 2))) := by
  simp only [execSleepTimer, hfrom, hset, hawake, hquiet, Option.isSome_none, ne_eq, not_true_eq_false, decide_false,
    Bool.or_self, Bool.false_eq_true, if_false]

theorem execWakeSource_of_keepalive {c : Nat} (hasleep : s.mode.base = .keepalive) (henabled : wakeEnabled s c = true) :
    execWakeSource c s = done (wakeUp c s) := congrArg done (if_pos ⟨hasleep, henabled⟩)

theorem execChallengeExpired_of_open {c : List Byte × Nat} (hopen : s.mode.challenge = some c) :
    execChallengeExpired s = .next ((s.atTime c.2).mapMode fun m => { m with challenge := none }) := by
  simp only [execChallengeExpired, hopen]

/-! ### Boot (R504, R506) -/

section
variable (hboot : s.mode.base = .boot)
include hboot

theorem execBootRestart_of_boot : execBootRestart s = done (restartBoot s) := congrArg done (if_pos hboot)

/-- Without a configuration image no boot flag tells of one. -/
theorem execLightEntries_of_no_image (hfirst : s.mode.lightDone = false) (hnone : s.trust.config = none) :
    execLightEntries s = done (entriesGoOn (s.mapMode fun m => { m with lightDone := true, imageLeft := entriesOf 1 s })) := by
  simp only [execLightEntries, hboot, hfirst, hnone, Option.isSome_none, ne_eq, not_true_eq_false, or_self, Bool.false_eq_true,
    if_false]

/-- The state in which SERVICE begins: READY is set, the heartbeat runs and the image's entries for SERVICE wait. -/
def serviceEntered (s : State) : State :=
  setBase .service 1 (s.mapMode fun m =>
    { m with
      ready := true, readyMs := (s.time - m.bootTime) / 1000000, hbRuns := true, hbStart := s.time
      imageLeft := entriesOf 2 s })

/-- The state in which the boot attestation waits to be signed. -/
def bootSigning (t : State) : State :=
  t.mapTrust fun x => { x with signing := x.signing ++ [.boot (attestBody 1 [] t)] }

/-- The state in which a power hold that is in force as SERVICE begins is counted. -/
def holdCounted (t : State) : State :=
  if holding t then t.mapPower fun p => { p with holdEntries := inc32 p.holdEntries } else t

/-- With the light entries done, none left or running, and no device lost, SERVICE begins. -/
theorem execServiceReady_of_done (hlight : s.mode.lightDone = true) (hleft : s.mode.imageLeft = [])
    (hrun : s.mode.imageBarge = none) (hdevices : s.mem.lost.any id = false) :
    execServiceReady s = done (entriesGoOn (holdCounted (bootSigning (serviceEntered s)))) := by
  simp only [execServiceReady, hboot, hlight, hleft, hrun, hdevices, List.isEmpty_nil, Option.isSome_none, ne_eq,
    not_true_eq_false, Bool.not_true, or_self, Bool.false_eq_true, if_false]
  rfl

end

end

/-! ### The obligations -/

/-- Settles O6: with its checks passed each of these barges is its effect, of which the open challenge and DEPOT choose the
branch. -/
theorem modeBarges : Obligations.ModeBarges :=
  ⟨bargeSync_executed, fun _ _ _ hcheck hopen => barge_executed_eq hcheck (depotChallengeApply_of_open hopen),
    fun _ _ hcheck hnone => barge_executed_eq hcheck (depotChallengeApply_of_none hnone),
    fun _ _ hcheck hdepot => bargeSync_executed_eq hcheck (depotEnterApply_of_depot hdepot),
    fun _ _ hcheck hout => bargeSync_executed_eq hcheck (if_neg hout),
    fun _ _ hcheck hdepot => bargeSync_executed_eq hcheck (depotExitApply_of_depot hdepot),
    fun _ _ hcheck hout => bargeSync_executed_eq hcheck (depotExitApply_of_not_depot hout)⟩

/-- Settles O17: with its checks passed each of these barges is its effect; a patch that is active is not activated again. -/
theorem trustBarges : Obligations.TrustBarges :=
  ⟨barge_executed, barge_executed,
    fun _ _ hcheck hactive => barge_executed_eq hcheck (patchActivateApply_of_active hactive),
    fun b s hcheck _ => barge_executed b s hcheck, barge_executed, barge_executed, barge_executed,
    fun b s hcheck => barge_executed_eq hcheck (rollbackAdvanceApply_eq b s)⟩

/-- Settles O20: the value written, the state of ring 0 and the access choose one branch of each of these accesses; FENCE_SIGNAL,
the windows of BAR2 and the reads of a low word have one effect for each width or window. -/
theorem hostRegisters : Obligations.HostRegisters :=
  ⟨fun _ _ => execHeartbeat_of_railsOn, fun _ _ => execSnap_of_odd, fun _ _ _ => rfl, fun _ _ _ => rfl,
    fun _ _ => execAdminEnable_of_even, fun _ _ => execAdminEnable_of_absent, fun _ _ => execAdminReset_of_unstarted,
    fun _ _ => execBar2Base_of_good, fun _ _ => execBar2Base_of_bad, fun _ _ _ => rfl, fun _ _ _ => rfl, fun _ _ => rfl,
    fun _ _ => rfl, fun _ value _ => execRegisterWrite_bar0_of_word value,
    fun _ value _ => execRegisterWrite_bar0_of_two_words value, fun _ _ value _ => execRegisterWrite_bar0_of_bad value⟩

/-- Settles O31: the controller, the filters and the queues of CAN choose one branch of each of these events. -/
theorem vehicleEvents : Obligations.VehicleEvents :=
  ⟨fun _ => execVehicleStateTimeout_of_valid, fun i l _ => execCanFrameReceived_of_canOff i l,
    fun _ _ _ _ _ _ => execCanFrameReceived_of_taken, fun _ _ => execCanTimeout_of_stopValid,
    fun _ _ _ => execStatusCanTx_of_sent, fun a r _ => execCanBusError_of_canOn a r, fun _ => execCanBusOffRecovery_of_busOff⟩

/-- Settles O33: the mode, and the entries of the image that are left, choose one branch of each of these events. -/
theorem modeEvents : Obligations.ModeEvents :=
  ⟨fun _ _ => execVinValid_of_off, fun _ => execPowerFailure_of_not_off, fun w _ => execSchedulerTick_of_railsOn w,
    fun _ => execHeartbeatTimeout_of_service, fun _ _ => execSleepTimer_of_quiet, fun _ _ => execWakeSource_of_keepalive,
    fun _ => execBootRestart_of_boot, fun _ => execLightEntries_of_no_image,
    fun _ hboot hlight hleft hrun hdevices _ => execServiceReady_of_done hboot hlight hleft hrun hdevices,
    fun _ _ => execChallengeExpired_of_open⟩

end Sys2Proof.ModesAndTrust
end

section
/-! Faults, the self-test and the dump (18), and the towpath (19): what their opcodes do once their checks pass, and their
events. -/
namespace Sys2Proof.Faults
open Sys2Proof Sys2Proof.Machine Sys2Proof.HostLink Sys2Proof.PipesAndLinks

/-! ### The self-test's policy and the dump slots (R572, R574) -/

section
variable {b : Barge} {s : State}

/-- Without ACK the policy leaves the conditions of FAULT_OUT. -/
theorem selftestPolicyApply_of_no_ack (hack : bit (b.pay 12 1) 0 = false) :
    selftestPolicyApply b s =
      complete b .ok (s.mapFaults fun f =>
        { f with periods := [b.pay 0 2, b.pay 2 2, b.pay 4 2, b.pay 6 2, b.pay 8 2], foMask := b.pay 10 1 }) :=
  congrArg (complete b .ok) (if_neg (ne_true_of_eq_false hack))

theorem dumpClearApply_of_slots (hslots : bit (b.pay 0 1) 0 = true) (hflash : bit (b.pay 0 1) 1 = false) :
    dumpClearApply b s = complete b .ok (s.mapFaults fun f => { f with dumps := [none, none], log := [] }) := by
  simp only [dumpClearApply, hslots, hflash, Bool.false_eq_true, if_false, if_true]

end

/-! ### Devices, phases and quarters (R544, R546, R549, R550, R552) -/

section
variable {s : State}

/-- Two CRC failures in a row are retried; only a third declares the device lost. -/
theorem execGddr6CrcFail_of_few {d : Nat} (hheld : s.mem.lost.getD d true = false) (hfew : s.mem.crcFails.getD d 0 < 2) :
    execGddr6CrcFail d false s =
      done (s.mapMem fun m => { m with crcFails := m.crcFails.set d (s.mem.crcFails.getD d 0 + 1) }) := by
  have hnot : ¬3 ≤ s.mem.crcFails.getD d 0 + 1 := by omega
  simp only [execGddr6CrcFail, hheld, hnot, Bool.false_eq_true, if_false]

/-- Granules left with one copy are told in the event and as a shortfall. -/
theorem execRemirrorComplete_of_waiting (hwait : s.mem.remirror ≠ []) (hroom : oneCopyShort s = false) :
    execRemirrorComplete s =
      done (memoryShort 0xFFFF (remirrorAll s).mem.remirror.length 0 (decide (0 < (remirrorAll s).mem.remirror.length))
        (raise 161 0x0D06
          (leBytes 4 (s.mem.remirror.length - (remirrorAll s).mem.remirror.length) ++
            leBytes 4 (remirrorAll s).mem.remirror.length) (remirrorAll s))) := by
  simp only [execRemirrorComplete, List.isEmpty_eq_false_iff.mpr hwait, hroom, Bool.or_self, Bool.false_eq_true, if_false]

theorem execPhaseFault_of_railsOn (rail phase : Nat) (hrails : railsOn s = true) :
    execPhaseFault rail phase s = done (phaseFault rail phase s) := congrArg done (if_pos hrails)

/-- Of the cells reported as bad those of the quarter that are in use count. -/
theorem execQuarterSubstitution_of_quarter {q : Nat} (l : List Nat) (hrails : railsOn s = true) (hq : q < 4) :
    execQuarterSubstitution q l s =
      done ((quarterFault q s).mapPound fun p =>
        { p with badCells := (p.badCells ++ l.filter fun c => c / 4096 == q && p.used.contains c).eraseDups }) := by
  simp only [execQuarterSubstitution, hrails, hq, decide_true, Bool.and_self, if_true]

/-! ### Self-test steps and FAULT_OUT (R555, R558, R569) -/

/-- A step that is due starts on the next target of its kind when the power state allows it and no step of its kind runs. -/
theorem execSelftestStep_of_due {k : Nat} (hbase : s.mode.base.isBase = true) (hout : s.mode.contain = false)
    (hfree : holding s = false) (hmain : bit s.power.running 0 = true) (hset : s.faults.periods.getD k 0 ≠ 0)
    (hdue : s.faults.lastStep.getD k 0 + s.faults.periods.getD k 0 * 1000000000 ≤ s.time)
    (hidle : (s.faults.tests.any fun t => t.barge.isNone && stepOf t.kind == k) = false) :
    execSelftestStep k s =
      done (startStep k (s.faults.nextTarget.getD k 0) (s.mapFaults fun f =>
        { f with
          lastStep := f.lastStep.set k s.time
          nextTarget := f.nextTarget.set k ((s.faults.nextTarget.getD k 0 + 1) % max 1 (stepTargets.getD k 1)) })) := by
  simp only [execSelftestStep, hbase, hout, hfree, hmain, decide_eq_false hset, decide_eq_false (Nat.not_lt.mpr hdue), hidle,
    Bool.not_true, Bool.or_self, Bool.false_eq_true, if_false]

/-- The step of a kind that runs. -/
def runningStep (k : Nat) (s : State) : Option TestRun :=
  s.faults.tests.find? fun t => t.barge.isNone && !t.offline && !t.preparing && stepOf t.kind == k

theorem execSelftestStepEnd_of_pass {k : Nat} {t : TestRun} (hrun : runningStep k s = some t) :
    execSelftestStepEnd k true s =
      done (endTest t (s.mapFaults fun f => { f with tests := f.tests.filter (· != t) })) := by
  rw [runningStep] at hrun
  simp only [execSelftestStepEnd, hrun, if_true]

/-- The condition of a hold-over (bit 3) ends 1 s after the last one. -/
theorem execFaultOutConditionEnd_of_holdOver (hheld : bit s.faults.conditions 3 = true) :
    execFaultOutConditionEnd s = done (clearCondition 3 (s.atTime (s.faults.holdOverTime + 1000000000))) :=
  congrArg done (if_pos hheld)

/-! ### CONTAIN and the copy of a dump (R81, R561, R562, R567) -/

/-- The watchdog enters CONTAIN 50 ms after the oldest firmware tick (source 55) that was not claimed. -/
theorem execWatchdog_of_waiting {r : EvRec} {l : List EvRec} (hfifo : (s.source false 55).fifo = r :: l) :
    execWatchdog s = done (enterContain 1 (Config.freeNat s.free) 2 (s.atTime (r.time + 50000000))).takeFree := by
  simp only [execWatchdog, hfifo]

/-- The state in which the flash holds a dump that was copied. -/
def dumpCopied (d : Dump) (s : State) : State :=
  (s.mapFaults fun f => { f with copying := none }).mapFaults fun f => { f with flashDump := some d }

theorem execDumpCopyComplete_of_dump {k : Nat} {d : Dump} (hcopy : s.faults.copying = some k)
    (hdump : s.faults.dumps.getD k none = some d) :
    execDumpCopyComplete true s =
      done (raise 164 0x0D0B (leBytes 4 d.index ++ leBytes 4 (dumpLength d true)) (dumpCopied d s)) := by
  have hkept : (s.mapFaults fun f => { f with copying := none }).faults.dumps.getD k none = some d := hdump
  simp only [execDumpCopyComplete, dumpCopied, hcopy, hkept, if_true]

theorem execContainExit_of_contain (hin : s.mode.contain = true) : execContainExit s = done (leaveContain s) := by
  simp only [execContainExit, hin, Bool.not_true, Bool.false_eq_true, if_false]

/-! ### The towpath (R568, R582) -/

/-- A read of 1 to 4,095 bytes within its source answers them. -/
theorem execTowpathRead_of_good {g : Byte} {l : List Byte} {n : Nat} (hlen : l.length = 7) (hmin : 1 ≤ leNat (slice l 5 2))
    (hmax : leNat (slice l 5 2) ≤ 4095) (hsource : sourceLength s (leNat (slice l 0 1)) = some n)
    (hin : leNat (slice l 1 4) + leNat (slice l 5 2) ≤ n) :
    execTowpathRead g l s =
      .next (answerTow 0x84 g
        (leBytes 1 0 ++ sourceBytes s (leNat (slice l 0 1)) (leNat (slice l 1 4)) (leNat (slice l 5 2))) s) := by
  simp only [execTowpathRead, hlen, hmin, hmax, hsource, hin, beq_self_eq_true, decide_true, Bool.and_self, if_true]

end

/-! ### The obligations -/

/-- Settles O18: with its checks passed each of these barges is its effect, of which ACK and the slots to be cleared choose the
branch. -/
theorem faultBarges : Obligations.FaultBarges :=
  ⟨bargeSync_executed, fun _ _ hcheck hack => bargeSync_executed_eq hcheck (selftestPolicyApply_of_no_ack hack), barge_executed,
    fun _ _ hcheck hslots hflash => bargeSync_executed_eq hcheck (dumpClearApply_of_slots hslots hflash), bargeSync_executed⟩

/-- Settles O34: the device, the rails and the tests that run choose one branch of each of these events; a supply fault and a
lockstep mismatch have one effect. -/
theorem hardwareFaults : Obligations.HardwareFaults :=
  ⟨fun _ _ => rfl, fun _ _ => execGddr6CrcFail_of_few, fun _ => execRemirrorComplete_of_waiting,
    fun r p _ => execPhaseFault_of_railsOn r p, fun _ l _ => execQuarterSubstitution_of_quarter l, fun _ _ => rfl,
    fun _ _ => execSelftestStep_of_due, fun _ _ _ => execSelftestStepEnd_of_pass,
    fun _ => execFaultOutConditionEnd_of_holdOver⟩

/-- Settles O35: CONTAIN, the waiting events and the dump that is copied choose one branch of each of these events; an entry into
CONTAIN has one effect. -/
theorem containEvents : Obligations.ContainEvents :=
  ⟨fun _ _ _ _ => rfl, fun _ _ _ => execWatchdog_of_waiting, fun _ _ _ => execDumpCopyComplete_of_dump,
    fun _ => execContainExit_of_contain⟩

/-- Settles O37: the check value of a bad frame and the level of TP_CTS# choose a branch, and a read that is good has its bytes; the
other requests have one answer. -/
theorem towpath : Obligations.Towpath :=
  ⟨fun _ _ => rfl, fun _ _ => rfl, fun _ _ => rfl, fun _ _ _ _ => execTowpathRead_of_good, fun _ _ _ => rfl, fun _ _ _ => rfl,
    fun _ => rfl⟩

end Sys2Proof.Faults
end
